-- ==== Sys2Proof/Word.lean ====
section
/-! DEFINITION. The word types of the hardware: the 32-bit register and drover word, and the byte. -/

namespace Sys2Proof

/-- A register word, a drover register or a 32-bit address (spec/00_scope.md R5). -/
abbrev Word := BitVec 32

/-- One byte of a memory or of a packet. -/
abbrev Byte := BitVec 8

end Sys2Proof
end

