-- ==== Sys2Proof/Config.lean ====
section
/-! DEFINITION. The free values: what the spec leaves open and the hardware still produces. Every constant here is opaque: no proof can
see its value. -/

namespace Sys2Proof.Config

/-- The motion weight of a sample whose noise level and difference are both 0 (spec/02_intake.md R70 states it only for a difference
above 0). Used reduced to U1.10. -/
opaque motionAtZeroNoise : Nat → Nat

/-- Byte i of what a waystation save writes beyond the stated fields (spec/05_pipe_sharing.md R162 states no layout within the row store
and the reserved ranges). The first argument is the draw's number. -/
opaque waystationByte : Nat → Nat → Byte

/-- The 5,236 signature bytes of the attestation key (R448–R450): top leaf, signatures used, message. -/
opaque hssSign : Nat → Nat → List Byte → Vector Byte 5236

/-- A byte that TWT supplies for a read that got an error response, that the slot's view does not reach, or that lies beyond the legacy
table (spec/14_two_wire.md R412, R415, R422 state no value). The argument is the draw's number. -/
opaque twtByte : Nat → Byte

/-- The failing address in LASTERR for an error that no access caused (spec/14_two_wire.md R414, R421 state none). -/
opaque twtErrAddr : Nat → Word

/-- The ref channel code of a record whose mosaic has no G, C or Y sites (spec/04_colour_and_harvest.md R129 names no ref there). The
argument is the frame sequence. -/
opaque noRefCode : Nat → Byte

/-- A sample of a row whose stage history a waystation restore could not read (spec/05_pipe_sharing.md R164 puts 0 for the bytes of the
failed line; no layout of the row store says which samples those are). The arguments are the draw's number, the stage, and the position. -/
opaque lostSample : Nat → Nat → Nat → Nat → BitVec 24

/-- What a read of an AON word with an uncorrectable error answers (spec/16_power_and_modes.md R484 states no value). The argument is the draw's
number. -/
opaque aonWord : Nat → Word

/-- Whether an error injected into a PAM4 pattern moves its symbol up, where it has two adjacent levels (spec/10_lanes.md R323 names neither).
The argument is the draw's number. -/
opaque injectUp : Nat → Bool

end Sys2Proof.Config
end

