-- ==== Sys2Proof/Machine/Bits.lean ====
section
/-! DEFINITION. Bit fields, rounding (spec/00_scope.md R3, R4) and the sparse tables that memories and register files are made of. -/

namespace Sys2Proof.Machine

/-- Bits [hi:lo] of a natural number. -/
def bitsOf (n hi lo : Nat) : Nat := n / 2 ^ lo % 2 ^ (hi + 1 - lo)

/-- Field [hi:lo] of a register word. -/
def fld (w : Word) (hi lo : Nat) : Nat := bitsOf w.toNat hi lo

/-- Bit i of a register word. -/
def flag (w : Word) (i : Nat) : Bool := w.toNat.testBit i

/-- The word with field [hi:lo] replaced by v (reduced to the field's width). -/
def setFld (w : Word) (hi lo v : Nat) : Word :=
  BitVec.ofNat 32 (w.toNat % 2 ^ lo + v % 2 ^ (hi + 1 - lo) * 2 ^ lo + w.toNat / 2 ^ (hi + 1) * 2 ^ (hi + 1))

/-- The word with the bits of mask m taken from v and the others from w. -/
def mixBits (w v m : Word) : Word := (w &&& ~~~ m) ||| (v &&& m)

/-- The word with bit i set. -/
def setBit (w : Word) (i : Nat) : Word := w ||| BitVec.ofNat 32 (2 ^ i)

/-- The word with bit i cleared. -/
def clearBit (w : Word) (i : Nat) : Word := w &&& ~~~ (BitVec.ofNat 32 (2 ^ i))

/-- One as a number when true. -/
def bnat (b : Bool) : Nat := if b then 1 else 0

/-- A two's-complement number of n bits. -/
def sInt (n v : Nat) : Int := if v % 2 ^ n < 2 ^ (n - 1) then (v % 2 ^ n : Nat) else (v % 2 ^ n : Nat) - (2 ^ n : Nat)

/-- Rounded quotient: half of the last place is added, then truncated (R4). -/
def rdiv (a : Int) (b : Nat) : Int := (2 * a + b) / (2 * b)

/-- Rounded quotient of natural numbers (R4). -/
def rdivN (a b : Nat) : Nat := (2 * a + b) / (2 * b)

/-- Saturation to an unsigned range 0..top. -/
def satU (top : Nat) (a : Int) : Nat := min top a.toNat

/-- Clamp of an integer to lo..hi. -/
def clampI (a lo hi : Int) : Int := max lo (min hi a)

/-- The distance of two natural numbers. -/
def dist (a b : Nat) : Nat := (a - b) + (b - a)

/-- The largest value of U24.0. -/
def u24 : Nat := 16777215

/-- The rounded quotient upward. -/
def ceilDiv (a b : Nat) : Nat := (a + b - 1) / b

/-- A count that stops at its top. -/
def satInc (top n : Nat) : Nat := if n < top then n + 1 else top

/-- Entry i of a fixed table; the type's default beyond its end (no such index is ever built). -/
def vget {α : Type} {n : Nat} [Inhabited α] (v : Vector α n) (i : Nat) : α := v.toList.getD i default

/-- The table with entry i changed by f; unchanged beyond its end. -/
def vmod {α : Type} {n : Nat} (v : Vector α n) (i : Nat) (f : α → α) : Vector α n :=
  if h : i < n then v.set i (f v[i]) else v

/-- The value a sparse table holds at a key: its entry, or the default. -/
def sGet {α : Type} (d : α) : List (Nat × α) → Nat → α
  | [], _ => d
  | (k, v) :: t, a => if a = k then v else sGet d t a

/-- Insertion that keeps keys rising. -/
def sIns {α : Type} (a : Nat) (v : α) : List (Nat × α) → List (Nat × α)
  | [] => [(a, v)]
  | (k, w) :: t => if a < k then (a, v) :: (k, w) :: t else if a = k then (a, v) :: t else (k, w) :: sIns a v t

/-- Removal of a key. -/
def sDel {α : Type} (a : Nat) : List (Nat × α) → List (Nat × α)
  | [] => []
  | (k, w) :: t => if a = k then sDel a t else (k, w) :: sDel a t

/-- A write to a sparse table: writing the default removes the entry, so equal contents are equal lists. -/
def sPut {α : Type} [DecidableEq α] (d : α) (l : List (Nat × α)) (a : Nat) (v : α) : List (Nat × α) :=
  if v = d then sDel a l else sIns a v l

/-- The keys of a sparse table rise strictly. -/
def sSorted {α : Type} (l : List (Nat × α)) : Bool := decide ((l.map Prod.fst).Pairwise (· < ·))

/-- The canonical form of a sparse table: keys rise strictly and no entry equals the default of its key. -/
def sWf {α : Type} [DecidableEq α] (d : Nat → α) (l : List (Nat × α)) : Bool :=
  sSorted l && l.all (fun p => decide (p.2 ≠ d p.1))

/-- The part of a sparse table with keys from lo (len of them). -/
def sSlice {α : Type} (l : List (Nat × α)) (lo len : Nat) : List (Nat × α) :=
  l.filter (fun p => decide (lo ≤ p.1) && decide (p.1 < lo + len))

/-- The first n entries of a list whose element satisfies p, with its index. -/
def findIdx? {α : Type} (p : α → Bool) : List α → Option Nat
  | [] => none
  | x :: t => if p x then some 0 else (findIdx? p t).map (· + 1)

/-- A list with entry i changed by f. -/
def lmod {α : Type} (l : List α) (i : Nat) (f : α → α) : List α := l.modify i f

/-- Little-endian value of a list of bytes. -/
def leVal : List Byte → Nat
  | [] => 0
  | b :: t => b.toNat + 256 * leVal t

/-- The n little-endian bytes of a number. -/
def leBytes : Nat → Nat → List Byte
  | 0, _ => []
  | n + 1, v => BitVec.ofNat 8 v :: leBytes n (v / 256)

/-- Big-endian value of a list of bytes. -/
def beVal (l : List Byte) : Nat := l.foldl (fun a b => a * 256 + b.toNat) 0

/-- The n big-endian bytes of a number. -/
def beBytes (n v : Nat) : List Byte := (leBytes n v).reverse

/-- The sum of a function over 0..n-1. -/
def sumTo (n : Nat) (f : Nat → Nat) : Nat := (List.range n).foldl (fun a i => a + f i) 0

end Sys2Proof.Machine
end

