-- ==== Sys2Proof/Machine/RegMap.lean ====
section
/-! DEFINITION. The register tables of spec/: every register's place, reset value and access code, as masks over its bits
(spec/12_register_access.md R363, R379). A bit under no mask is read-only or reserved. -/

namespace Sys2Proof.Machine

/-- A row of a register table: a register, or a family of cnt registers step bytes apart, with its reset value and the masks of its
read-write, staged, sequence-clear, guarded, write-once, pulse and write-only bits. -/
structure RegRow where
  name  : String
  off   : Nat
  cnt   : Nat := 1
  step  : Nat := 4
  reset : Nat := 0
  rw    : Nat := 0
  rws   : Nat := 0
  sqc   : Nat := 0
  grd   : Nat := 0
  once  : Nat := 0
  pulse : Nat := 0
  wo    : Nat := 0
deriving DecidableEq, Repr

/-- The registers of a GLOBAL block, by offset, from the tables of spec/01_architecture.md and 12_register_access.md. -/
def regsGlobal : List RegRow := [
  { name := "GLOBAL_TREE", off := 0x10, reset := 0xF0000, once := 0xFF },
  { name := "GLOBAL_MODE", off := 0x14, reset := 0x2 },
  { name := "GLOBAL_PROFILE", off := 0x18, reset := 0x101, rws := 0x3 },
  { name := "GLOBAL_ID", off := 0x0, reset := 0x961601B1 },
  { name := "GLOBAL_STRAP", off := 0x4 },
  { name := "GLOBAL_RESET", off := 0x8, grd := 0xFFFFFFFF },
  { name := "GLOBAL_RESET_CAUSE", off := 0x20, reset := 0x1 },
  { name := "GLOBAL_SCRATCH", off := 0x30, rw := 0xFFFFFFFF }]

/-- The registers of a CUSTOMS block, by offset, from the tables of spec/13_fault_collector.md. -/
def regsCustomsA : List RegRow := [
  { name := "FLT_STATUS", off := 0x0, sqc := 0xFF00000F },
  { name := "FLT_CTRL", off := 0x4, pulse := 0x3 },
  { name := "FLT_PIN_THRESHOLD", off := 0x8, reset := 0x1, grd := 0x7 },
  { name := "FLT_TEST_UNLOCK", off := 0x10, grd := 0x1 },
  { name := "FLT_REPORT", off := 0x18, reset := 0x9, rw := 0x1F },
  { name := "FLT_FIRST0–FLT_FIRST5", off := 0x20, cnt := 6, step := 0x4 },
  { name := "CUS_BEAT_CFG", off := 0x38, rw := 0xFFFF },
  { name := "CUS_BEAT", off := 0x3C, wo := 0xFFFFFFFF },
  { name := "FLT_ACK", off := 0x40, wo := 0xFF0001FF },
  { name := "FLT_UNIT", off := 0x44, wo := 0x3FF },
  { name := "FLT_LEDGER_PTR", off := 0x48, rw := 0x3F },
  { name := "FLT_SUMMARY", off := 0x4C },
  { name := "FLT_UNACK0–FLT_UNACK5", off := 0x60, cnt := 6, step := 0x4 },
  { name := "FLT_FORCE0–FLT_FORCE5", off := 0x80, cnt := 6, step := 0x4, pulse := 0xFFFFFFFF },
  { name := "FLT_FENCED0–FLT_FENCED2", off := 0xA0, cnt := 3, step := 0x4 },
  { name := "FLT_PANCNTb, b = 0–7", off := 0xC0, cnt := 8, step := 0x4 },
  { name := "Ledger entry i word 0", off := 0x400, cnt := 32, step := 0x20 },
  { name := "Ledger entry i word 1", off := 0x404, cnt := 32, step := 0x20 },
  { name := "Ledger entry i word 2", off := 0x408, cnt := 32, step := 0x20 },
  { name := "Ledger entry i word 3", off := 0x40C, cnt := 32, step := 0x20 },
  { name := "Ledger entry i word 4", off := 0x410, cnt := 32, step := 0x20 },
  { name := "Ledger entry i word 5", off := 0x414, cnt := 32, step := 0x20 },
  { name := "Ledger entry i word 6", off := 0x418, cnt := 32, step := 0x20 },
  { name := "Ledger entry i word 7", off := 0x41C, cnt := 32, step := 0x20 }]
/-- The registers of a CUSTOMS block, continued. -/
def regsCustomsB : List RegRow := [
  { name := "FLT_SEV0", off := 0x800, reset := 0x4, grd := 0x7 },
  { name := "FLT_SEV1", off := 0x808, reset := 0x3, grd := 0x7 },
  { name := "FLT_SEV2–3", off := 0x810, cnt := 2, step := 0x8, grd := 0x7 },
  { name := "FLT_SEV4–6", off := 0x820, cnt := 3, step := 0x8, reset := 0x3, grd := 0x7 },
  { name := "FLT_SEV7", off := 0x838, grd := 0x7 },
  { name := "FLT_SEV8–15", off := 0x840, cnt := 8, step := 0x8, reset := 0x1, grd := 0x7 },
  { name := "FLT_SEV16–102", off := 0x880, cnt := 87, step := 0x8, grd := 0x7 },
  { name := "FLT_SEV103", off := 0xB38, reset := 0x3, grd := 0x7 },
  { name := "FLT_SEV104–106", off := 0xB40, cnt := 3, step := 0x8, reset := 0x2, grd := 0x7 },
  { name := "FLT_SEV107–141", off := 0xB58, cnt := 35, step := 0x8, grd := 0x7 },
  { name := "FLT_SEV142", off := 0xC70, reset := 0x1, grd := 0x7 },
  { name := "FLT_SEV143", off := 0xC78, grd := 0x7 },
  { name := "FLT_SEV144–151", off := 0xC80, cnt := 8, step := 0x8, reset := 0x1, grd := 0x7 },
  { name := "FLT_SEV152–168", off := 0xCC0, cnt := 17, step := 0x8, grd := 0x7 },
  { name := "FLT_SEV169", off := 0xD48, reset := 0x3, grd := 0x7 },
  { name := "FLT_SEV170–191", off := 0xD50, cnt := 22, step := 0x8, grd := 0x7 }]
/-- The whole register table of a CUSTOMS block. -/
def regsCustoms : List RegRow := regsCustomsA ++ regsCustomsB

/-- The registers of a POWER block, by offset, from the tables of spec/16_power_and_modes.md. -/
def regsPower : List RegRow := [
  { name := "PWR_STATUS", off := 0x0, sqc := 0xFF0001FF },
  { name := "PWR_MODE", off := 0x4, wo := 0xF },
  { name := "PWR_LINE", off := 0x8 },
  { name := "PWR_CLASS", off := 0xC, reset := 0x11 },
  { name := "PWR_BUDGET", off := 0x10, reset := 0x4E20000 },
  { name := "PWR_PDEN0", off := 0x14, reset := 0x80000000, rw := 0xFFFFFFFF },
  { name := "PWR_PDEN1", off := 0x18, reset := 0x3807F, rw := 0x3FFFF },
  { name := "PWR_PDON0", off := 0x1C, reset := 0x80000000 },
  { name := "PWR_PDON1", off := 0x20, reset := 0x3807F },
  { name := "PWR_CTRL", off := 0x24, pulse := 0x1 },
  { name := "PWR_FEEDf, f = 0, 1", off := 0x40, cnt := 2, step := 0x8, reset := 0x3000000, rw := 0x87000000 },
  { name := "PWR_FEEDf_MEAS", off := 0x44, cnt := 2, step := 0x8 }]

/-- The registers of a THERMAL block, by offset, from the tables of spec/16_power_and_modes.md. -/
def regsThermal : List RegRow := [
  { name := "THERM_TJ", off := 0x0 },
  { name := "THERM_STATUS", off := 0x4, sqc := 0xFF00001F },
  { name := "THERM_WARN", off := 0x8, reset := 0x7D0, rw := 0x8000FFFF },
  { name := "THERM_PEAK", off := 0xC, pulse := 0x80000000 },
  { name := "THERM_SENSk, k = 0–13", off := 0x40, cnt := 14, step := 0x4 }]

/-- The registers of a BOOT block, by offset, from the tables of spec/15_boot_identity_heads.md. -/
def regsBoot : List RegRow := [
  { name := "BOOT_STATUS", off := 0x0, reset := 0x300, sqc := 0xFF00003F },
  { name := "BOOT_BUNDLE", off := 0x4 },
  { name := "BOOT_FAIL", off := 0x8 }]

/-- The registers of a SEC block, by offset, from the tables of spec/15_boot_identity_heads.md. -/
def regsSec : List RegRow := [
  { name := "SEC_CTRL", off := 0x0, pulse := 0x7 },
  { name := "SEC_STATUS", off := 0x4, reset := 0x100, sqc := 0xFF00003F },
  { name := "SEC_VFY_RESULT", off := 0x8 },
  { name := "SEC_DL", off := 0xC, reset := 0x1000800, rw := 0x1FFFFFF },
  { name := "SEC_NONCE0–SEC_NONCE7", off := 0x20, cnt := 8, step := 0x4, rw := 0xFFFFFFFF },
  { name := "SEC_ATT_BUF", off := 0x40, rw := 0x1FFF000 },
  { name := "SEC_ATT_LEN", off := 0x44 },
  { name := "SEC_LEAF", off := 0x48 },
  { name := "SEC_ROLLBACK", off := 0x50, grd := 0x7F },
  { name := "SEC_REVOKE", off := 0x58, grd := 0x3 },
  { name := "SEC_ROOTS", off := 0x60 }]

/-- The registers of a OTP block, by offset, from the tables of spec/15_boot_identity_heads.md. -/
def regsOtp : List RegRow := [
  { name := "OTP_ADDR", off := 0x0, rw := 0x3FFC },
  { name := "OTP_DATA", off := 0x4 }]

/-- The registers of a TIME block, by offset, from the tables of spec/11_time.md (and 06_views_taps_convoys.md for TIME_CV). -/
def regsTimeA : List RegRow := [
  { name := "TIME_CV_CFG", off := 0x400, rws := 0x1 },
  { name := "TIME_CV_PER", off := 0x404, reset := 0xFE502A, rws := 0xFFFFFFFF },
  { name := "TIME_CV_PERF", off := 0x408, reset := 0xAAAAAB, rws := 0xFFFFFF },
  { name := "TIME_CV_PHASE", off := 0x40C, rws := 0xFFFFFFFF },
  { name := "TIME_CV_NOW", off := 0x410, reset := 0xFFFFFFFF },
  { name := "TIME_CV_STATUS", off := 0x414, sqc := 0xFF000006 },
  { name := "TIME_CTRL", off := 0x0, pulse := 0x7 },
  { name := "TIME_STATUS", off := 0x4, sqc := 0xFF00007F },
  { name := "TIME_ADDEND", off := 0x8, reset := 0x80000000, rw := 0xFFFFFFFF },
  { name := "TIME_STEP_LIMIT", off := 0xC, reset := 0x3E8, rw := 0xFFFFFFFF },
  { name := "TIME_STEP_SEC", off := 0x10, rw := 0xFFFFFFFF },
  { name := "TIME_STEP_NS", off := 0x14, rw := 0xFFFFFFFF },
  { name := "TIME_FORCE", off := 0x18, grd := 0x1 },
  { name := "TIME_SNAP_NS", off := 0x20 },
  { name := "TIME_SNAP_SECLO", off := 0x24 },
  { name := "TIME_SNAP_SECHI", off := 0x28 },
  { name := "TIME_SNAP_FRAC", off := 0x2C },
  { name := "TIME_TS_CFG", off := 0x30, reset := 0x7, rw := 0x3F07 },
  { name := "TIME_TSQ_DEPTH", off := 0x34 },
  { name := "TIME_CCu_CFG, u = 0–3", off := 0x100, cnt := 4, step := 0x10, rws := 0x1 },
  { name := "TIME_CCu_PER", off := 0x104, cnt := 4, step := 0x10, reset := 0xF4240, rws := 0xFFFFFFFF },
  { name := "TIME_CCu_PHASE", off := 0x108, cnt := 4, step := 0x10, rws := 0xFFFFFFFF },
  { name := "TIME_TSQq_HDR, q = 0–5", off := 0x200, cnt := 6, step := 0x20 },
  { name := "TIME_TSQq_SECLO", off := 0x204, cnt := 6, step := 0x20 }]
/-- The registers of a TIME block, continued. -/
def regsTimeB : List RegRow := [
  { name := "TIME_TSQq_SECHI", off := 0x208, cnt := 6, step := 0x20 },
  { name := "TIME_TSQq_NS", off := 0x20C, cnt := 6, step := 0x20 },
  { name := "TIME_TSQq_FRAC", off := 0x210, cnt := 6, step := 0x20 },
  { name := "TIME_TRIGn_CFG, n = 0–15", off := 0x600, cnt := 16, step := 0x10, reset := 0x7D000, rws := 0xC0FFF000 },
  { name := "TIME_TRIGn_SEL", off := 0x604, cnt := 16, step := 0x10, rws := 0xFF00FF },
  { name := "TIME_TRIGn_OFF", off := 0x608, cnt := 16, step := 0x10, rws := 0xFFFFFFFF },
  { name := "TIME_TRIGn_CNT", off := 0x60C, cnt := 16, step := 0x10 },
  { name := "TIME_CAPn_CFG, n = 0–7", off := 0x800, cnt := 8, step := 0x20, reset := 0x1, rw := 0x80003F07 },
  { name := "TIME_CAPn_MIN", off := 0x804, cnt := 8, step := 0x20, reset := 0x3E8, rw := 0xFFFFF },
  { name := "TIME_CAPn_MAX", off := 0x808, cnt := 8, step := 0x20, reset := 0x2710, rw := 0xFFFFF },
  { name := "TIME_CAPn_HDR", off := 0x80C, cnt := 8, step := 0x20 },
  { name := "TIME_CAPn_SECLO", off := 0x810, cnt := 8, step := 0x20 },
  { name := "TIME_CAPn_SECHI", off := 0x814, cnt := 8, step := 0x20 },
  { name := "TIME_CAPn_NS", off := 0x818, cnt := 8, step := 0x20 },
  { name := "TIME_CAPn_CNT", off := 0x81C, cnt := 8, step := 0x20 }]
/-- The whole register table of a TIME block. -/
def regsTime : List RegRow := regsTimeA ++ regsTimeB

/-- The registers of a TWT block, by offset, from the tables of spec/14_two_wire.md. -/
def regsTwt : List RegRow := [
  { name := "TWT_CFG", off := 0x0, reset := 0x310, rw := 0x1F31 },
  { name := "TWT_SLOT0", off := 0x10, reset := 0x80007F58, rw := 0x83307F7F },
  { name := "TWT_SLOTk, k = 1–3", off := 0x14, cnt := 3, step := 0x4, reset := 0x7F00, rw := 0x83307F7F },
  { name := "TWT_STATUS", off := 0x20, sqc := 0xFF00003F },
  { name := "TWT_CNT", off := 0x24 },
  { name := "TWT_LEGACY", off := 0x28, reset := 0x3F, rw := 0x3F },
  { name := "TWS_CFG of TWT", off := 0x1000, reset := 0x19000020, rw := 0xFF3F0070 },
  { name := "TWS_STATUS of TWT", off := 0x100C, sqc := 0xFF00001F },
  { name := "TWS_CTRL of TWT", off := 0x1010, pulse := 0x3 },
  { name := "TWS_SUBMIT of TWT", off := 0x1014, wo := 0xF },
  { name := "TWS_DONE of TWT", off := 0x1018 },
  { name := "TWS_CNT of TWT", off := 0x101C },
  { name := "TWS_DESCk of TWT", off := 0x1100, cnt := 16, step := 0x4, rw := 0xFC7F3F3F },
  { name := "TWS_DATAk,i of TWT", off := 0x1400, cnt := 128, step := 0x4, rw := 0xFFFFFFFF }]

/-- The registers of a TWS block, by offset, from the tables of spec/14_two_wire.md. -/
def regsTws : List RegRow := [
  { name := "TWS_CFG", off := 0x0, reset := 0x19000324, rw := 0xFF3F1F7D },
  { name := "TWS_WIN", off := 0x4, reset := 0x190, rw := 0xCFFFFFFF },
  { name := "TWS_WIN1", off := 0x8, reset := 0x14, rw := 0xFFF },
  { name := "TWS_STATUS", off := 0xC, sqc := 0xFF00001F },
  { name := "TWS_CTRL", off := 0x10, pulse := 0x3 },
  { name := "TWS_SUBMIT", off := 0x14, wo := 0xF },
  { name := "TWS_DONE", off := 0x18 },
  { name := "TWS_CNT", off := 0x1C },
  { name := "TWS_DESCk, k = 0–15", off := 0x100, cnt := 16, step := 0x4, rw := 0xFC7F3F3F },
  { name := "TWS_DATAk,i", off := 0x400, cnt := 128, step := 0x4, rw := 0xFFFFFFFF }]

/-- The registers of a HEAD block, by offset, from the tables of spec/15_boot_identity_heads.md. -/
def regsHead : List RegRow := [
  { name := "HEAD_CFGc", off := 0x0, cnt := 16, step := 0x40, reset := 0x500100, rw := 0x837FFF00 },
  { name := "HEAD_STATUSc", off := 0x4, cnt := 16, step := 0x40, sqc := 0xFF000007 },
  { name := "HEAD_IDc0", off := 0x8, cnt := 16, step := 0x40 },
  { name := "HEAD_IDc1", off := 0xC, cnt := 16, step := 0x40 },
  { name := "HEAD_IDc2", off := 0x10, cnt := 16, step := 0x40 },
  { name := "HEAD_IDc3", off := 0x14, cnt := 16, step := 0x40 },
  { name := "HEAD_IDc4", off := 0x18, cnt := 16, step := 0x40 },
  { name := "HEAD_IDc5", off := 0x1C, cnt := 16, step := 0x40 },
  { name := "HEAD_PHRc", off := 0x20, cnt := 16, step := 0x40 },
  { name := "HEAD_HOTc", off := 0x24, cnt := 16, step := 0x40 },
  { name := "HEAD_CYCc", off := 0x28, cnt := 16, step := 0x40 },
  { name := "HEAD_TEMPc", off := 0x2C, cnt := 16, step := 0x40, rw := 0xFFFF },
  { name := "HEAD_WBc0", off := 0x30, cnt := 16, step := 0x40 },
  { name := "HEAD_WBc1", off := 0x34, cnt := 16, step := 0x40 },
  { name := "HEAD_WBc2", off := 0x38, cnt := 16, step := 0x40 },
  { name := "HEAD_WBc3", off := 0x3C, cnt := 16, step := 0x40 }]

/-- The registers of a CSI block, by offset, from the tables of spec/02_intake.md. -/
def regsCsi : List RegRow := [
  { name := "CSI_CFG", off := 0x0, reset := 0x1458, rw := 0xFF7F },
  { name := "CSI_STATUS", off := 0x4, sqc := 0xFF0001FE },
  { name := "CSI_CNT_ECC", off := 0x8 },
  { name := "CSI_CNT_PKT", off := 0xC },
  { name := "CSI_CTRL", off := 0x10, pulse := 0x3 },
  { name := "CSI_ROUTEk", off := 0x40, cnt := 16, step := 0x4, rws := 0xFFEF3703 }]

/-- The registers of a CTX block, by offset, from the tables of spec/02–06. -/
def regsCtxA : List RegRow := [
  { name := "CTX_CFG", off := 0x0, rws := 0x3F7F },
  { name := "CTX_GEOM", off := 0x4, reset := 0x4380780, rws := 0x3FFF3FFF },
  { name := "CTX_ILV", off := 0x8, rws := 0xFFFFFF },
  { name := "CTX_SLUICE", off := 0xC, reset := 0x8, rws := 0xFF },
  { name := "CTX_TMAX", off := 0x10, reset := 0x186A0, rws := 0xFFFFFF },
  { name := "CTX_ED_CFG", off := 0x80, rws := 0x377 },
  { name := "CTX_ED_FIELDf, f = 0–7", off := 0x84, cnt := 8, step := 0x4, rws := 0xFFFFFF1F },
  { name := "CTX_ED_VALf, f = 0–7", off := 0xC0, cnt := 8, step := 0x4 },
  { name := "CTX_LIN_CFG", off := 0x100, reset := 0x2020200, rws := 0x3F3F3FFF },
  { name := "CTX_LIN_LUTe, e = 0–3", off := 0x110, cnt := 4, step := 0x4, rws := 0x1FFC000 },
  { name := "CTX_KNEE_X 0,k", off := 0x800, cnt := 33, step := 0x10, rws := 0xFFFFFF },
  { name := "CTX_KNEE_X 1,k", off := 0xC00, cnt := 33, step := 0x10, rws := 0xFFFFFF },
  { name := "CTX_KNEE_X 2,k", off := 0x1000, cnt := 33, step := 0x10, rws := 0xFFFFFF },
  { name := "CTX_KNEE_X 3,k", off := 0x1400, cnt := 33, step := 0x10, rws := 0xFFFFFF },
  { name := "CTX_KNEE_Y 0,k", off := 0x804, cnt := 33, step := 0x10, rws := 0xFFFFFF },
  { name := "CTX_KNEE_Y 1,k", off := 0xC04, cnt := 33, step := 0x10, rws := 0xFFFFFF },
  { name := "CTX_KNEE_Y 2,k", off := 0x1004, cnt := 33, step := 0x10, rws := 0xFFFFFF },
  { name := "CTX_KNEE_Y 3,k", off := 0x1404, cnt := 33, step := 0x10, rws := 0xFFFFFF },
  { name := "CTX_KNEE_M 0,k", off := 0x808, cnt := 33, step := 0x10, reset := 0x1000, rws := 0xFFFFFF },
  { name := "CTX_KNEE_M 1,k", off := 0xC08, cnt := 33, step := 0x10, reset := 0x1000, rws := 0xFFFFFF },
  { name := "CTX_KNEE_M 2,k", off := 0x1008, cnt := 33, step := 0x10, reset := 0x1000, rws := 0xFFFFFF },
  { name := "CTX_KNEE_M 3,k", off := 0x1408, cnt := 33, step := 0x10, reset := 0x1000, rws := 0xFFFFFF },
  { name := "CTX_BLK e,c", off := 0x300, cnt := 32, step := 0x4, rws := 0xFFFFFF },
  { name := "CTX_BLK_GAINe, e = 0–3", off := 0x380, cnt := 4, step := 0x4, reset := 0x4000, rws := 0xFFFF }]
/-- The registers of a CTX block, continued. Bit 7 of a site byte, which R82 reserves and the register table gives to its staged words, is
stored and read back (DESIGN CHOICE, log 118). -/
def regsCtxB : List RegRow := [
  { name := "CTX_MRG_GAIN0", off := 0x3A0, reset := 0x400 },
  { name := "CTX_MRG_GAINe, e = 1–3", off := 0x3A4, cnt := 3, step := 0x4, reset := 0x400, rws := 0xFFFFF },
  { name := "CTX_MRG_THRe, e = 0–2", off := 0x3B0, cnt := 3, step := 0x4, reset := 0x8FFFFFF, rws := 0x1FFFFFFF },
  { name := "CTX_MRG_MOT", off := 0x3C0, reset := 0xC181, rws := 0xFFF3 },
  { name := "CTX_MRG_NOISEi, i = 0–24", off := 0x400, cnt := 25, step := 0x4, rws := 0xFFFF },
  { name := "CTX_STATUS", off := 0x14, sqc := 0xFF000FFF },
  { name := "CTX_FRAME", off := 0x18 },
  { name := "CTX_LAST", off := 0x1C },
  { name := "CTX_CNT", off := 0x20 },
  { name := "CTX_MOS_CFG", off := 0x120, reset := 0xF00011, rws := 0x1F07733 },
  { name := "CTX_MOS_SITE0", off := 0x200, reset := 0x1100, rws := 0x7F7F7F7F },
  { name := "CTX_MOS_SITE2", off := 0x208, reset := 0x3221, rws := 0x7F7F7F7F },
  { name := "CTX_MOS_SITEk", off := 0x200, cnt := 16, step := 0x4, rws := 0x7F7F7F7F },
  { name := "CTX_DPC_CFG", off := 0x140, reset := 0xFF00, rws := 0x3FFFFF03 },
  { name := "CTX_DPC_MAP", off := 0x144, rws := 0x1FFF000 },
  { name := "CTX_DPC_CNT", off := 0x148 },
  { name := "CTX_DPC_THRc, c = 0–7", off := 0x240, cnt := 8, step := 0x4, reset := 0x20000400, rws := 0xFFFFFFFF },
  { name := "CTX_MOS_STATUS", off := 0x164, sqc := 0xFF00001F },
  { name := "CTX_LSC_CFG", off := 0x150, rws := 0x1FF00FF },
  { name := "CTX_WB_CLIP", off := 0x154, reset := 0xFFFFFF, rws := 0xFFFFFF },
  { name := "CTX_WBc, c = 0–7", off := 0x260, cnt := 8, step := 0x4, reset := 0x1000, rws := 0xFFFF },
  { name := "CTX_NR_CFG", off := 0x158, rws := 0x1 },
  { name := "CTX_NRc, c = 0–7", off := 0x280, cnt := 8, step := 0x4, reset := 0x800020, rws := 0x1FF00FF },
  { name := "CTX_IRXc, c = 0–7", off := 0x2A0, cnt := 8, step := 0x4, rws := 0xFFF1FFF }]
/-- The registers of a CTX block, continued. -/
def regsCtxC : List RegRow := [
  { name := "CTX_DMS_CFG", off := 0x160, reset := 0x100, rws := 0xFFFFFF },
  { name := "CTX_CCM 0,0", off := 0x500, reset := 0x1000, rws := 0xFFFF },
  { name := "CTX_CCM 1,1", off := 0x518, reset := 0x1000, rws := 0xFFFF },
  { name := "CTX_CCM 2,2", off := 0x530, reset := 0x1000, rws := 0xFFFF },
  { name := "CTX_CCM i,j", off := 0x500, cnt := 15, step := 0x4, rws := 0xFFFF },
  { name := "CTX_CCM_OFFi, i = 0–2", off := 0x540, cnt := 3, step := 0x4, rws := 0xFFFFFF },
  { name := "CTX_TONE_CFG", off := 0x550, rws := 0x1FFF007 },
  { name := "CTX_LTM_CFG", off := 0x554, reset := 0x80, rws := 0xFF },
  { name := "CTX_LTM_BIAS", off := 0x558, rws := 0x1FFF },
  { name := "CTX_LTM_GAINk, k = 0–24", off := 0x560, cnt := 25, step := 0x4, reset := 0x1000, rws := 0xFFFF },
  { name := "CTX_LTM_GRID", off := 0x5E4 },
  { name := "CTX_LTM_GRIDEP", off := 0x5E8 },
  { name := "CTX_OUT_CFG", off := 0x5C4, reset := 0x15, rws := 0x1FFF03F },
  { name := "CTX_IRP_CFG", off := 0x5E0, reset := 0x1000, rws := 0x1FFFF },
  { name := "CTX_CNR_CFG", off := 0x5D0, reset := 0x10008000, rws := 0x3F01FF01 },
  { name := "CTX_CNR_THR", off := 0x5D4, reset := 0x400, rws := 0xFFFF },
  { name := "CTX_SHP_CFG", off := 0x5D8, reset := 0x8000, rws := 0x7FF01 },
  { name := "CTX_SHP_LIM", off := 0x5DC, reset := 0x8000040, rws := 0xFFFFFFFF },
  { name := "CTX_HARV_CFG", off := 0x600, reset := 0x6, rws := 0x3F07 },
  { name := "CTX_HARV_BUF", off := 0x604, rws := 0x1FF0000 },
  { name := "CTX_HARV_HIST", off := 0x608, reset := 0x40800, rws := 0x71FFF },
  { name := "CTX_HARV_CLIP", off := 0x60C, reset := 0xFFFFFF, rws := 0xFFFFFF },
  { name := "CTX_HARV_GW0", off := 0x610, reset := 0x20000400, rws := 0xFFFFFFFF },
  { name := "CTX_HARV_GW1", off := 0x614, reset := 0x20000400, rws := 0xFFFFFFFF }]
/-- The registers of a CTX block, continued. -/
def regsCtxD : List RegRow := [
  { name := "CTX_HARV_GW2", off := 0x618, reset := 0x40, rws := 0xFFFF },
  { name := "CTX_HARV_SHCORE", off := 0x61C, rws := 0xFFFF },
  { name := "CTX_HARV_SWw, w = 0–7", off := 0x620, cnt := 8, step := 0x8, rws := 0x3FFF3FFF },
  { name := "CTX_HARV_SWEw, w = 0–7", off := 0x624, cnt := 8, step := 0x8, rws := 0x3FFF3FFF },
  { name := "CTX_EPOCH_CFG", off := 0x700, reset := 0x2, rws := 0xDFF07 },
  { name := "CTX_EPOCH", off := 0x704 },
  { name := "CTX_EPOCH_CTRL", off := 0x708, pulse := 0x1 },
  { name := "CTX_EPOCH_STATUS", off := 0x70C, sqc := 0xFF00000F },
  { name := "CTX_EPOCH_EXPk, k = 0–3", off := 0x710, cnt := 4, step := 0x8, rws := 0x87FFFFFF },
  { name := "CTX_EPOCH_MASKk, k = 0–3", off := 0x714, cnt := 4, step := 0x8, reset := 0xFFFFFF, rws := 0xFFFFFF },
  { name := "CTX_EPOCH_RESULT", off := 0x730 },
  { name := "CTX_RING_BASE", off := 0x740, rw := 0x1FFF000 },
  { name := "CTX_RING_CFG", off := 0x744, rw := 0xFFF },
  { name := "CTX_WS_BASE", off := 0x748, rw := 0x1FFF000 },
  { name := "CTX_WS_SIZE", off := 0x74C },
  { name := "CTX_RING_STAT", off := 0x750 },
  { name := "CTX_CV_DELAY", off := 0x760, rws := 0xFFFFFFFF },
  { name := "CTX_CV_WIN", off := 0x764, reset := 0x30D40, rws := 0x80FFFFFF },
  { name := "CTX_CV_LAST", off := 0x768, reset := 0xFFFFFFFF }]
/-- The whole register table of a CTX block. -/
def regsCtx : List RegRow := regsCtxA ++ regsCtxB ++ regsCtxC ++ regsCtxD

/-- The registers of a PIPE block, by offset, from the tables of spec/05_pipe_sharing.md. -/
def regsPipe : List RegRow := [
  { name := "PIPE_TT_CFG", off := 0x0, reset := 0x3E8, rws := 0x807F0FFF },
  { name := "PIPE_TT_HOLD", off := 0x4, rw := 0x1 },
  { name := "PIPE_STATUS", off := 0x8, sqc := 0xFF00001F },
  { name := "PIPE_CNT_SLOT", off := 0xC },
  { name := "PIPE_CNT_WAIT", off := 0x10 },
  { name := "PIPE_NOW", off := 0x14, reset := 0x7F000000 },
  { name := "PIPE_OCC", off := 0x18 },
  { name := "PIPE_TT_SLOTk, k = 0–63", off := 0x100, cnt := 64, step := 0x4, rws := 0xFFF03F0F }]

/-- The registers of a TOLL block, by offset, from the tables of spec/05_pipe_sharing.md. -/
def regsTollA : List RegRow := [
  { name := "TOLL_CTRL", off := 0x0, rw := 0x1 },
  { name := "TOLL_STATUS", off := 0x4, sqc := 0xFF000001 },
  { name := "TOLL_SLOT0", off := 0x100, reset := 0x8, rws := 0x3F },
  { name := "TOLL_SLOT1", off := 0x104, reset := 0x10, rws := 0x3F },
  { name := "TOLL_SLOT2", off := 0x108, reset := 0x14, rws := 0x3F },
  { name := "TOLL_SLOT3", off := 0x10C, reset := 0x18, rws := 0x3F },
  { name := "TOLL_SLOT4", off := 0x110, reset := 0x9, rws := 0x3F },
  { name := "TOLL_SLOT5", off := 0x114, reset := 0x11, rws := 0x3F },
  { name := "TOLL_SLOT6", off := 0x118, reset := 0x15, rws := 0x3F },
  { name := "TOLL_SLOT7", off := 0x11C, reset := 0x19, rws := 0x3F },
  { name := "TOLL_SLOT8", off := 0x120, reset := 0xA, rws := 0x3F },
  { name := "TOLL_SLOT9", off := 0x124, reset := 0x12, rws := 0x3F },
  { name := "TOLL_SLOT10", off := 0x128, reset := 0x16, rws := 0x3F },
  { name := "TOLL_SLOT11", off := 0x12C, reset := 0x1A, rws := 0x3F },
  { name := "TOLL_SLOT12", off := 0x130, reset := 0xB, rws := 0x3F },
  { name := "TOLL_SLOT13", off := 0x134, reset := 0x13, rws := 0x3F },
  { name := "TOLL_SLOT14", off := 0x138, reset := 0x17, rws := 0x3F },
  { name := "TOLL_SLOT15", off := 0x13C, reset := 0x1B, rws := 0x3F },
  { name := "TOLL_SLOT16", off := 0x140, reset := 0xC, rws := 0x3F },
  { name := "TOLL_SLOT17", off := 0x144, reset := 0x1C, rws := 0x3F },
  { name := "TOLL_SLOT18", off := 0x148, reset := 0x4, rws := 0x3F },
  { name := "TOLL_SLOT19", off := 0x14C, reset := 0x1D, rws := 0x3F },
  { name := "TOLL_SLOT20", off := 0x150, reset := 0xD, rws := 0x3F },
  { name := "TOLL_SLOT21", off := 0x154, reset := 0x1C, rws := 0x3F }]
/-- The registers of a TOLL block, continued. -/
def regsTollB : List RegRow := [
  { name := "TOLL_SLOT22", off := 0x158, reset := 0x5, rws := 0x3F },
  { name := "TOLL_SLOT23", off := 0x15C, reset := 0x1E, rws := 0x3F },
  { name := "TOLL_SLOT24", off := 0x160, reset := 0xE, rws := 0x3F },
  { name := "TOLL_SLOT25", off := 0x164, reset := 0x3, rws := 0x3F },
  { name := "TOLL_SLOT26", off := 0x168, reset := 0x2, rws := 0x3F },
  { name := "TOLL_SLOT27", off := 0x16C, rws := 0x3F },
  { name := "TOLL_SLOT28", off := 0x170, reset := 0xF, rws := 0x3F },
  { name := "TOLL_SLOT29", off := 0x174, reset := 0x1, rws := 0x3F },
  { name := "TOLL_SLOT30", off := 0x178, rws := 0x3F },
  { name := "TOLL_SLOT31", off := 0x17C, rws := 0x3F },
  { name := "TOLL_CNTo, o = 0x00–0x1E", off := 0x200, cnt := 31, step := 0x4 }]
/-- The whole register table of a TOLL block. -/
def regsToll : List RegRow := regsTollA ++ regsTollB

/-- The registers of a VIEW block, by offset, from the tables of spec/06_views_taps_convoys.md. -/
def regsView : List RegRow := [
  { name := "VIEW_CFG", off := 0x0, reset := 0x7010000, rws := 0x7FF0F11 },
  { name := "VIEW_CROP0", off := 0x4, rws := 0x3FFF3FFF },
  { name := "VIEW_CROP1", off := 0x8, reset := 0x4380780, rws := 0x3FFF3FFF },
  { name := "VIEW_HSCALE", off := 0xC, reset := 0x10000, rws := 0xC01FFFFF },
  { name := "VIEW_VSCALE", off := 0x10, reset := 0x10000, rws := 0xC01FFFFF },
  { name := "VIEW_INIT", off := 0x14, rws := 0xFFFFFFFF },
  { name := "VIEW_OUT", off := 0x18, reset := 0x4380780, rws := 0x3FFF3FFF },
  { name := "VIEW_DEC", off := 0x1C, rws := 0x80000F0F },
  { name := "VIEW_COEF", off := 0x20, rws := 0x81FFF000 },
  { name := "VIEW_STAGE", off := 0x24, rw := 0x1FFF0FF },
  { name := "VIEW_STATUS", off := 0x30, sqc := 0xFF00001F },
  { name := "VIEW_CNT", off := 0x34 },
  { name := "VIEW_NOW", off := 0x38 },
  { name := "VIEW_FRAME", off := 0x3C }]

/-- The registers of a TAP block, by offset, from the tables of spec/06_views_taps_convoys.md. -/
def regsTap : List RegRow := [
  { name := "TAP_CFGc", off := 0x0, cnt := 4, step := 0x40, reset := 0x1F010000, rw := 0x1FFF3F37 },
  { name := "TAP_ROWSc", off := 0x4, cnt := 4, step := 0x40, reset := 0x1FFF0000, rw := 0x3FFF3FFF },
  { name := "TAP_BUFc", off := 0x8, cnt := 4, step := 0x40, rw := 0x1FFF1FF },
  { name := "TAP_CTRLc", off := 0xC, cnt := 4, step := 0x40, pulse := 0x3 },
  { name := "TAP_STATUSc", off := 0x10, cnt := 4, step := 0x40, sqc := 0xFF00001E },
  { name := "TAP_CNTc", off := 0x14, cnt := 4, step := 0x40 }]

/-- The registers of a HARV block, by offset, from the tables of spec/04_colour_and_harvest.md. -/
def regsHarv : List RegRow := [
  { name := "HARV_STATUS", off := 0x0, sqc := 0xFF000003 },
  { name := "HARV_CNT", off := 0x4 }]

/-- The registers of a LINK block, by offset, from the tables of spec/09_caravan_link.md and 10_lanes.md. -/
def regsLink : List RegRow := [
  { name := "LINK_STATUS", off := 0x4, sqc := 0xFF00007F },
  { name := "LINK_CNT_FEC", off := 0x8 },
  { name := "LINK_CNT_CRC", off := 0xC },
  { name := "LINK_CNT_PKT", off := 0x10 },
  { name := "LINK_BE", off := 0x14 },
  { name := "LINK_GROUP", off := 0x0, pulse := 0x7000000 }]

/-- The registers of a LANE block, by offset, from the tables of spec/10_lanes.md. -/
def regsLane : List RegRow := [
  { name := "LANE_CFG", off := 0x0, reset := 0x10600C0E, rw := 0x1FFF0F3F },
  { name := "LANE_FFE", off := 0x4, reset := 0x2000, rw := 0x1F1F3F1F },
  { name := "LANE_STATUS", off := 0x8 },
  { name := "LANE_EVENTS", off := 0xC, sqc := 0xFF00003F },
  { name := "LANE_DFE0", off := 0x10 },
  { name := "LANE_DFE1", off := 0x14 },
  { name := "LANE_DFE2", off := 0x18 },
  { name := "LANE_ADAPT", off := 0x1C, reset := 0x62, rw := 0x177 },
  { name := "LANE_TEST", off := 0x20, reset := 0xA0030, rw := 0xFF0177, pulse := 0xE00 },
  { name := "LANE_PRBS", off := 0x24 },
  { name := "LANE_BITS_LO", off := 0x28 },
  { name := "LANE_ERRS_LO", off := 0x2C },
  { name := "LANE_CNT_HI", off := 0x30 }]

/-- The registers of a FEEDER block, by offset, from the tables of spec/09_caravan_link.md. -/
def regsFeeder : List RegRow := [
  { name := "FEED_CFG", off := 0x0, rw := 0x7 },
  { name := "FEED_BUF", off := 0x4, rw := 0x1FFF1FF },
  { name := "FEED_STATUS", off := 0x8, sqc := 0xFF00000F },
  { name := "FEED_CNT", off := 0xC },
  { name := "FEED_CNT_ERR", off := 0x10 },
  { name := "FEED_FILL", off := 0x14 }]

/-- The registers of a TT block, by offset, from the tables of spec/09_caravan_link.md. -/
def regsTt : List RegRow := [
  { name := "TT_CTRL", off := 0x0, rw := 0x1 },
  { name := "TT_STATUS", off := 0x4, sqc := 0xFF000003 },
  { name := "TT_GEN", off := 0x8 },
  { name := "TT_CNT", off := 0xC },
  { name := "TT_MAP0", off := 0x400, reset := 0xFF, rws := 0xFFFFFF00 },
  { name := "TT_MAPk, k = 1–255", off := 0x404, cnt := 255, step := 0x4, rws := 0xFFFFFFFF }]

/-- The registers of a DRV block, by offset, from the tables of spec/07_jorran_isa.md. -/
def regsDrv : List RegRow := [
  { name := "DRV_CTRL", off := 0x0, pulse := 0x7 },
  { name := "DRV_START", off := 0x4, rw := 0x1FFFC },
  { name := "DRV_STATE", off := 0x8 },
  { name := "DRV_PC", off := 0xC },
  { name := "DRV_TRAP", off := 0x10 },
  { name := "DRV_TRAP_PC", off := 0x14 },
  { name := "DRV_TRAP_ADDR", off := 0x18 },
  { name := "DRV_EVEN0", off := 0x20, rw := 0xFFFFFFFF },
  { name := "DRV_EVEN1", off := 0x24, rw := 0xFFFFFFFF },
  { name := "DRV_EVPEND0", off := 0x28 },
  { name := "DRV_EVPEND1", off := 0x2C },
  { name := "DRV_EVOVR", off := 0x30 },
  { name := "DRV_SETS", off := 0x38 },
  { name := "DRV_SQUASHED", off := 0x3C, sqc := 0xFF0000FF },
  { name := "DRV_WDOG", off := 0x40, rw := 0xFFFF },
  { name := "DRV_PORTMAP", off := 0x44, rw := 0x7FFF },
  { name := "DRV_MSGCNT", off := 0x48 }]

/-- The kinds of unit block of the address map (R379). -/
inductive UnitKind where
  | glob | customs | power | thermal | boot | sec | otp | time | twt | tws | head | csi | ctx | pipe | toll | view | tap | harv
  | link | lane | feeder | tt | drv
deriving DecidableEq, Repr

/-- The register table of a unit kind. -/
def unitRegs : UnitKind → List RegRow
  | .glob => regsGlobal
  | .customs => regsCustoms
  | .power => regsPower
  | .thermal => regsThermal
  | .boot => regsBoot
  | .sec => regsSec
  | .otp => regsOtp
  | .time => regsTime
  | .twt => regsTwt
  | .tws => regsTws
  | .head => regsHead
  | .csi => regsCsi
  | .ctx => regsCtx
  | .pipe => regsPipe
  | .toll => regsToll
  | .view => regsView
  | .tap => regsTap
  | .harv => regsHarv
  | .link => regsLink
  | .lane => regsLane
  | .feeder => regsFeeder
  | .tt => regsTt
  | .drv => regsDrv

/-- The base of block n of a unit kind (R379, R362). -/
def unitBase (u : UnitKind) (n : Nat) : Nat :=
  match u with
  | .glob => 0
  | .customs => 0x4000
  | .power => 0x8000
  | .thermal => 0xC000
  | .boot => 0x10000
  | .sec => 0x14000
  | .otp => 0x18000
  | .time => 0x20000
  | .twt => 0x30000
  | .tws => 0x34000 + n * 0x4000
  | .head => 0x60000
  | .csi => 0x100000 + n * 0x4000
  | .ctx => 0x200000 + n * 0x4000
  | .pipe => 0x300000 + n * 0x4000
  | .toll => 0x340000
  | .view => 0x400000 + n * 0x4000
  | .tap => 0x490000
  | .harv => 0x4A0000
  | .link => 0x500000
  | .lane => 0x504000 + n * 0x400
  | .feeder => 0x520000 + n * 0x10000
  | .tt => 0x540000
  | .drv => 0x600000 + n * 0x4000

/-- How many blocks of a unit kind there are. -/
def unitCount : UnitKind → Nat
  | .tws => 8
  | .csi => 8
  | .ctx => 16
  | .pipe => 4
  | .view => 32
  | .lane => 15
  | .feeder => 2
  | .drv => 4
  | _ => 1

/-- The row of a table that holds a register at an offset (the first that matches, a special reset value before its family). -/
def findRow (t : List RegRow) (off : Nat) : Option RegRow :=
  t.find? (fun r => decide (r.off ≤ off) && decide (off < r.off + r.cnt * r.step) && decide ((off - r.off) % r.step = 0))

/-- The reset word of the register at an offset of a unit kind; 0 where no register stands. -/
def unitReset (u : UnitKind) (off : Nat) : Word :=
  match findRow (unitRegs u) off with
  | some r => BitVec.ofNat 32 r.reset
  | none => 0

end Sys2Proof.Machine
end

