-- ==== Sys2Proof/Machine/Pixels.lean ====
section
/-! DEFINITION. The pixel stages of a pipe as functions of one frame's rows and parameters: linearisation, black level and exposure merge
(spec/02_intake.md), the raw corrections and the demosaic (spec/03_mosaic.md), colour, tone, OETF, chroma noise reduction and sharpening
(spec/04_colour_and_harvest.md). An image is a list of rows. -/

namespace Sys2Proof.Machine

/-- The parameter registers of one context as a frame holds them: offsets whose word differs from the register's reset value (R47, R153). -/
abbrev Params := List (Nat × Word)

/-- A parameter register's word. -/
def pw (p : Params) (off : Nat) : Word := sGet (unitReset .ctx off) p off

/-- What has been read of a frame's tables: the pan bytes, the pan lines that were unreadable when a table was copied (R67, R112), and the
shading grid nodes that were read in error (R92, R95). -/
structure Tables where
  cells : List (Nat × Byte) := []
  bad   : List Nat := []
  lost  : List Nat := []
deriving DecidableEq, Repr, Inhabited

/-- One byte of the copied tables at a pan offset. -/
def tabByte (t : Tables) (a : Nat) : Nat := (sGet (0 : Byte) t.cells a).toNat

/-- A little-endian value of n bytes of the copied tables. -/
def tabVal (t : Tables) : Nat → Nat → Nat
  | 0, _ => 0
  | n + 1, a => tabByte t a + 256 * tabVal t n (a + 1)

/-- Some 64-byte line of the range was unreadable when the tables were copied (R92). -/
def tabBad (t : Tables) (a len : Nat) : Bool := t.bad.any (fun b => decide (b < a + len) && decide (a < b + 64))

/-- The copy that is in use when item i of a frame is processed; the copies stand newest first, each with the item it is used from (R67,
R92, R112). -/
def tabFor (copies : List (Nat × Tables)) (i : Nat) : Tables :=
  ((copies.find? (fun q => decide (q.1 ≤ i))).map Prod.snd).getD {}

/-- An image: its rows, top first. -/
abbrev Img := List (List Nat)

/-- The sample at column x, row y. -/
def imgAt (im : Img) (x y : Nat) : Nat := (im.getD y []).getD x 0

/-- The image of w by h samples that f gives. -/
def imgOf (w h : Nat) (f : Nat → Nat → Nat) : Img :=
  (List.range h).map (fun y => (List.range w).map (fun x => f x y))

/-! ### Unpacking -/

/-- The samples of a group of CSI-2 payload bytes: each one's high bits stand in a byte of its own, and the bytes after those hold the low
bits of the group, the first sample's lowest (R37, R38; the layouts of CSI-2, log 90). -/
def unpackGroup (n low : Nat) (g : List Byte) : List Nat :=
  let rest := leVal (g.drop n)
  (List.range n).map (fun i => ((g.getD i 0).toNat * 2 ^ low) + rest / 2 ^ (low * i) % 2 ^ low)

/-- The bytes cut into groups of k, from the front. -/
def groupsOf (k : Nat) (bs : List Byte) : List (List Byte) :=
  (List.range (bs.length / k)).map (fun i => (bs.drop (i * k)).take k)

/-- Two half samples make one, the first the higher. -/
def joinPairs (half : Nat) (l : List Nat) : List Nat :=
  (List.range (l.length / 2)).map (fun i => l.getD (2 * i) 0 * 2 ^ half + l.getD (2 * i + 1) 0)

/-- The codes of a payload of samples of a width (R38): RAW8, RAW10, RAW12 and RAW14 directly, RAW16, RAW20 and RAW24 as pairs of half
samples packed as RAW8, RAW10 and RAW12. -/
def unpackCodes (bits : Nat) (bs : List Byte) : List Nat :=
  let raw := fun (b : Nat) =>
    if b = 8 then bs.map (fun x => x.toNat)
    else if b = 10 then (groupsOf 5 bs).flatMap (unpackGroup 4 2)
    else if b = 12 then (groupsOf 3 bs).flatMap (unpackGroup 2 4)
    else (groupsOf 7 bs).flatMap (unpackGroup 4 6)
  if bits ≤ 14 then raw bits else joinPairs (bits / 2) (raw (bits / 2))

/-! ### Linearisation, black level and merge -/

/-- floor(log2 v), 0 for 0. -/
def flog2 (v : Nat) : Nat := Nat.log2 v

/-- PWL linearisation of code c over the knees 0 to n-1 of exposure e (R65). -/
def linPwl (p : Params) (e n c : Nat) : Nat :=
  let knee := fun (k d : Nat) => fld (pw p (0x800 + e * 0x400 + k * 0x10 + d)) 23 0
  let k := ((List.range n).filter (fun k => decide (knee k 0 ≤ c))).getLastD 0
  min u24 (knee k 4 + rdivN ((c - knee k 0) * knee k 8) 4096)

/-- LUT linearisation of a code c of b bits from the table at pan offset base (R66). -/
def linLut (t : Tables) (base b c : Nat) : Nat :=
  let at4 := fun i => tabVal t 3 (base + 4 * min i 4095)
  if b ≤ 12 then min u24 (at4 (c * 2 ^ (12 - b)))
  else
    let s := b - 12
    let i := c / 2 ^ s
    let f := c % 2 ^ s
    satU u24 ((at4 i : Int) + rdiv (((at4 (i + 1) : Int) - at4 i) * f) (2 ^ s))

/-- The pan offset of the LUT of exposure e. -/
def lutBase (p : Params) (e : Nat) : Nat := fld (pw p (0x110 + 4 * e)) 24 14 * 0x4000

/-- The linearised value of a code c of b bits of exposure e (R64–R66; a LUT whose copy failed is a bypass, R92). -/
def linearise (p : Params) (t : Tables) (e b c : Nat) : Nat :=
  let cfg := pw p 0x100
  let n := if e ≤ 1 then fld cfg 13 8 else if e = 2 then fld cfg 21 16 else fld cfg 29 24
  match fld cfg (2 * e + 1) (2 * e) with
  | 1 => linPwl p e n c
  | 2 => if tabBad t (lutBase p e) 0x4000 then min u24 c else linLut t (lutBase p e) b c
  | _ => min u24 c

/-- The mosaic descriptor of a frame (R80–R82): periods, origins and the 64 site bytes. -/
structure Mosaic where
  ph : Nat
  pv : Nat
  ox : Nat
  oy : Nat
  sites : List Nat
deriving DecidableEq, Repr, Inhabited

/-- The descriptor that a parameter set holds. -/
def mosaicOf (p : Params) : Mosaic :=
  let c := pw p 0x120
  { ph := 2 ^ fld c 1 0, pv := 2 ^ fld c 5 4, ox := fld c 10 8, oy := fld c 14 12,
    sites := (List.range 16).flatMap (fun k =>
      let w := pw p (0x200 + 4 * k)
      [fld w 7 0, fld w 15 8, fld w 23 16, fld w 31 24]) }

/-- The site byte at a phase (R81). -/
def phaseByte (m : Mosaic) (px py : Nat) : Nat := m.sites.getD ((py * 2 + px / 4) * 4 + px % 4) 0

/-- The site byte of a position; positions outside the frame keep the period's phase. -/
def siteByte (m : Mosaic) (x y : Int) : Nat :=
  phaseByte m ((x + m.ox) % m.ph).toNat ((y + m.oy) % m.pv).toNat

/-- The channel code of a position (R82). -/
def chanAt (m : Mosaic) (x y : Int) : Nat := siteByte m x y % 16

/-- The site class of a position (R82). -/
def classAt (m : Mosaic) (x y : Int) : Nat := siteByte m x y / 16 % 8

/-- All phases of one period, row by row. -/
def phases (m : Mosaic) : List (Nat × Nat) :=
  (List.range m.pv).flatMap (fun y => (List.range m.ph).map (fun x => (x, y)))

/-- How many sites of one period carry a channel. -/
def chanCount (m : Mosaic) (c : Nat) : Nat := (phases m).countP (fun q => phaseByte m q.1 q.2 % 16 = c)

/-- The descriptor has a site of the channel. -/
def hasChan (m : Mosaic) (c : Nat) : Bool := decide (0 < chanCount m c)

/-- The guide channel (R84): CTX_MOS_CFG.guide, or the most frequent non-IR channel, ties in the order C, G, Y, R, B. -/
def guideOf (p : Params) : Nat :=
  let m := mosaicOf p
  let g := fld (pw p 0x120) 23 20
  if g ≠ 15 then g
  else [1, 5, 0, 2].foldl (fun best c => if chanCount m best < chanCount m c then c else best) 3

/-- Black level and its gain (R68). -/
def blackLevel (p : Params) (e cls l : Nat) : Nat :=
  min u24 (rdivN ((l - fld (pw p (0x300 + (e * 8 + cls) * 4)) 23 0) * fld (pw p (0x380 + 4 * e)) 15 0) 16384)

/-- The noise level at a merged level, as numerator over 8 × 2^i (R70): the pair (numerator, i). R70 gives the interpolated level no format, and
it is used exactly, as this fraction (DESIGN CHOICE, log 128). -/
def noiseAt (p : Params) (v : Nat) : Nat × Nat :=
  let n := fun i => fld (pw p (0x400 + 4 * i)) 15 0
  if v < 1 then (n 0, 0)
  else
    let i := min 23 (flog2 v)
    (((n i : Int) * 2 ^ i + ((n (i + 1) : Int) - n i) * ((v : Int) - 2 ^ i)).toNat, i)

/-- The scaled sample S_e of exposure e (R69). -/
def mergeScaled (p : Params) (e l : Nat) : Nat := min u24 (rdivN (l * fld (pw p (0x3A0 + 4 * e)) 19 0) 1024)

/-- The weight w_e of exposure e, in U1.10 (R69). A ramp of 21–31, beyond the field's range, divides by 2^ramp too (DESIGN CHOICE, log 129). -/
def mergeWeight (p : Params) (e l : Nat) : Nat :=
  let w := pw p (0x3B0 + 4 * e)
  (clampI (rdiv (1024 * ((fld w 23 0 : Int) - l)) (2 ^ fld w 28 24)) 0 1024).toNat

/-- The raw motion weight of one sample, in U1.10 (R70). -/
def motionRaw (p : Params) (s m : Nat) : Nat :=
  let w := pw p 0x3C0
  let d := dist s m
  let (num, i) := noiseAt p m
  if num = 0 then (if 0 < d then 1024 else min 1024 (Config.motionAtZeroNoise m))
  else (clampI (rdiv (1024 * ((64 * 2 ^ i * d : Nat) - (fld w 9 4 * num : Nat) : Int)) ((fld w 15 10 - fld w 9 4) * num)) 0 1024).toNat

/-- One step of the merge over a row: exposure e's black-levelled row over the running row M_(e+1) (R69, R70). -/
def mergeStep (p : Params) (ph e : Nat) (row below : List Nat) : List Nat :=
  let w := pw p 0x3C0
  let wt := row.map (mergeWeight p e)
  let s := row.map (mergeScaled p e)
  let raw := (List.range row.length).map (fun x =>
    if wt.getD x 0 = 0 then 0 else motionRaw p (s.getD x 0) (below.getD x 0))
  (List.range row.length).map (fun x =>
    let we := wt.getD x 0
    let near := [0, ph, 2 * ph].flatMap (fun d => [raw.getD (x + d) 0] ++ (if d ≤ x then [raw.getD (x - d) 0] else []))
    let m := near.foldl max 0
    let w' := if flag w 0 = false || we = 0 then we
      else if flag w 1 then we + rdivN ((1024 - we) * m) 1024
      else rdivN (we * (1024 - m)) 1024
    min u24 (rdivN (w' * s.getD x 0 + (1024 - w') * below.getD x 0) 1024))

/-- The merge of one row: the black-levelled rows of all exposures, exposure 0 first (R69). -/
def mergeFrom (p : Params) (ph e : Nat) : List (List Nat) → List Nat
  | [] => []
  | [r] => if e = 0 then r else r.map (mergeScaled p e)
  | r :: rest => mergeStep p ph e r (mergeFrom p ph (e + 1) rest)

/-- A row of one exposure as the intake holds it: its codes, the code width, or a concealed row whose values are already black-levelled
zeros (R73). -/
structure ExpRow where
  bits  : Nat
  codes : List Nat
  black : Bool
deriving DecidableEq, Repr, Inhabited

/-- The black-levelled row of exposure e (R64–R68); a row concealed to black leaves as 0 (R73). -/
def stageRow (p : Params) (t : Tables) (e y width : Nat) (r : ExpRow) : List Nat :=
  let m := mosaicOf p
  (List.range width).map (fun (x : Nat) =>
    if r.black then 0 else blackLevel p e (classAt m x y) (linearise p t e r.bits (r.codes.getD x 0)))

/-- The merged row y (R69). -/
def mergeRow (p : Params) (t : Tables) (width y : Nat) (rows : List ExpRow) : List Nat :=
  mergeFrom p (mosaicOf p).ph 0 ((List.range rows.length).map (fun e => stageRow p t e y width (rows.getD e default)))

/-! ### Positions outside the frame (R86) -/

/-- A column mapped inside the frame by whole periods (R86). -/
def wrapX (ph w : Nat) (x : Int) : Nat :=
  if x < 0 then (x + ph * ((-x + ph - 1) / ph)).toNat
  else if x < w then x.toNat
  else (x - ph * ((x - w + 1 + ph - 1) / ph)).toNat

/-- A row mapped inside the accepted rows by whole periods; a row the mapping cannot supply is the accepted row nearest to the row it maps to
(R86; nearest to what is a DESIGN CHOICE, log 133). -/
def wrapY (pv h : Nat) (y : Int) : Nat :=
  if y < 0 then min (h - 1) (y + pv * ((-y + pv - 1) / pv)).toNat
  else if y < h then y.toNat
  else min (h - 1) (y - pv * ((y - h + 1 + pv - 1) / pv)).toNat

/-- The sample a window sees at a position (R86). -/
def winAt (m : Mosaic) (w h : Nat) (im : Img) (x y : Int) : Nat := imgAt im (wrapX m.ph w x) (wrapY m.pv h y)

/-- The offsets of a window of rx columns and ry rows to each side, without the centre. -/
def ring (rx ry : Nat) : List (Int × Int) :=
  ((List.range (2 * ry + 1)).flatMap (fun (j : Nat) => (List.range (2 * rx + 1)).map (fun (i : Nat) =>
    ((i : Int) - rx, (j : Int) - ry)))).filter (fun d => decide (d ≠ (0, 0)))

/-- The Chebyshev length of an offset. -/
def cheb (d : Int × Int) : Nat := max d.1.natAbs d.2.natAbs

/-- The mean of a list, rounded to nearest. -/
def meanOf (l : List Nat) : Nat := rdivN (l.foldl (· + ·) 0) l.length

/-- The offsets of least Chebyshev length in a list. -/
def nearestOf (l : List (Int × Int)) : List (Int × Int) :=
  let d := (l.map cheb).foldl min 1000
  l.filter (fun q => cheb q = d)

/-! ### Defective pixel correction (R88–R91) -/

/-- Where the map reader stands: the entries accepted, the key of the last, the cursor, the findings not yet reported (1 order, 2 range, 3
both), how many entries of rows the frame does not have it has passed, and whether a read failed. -/
structure MapScan where
  entries : List (Nat × Nat × Nat) := []
  last    : Option Nat := none
  cursor  : Nat := 0
  found   : List Nat := []
  late    : Nat := 0
  dead    : Bool := false
deriving DecidableEq, Repr, Inhabited

/-- Reads map entries from the cursor while they name rows up to `limit` (R88, R89); `fuel` bounds the entries left and `read` gives an
entry's word, or none where the pan could not (R92). An entry of a row that the frame does not have stops nothing: it is passed and counted,
to be judged when the frame ends normally; where `hold` it is not read, as below a truncated frame's last row (log 91). -/
def mapScan (read : Nat → Option Nat) (w h limit : Nat) (hold : Bool) : Nat → MapScan → MapScan
  | 0, s => s
  | fuel + 1, s =>
    if s.dead then s
    else match read s.cursor with
      | none => { s with dead := true }
      | some e =>
        let y := bitsOf e 29 16
        let kind := bitsOf e 15 14
        let x := bitsOf e 13 0
        if limit < y && (hold || decide (y < h)) then s
        else
          let key := y * 16384 + x
          let s1 := { s with cursor := s.cursor + 1 }
          let ordered := match s.last with
            | none => true
            | some k => decide (k < key)
          let wide := decide (w ≤ x) || decide (2 ≤ kind)
          mapScan read w h limit hold fuel
            (if h ≤ y then { s1 with late := s.late + 1 }
             else if ordered && !wide then { s1 with entries := s.entries ++ [(x, y, kind)], last := some key }
             else { s1 with found := s.found ++ [bnat (!ordered) + 2 * bnat wide] })

/-- The map's entries that the scan reads: CTX_DPC_CFG.count, of which the map's 8,192 words at most (R88, log 92). -/
def mapCount (p : Params) : Nat := min 8192 (fld (pw p 0x140) 29 16)

/-- The static map names the site (R88). -/
def mapped (s : MapScan) (x y : Nat) : Bool :=
  s.entries.any (fun (ex, ey, k) => decide (ex = x) && (decide (ey = y) || (decide (k = 1) && decide (ey ≤ y))))

/-- A position inside the accepted frame. -/
def inside (w h : Nat) (x y : Int) : Bool := decide (0 ≤ x) && decide (x < w) && decide (0 ≤ y) && decide (y < h)

/-- The nearest same-channel site one or two steps away in a direction, inside the frame and not mapped (R91). -/
def axisSide (m : Mosaic) (w h : Nat) (s : MapScan) (im : Img) (x y dx dy : Int) : Option Nat :=
  let c := chanAt m x y
  let step := fun (k : Int) => (x + k * dx, y + k * dy)
  let pos := if chanAt m (step 1).1 (step 1).2 = c then some (step 1)
    else if chanAt m (step 2).1 (step 2).2 = c then some (step 2) else none
  match pos with
  | none => none
  | some (a, b) => if inside w h a b && mapped s a.toNat b.toNat = false then some (imgAt im a.toNat b.toNat) else none

/-- The replacement value of a defective site (R91). -/
def dpcReplace (m : Mosaic) (w h : Nat) (s : MapScan) (im : Img) (x y : Nat) (neigh : List Nat) : Nat :=
  let axes : List (Int × Int) := [(1, 0), (0, 1), (1, 1), (1, -1)]
  let pairs := axes.filterMap (fun (dx, dy) =>
    match axisSide m w h s im x y dx dy, axisSide m w h s im x y (-dx) (-dy) with
    | some a, some b => some (a, b)
    | _, _ => none)
  match pairs with
  | [] => if neigh = [] then imgAt im x y else meanOf neigh
  | q :: rest =>
    let best := rest.foldl (fun (b : Nat × Nat) c => if dist c.1 c.2 < dist b.1 b.2 then c else b) q
    rdivN (best.1 + best.2) 2

/-- The verdict on a site: 0 kept, 1 named by the map, 2 hot or cold (R90). -/
def dpcKind (p : Params) (m : Mosaic) (s : MapScan) (im : Img) (x y : Nat) (neigh : List Nat) : Nat :=
  let c := pw p 0x140
  let cls := classAt m x y
  if flag c 0 && mapped s x y then 1
  else if flag c 1 && flag c (8 + cls) && 2 ≤ neigh.length then
    let th := pw p (0x240 + 4 * cls)
    let bound := fun n => max (fld th 23 0) (rdivN (fld th 31 24 * n) 256)
    let v := imgAt im x y
    let hi := neigh.foldl max 0
    let lo := neigh.foldl min (neigh.headD 0)
    if hi + bound hi < v || v + bound lo < lo then 2 else 0
  else 0

/-- The neighbours of a site for R90: same channel, inside the frame, not mapped. -/
def dpcNeigh (m : Mosaic) (w h : Nat) (s : MapScan) (im : Img) (x y : Nat) : List Nat :=
  (ring 2 2).filterMap (fun (dx, dy) =>
    let a := (x : Int) + dx
    let b := (y : Int) + dy
    if inside w h a b && chanAt m a b = chanAt m x y && mapped s a.toNat b.toNat = false
    then some (imgAt im a.toNat b.toNat) else none)

/-- The corrected image of the first h rows (R90, R91). An entry accepted after its row has passed the stage, behind an ignored entry of a later
row, corrects its site in rows that have not left the back end (DESIGN CHOICE, log 134). -/
def dpcStage (p : Params) (s : MapScan) (w h : Nat) (im : Img) : Img :=
  let m := mosaicOf p
  imgOf w h (fun x y =>
    let n := dpcNeigh m w h s im x y
    if dpcKind p m s im x y n = 0 then imgAt im x y else dpcReplace m w h s im x y n)

/-- The sites corrected from the map and by detection (CTX_DPC_CNT, R91): a site that keeps its value for want of any neighbour counts too
(DESIGN CHOICE, log 119), and so does the site of an entry accepted after its row has passed the stage (DESIGN CHOICE, log 134). -/
def dpcCounts (p : Params) (s : MapScan) (w h : Nat) (im : Img) : Nat × Nat :=
  let m := mosaicOf p
  let ks := (imgOf w h (fun x y => dpcKind p m s im x y (dpcNeigh m w h s im x y))).flatten
  (min 16383 (ks.count 1), min 16383 (ks.count 2))

/-! ### Lens shading, white balance, raw noise reduction, crosstalk and IR -/

/-- The pan offset of node (i, j) of the grid of class c (R93). -/
def lscNodeAt (p : Params) (c i j : Nat) : Nat := fld (pw p 0x150) 24 16 * 0x10000 + c * 0x2000 + (j * 65 + i) * 2

/-- The grid row j of the shading interpolation of row y (R94). -/
def lscRow (h y : Nat) : Nat := y * 48 / max 1 h

/-- Node (i, j) of the grid of class c; a node read in error acts as 1.0 (R92, R93). -/
def lscNode (p : Params) (t : Tables) (c i j : Nat) : Nat :=
  let a := lscNodeAt p c i j
  if t.lost.contains a then 0x1000 else tabVal t 2 a

/-- Lens shading at a site (R94). -/
def lscAt (p : Params) (t : Tables) (m : Mosaic) (w h x y v : Nat) : Nat :=
  let c := classAt m x y
  if flag (pw p 0x150) c then
    let u := x * 64 * 4096 / w
    let q := y * 48 * 4096 / h
    let i := u / 4096
    let fu := u % 4096
    let j := q / 4096
    let fv := q % 4096
    let n := lscNode p t c
    let g := rdivN ((4096 - fu) * (4096 - fv) * n i j + fu * (4096 - fv) * n (i + 1) j
      + (4096 - fu) * fv * n i (j + 1) + fu * fv * n (i + 1) (j + 1)) (2 ^ 24)
    min u24 (rdivN (v * g) 4096)
  else v

/-- White balance at a site (R96). -/
def wbAt (p : Params) (m : Mosaic) (x y v : Nat) : Nat :=
  min (fld (pw p 0x154) 23 0) (rdivN (v * fld (pw p (0x260 + 4 * classAt m x y)) 15 0) 4096)

/-- One pass of raw noise reduction with window radius r, T divided by `half` (R97, R98). -/
def nrPass (p : Params) (m : Mosaic) (r half w h : Nat) (im : Img) : Img :=
  imgOf w h (fun x y =>
    let v := imgAt im x y
    let c := classAt m x y
    let cfg := pw p (0x280 + 4 * c)
    let (num, i) := noiseAt p v
    let t := rdivN (fld cfg 7 0 * num) (16 * 8 * 2 ^ i * half)
    let (sw, sv) := (ring r r).foldl (fun (acc : Nat × Nat) (d : Int × Int) =>
      if classAt m (x + d.1) (y + d.2) = c then
        let n := winAt m w h im (x + d.1) (y + d.2)
        let wn := if t = 0 then (if n = v then 256 else 0)
          else (clampI (rdiv (256 * ((t : Int) - dist n v)) t) 0 256).toNat
        (acc.1 + wn, acc.2 + wn * n)
      else acc) (0, 0)
    let avg := rdivN (256 * v + sv) (256 + sw)
    satU u24 ((v : Int) + rdiv ((min 256 (fld cfg 24 16) : Nat) * ((avg : Int) - v)) 256))

/-- Raw noise reduction of the first h rows under a profile code (R97, R98). -/
def nrStage (p : Params) (profile w h : Nat) (im : Img) : Img :=
  let m := mosaicOf p
  if flag (pw p 0x158) 0 then
    let one := nrPass p m 2 1 w h im
    if profile = 2 then nrPass p m 6 2 w h one else one
  else im

/-- Crosstalk removal (R99). -/
def xtStage (p : Params) (w h : Nat) (im : Img) : Img :=
  let m := mosaicOf p
  imgOf w h (fun x y =>
    let xt := fld (pw p (0x2A0 + 4 * classAt m x y)) 27 16
    let s4 := winAt m w h im (x - 1) y + winAt m w h im (x + 1) y + winAt m w h im x (y - 1) + winAt m w h im x (y + 1)
    satU u24 (rdiv ((imgAt im x y * (4096 + 4 * xt) : Nat) - (xt * s4 : Nat) : Int) 4096))

/-- IR subtraction on the crosstalk output (R100). -/
def irStage (p : Params) (w h : Nat) (im : Img) : Img :=
  let m := mosaicOf p
  if hasChan m 4 then
    imgOf w h (fun x y =>
      let v := imgAt im x y
      let est := if chanAt m x y = 4 then v
        else meanOf ((nearestOf ((ring 2 2).filter (fun d => chanAt m (x + d.1) (y + d.2) = 4))).map
          (fun d => winAt m w h im (x + d.1) (y + d.2)))
      v - rdivN (fld (pw p (0x2A0 + 4 * classAt m x y)) 12 0 * est) 4096)
  else im

/-! ### Demosaic (R101–R107) -/

/-- BILINEAR: the mean of the channel's nearest sites in the 5 × 5 window (R102). -/
def bilinear (m : Mosaic) (w h : Nat) (im : Img) (k x y : Nat) : Nat :=
  if chanAt m x y = k then imgAt im x y
  else meanOf ((nearestOf ((ring 2 2).filter (fun d => chanAt m (x + d.1) (y + d.2) = k))).map
    (fun d => winAt m w h im (x + d.1) (y + d.2)))

/-- The mean of the channel's nearest sites within a band, or none. -/
def bandMean (m : Mosaic) (w h : Nat) (im : Img) (rx ry k x y : Nat) : Option Nat :=
  let l := (ring rx ry).filter (fun d => chanAt m (x + d.1) (y + d.2) = k)
  if l = [] then none else some (meanOf ((nearestOf l).map (fun d => winAt m w h im (x + d.1) (y + d.2))))

/-- DIRECTIONAL (R103). -/
def directional (m : Mosaic) (w h : Nat) (im : Img) (k x y : Nat) : Nat :=
  if chanAt m x y = k then imgAt im x y
  else
    let a := fun (dx dy : Int) => winAt m w h im (x + dx) (y + dy)
    let curve := fun (p q c : Nat) => dist (p + q) (2 * c)
    let gh := dist (a (-1) (-1)) (a 1 (-1)) + dist (a (-1) 0) (a 1 0) + dist (a (-1) 1) (a 1 1)
      + curve (a (-2) 0) (a 2 0) (a 0 0)
    let gv := dist (a (-1) (-1)) (a (-1) 1) + dist (a 0 (-1)) (a 0 1) + dist (a 1 (-1)) (a 1 1)
      + curve (a 0 (-2)) (a 0 2) (a 0 0)
    let eh := (bandMean m w h im 2 1 k x y).getD (bilinear m w h im k x y)
    let ev := (bandMean m w h im 1 2 k x y).getD (bilinear m w h im k x y)
    if gh < gv then eh else if gv < gh then ev else rdivN (eh + ev) 2

/-- The regulariser of GUIDED; 0 acts as 1. -/
def epsOf (p : Params) : Nat := max 1 (fld (pw p 0x160) 23 0)

/-- The eight directions of R104. -/
def compass : List (Int × Int) := [(0, -1), (1, -1), (1, 0), (1, 1), (0, 1), (-1, 1), (-1, 0), (-1, -1)]

/-- The first site of a channel met in up to three steps along a direction. -/
def firstAlong (m : Mosaic) (w h : Nat) (im : Img) (k : Nat) (x y : Int) (d : Int × Int) : Option Nat :=
  ([1, 2, 3].find? (fun (s : Int) => chanAt m (x + s * d.1) (y + s * d.2) = k)).map
    (fun s => winAt m w h im (x + s * d.1) (y + s * d.2))

/-- The difference of two sites, 0 when one is absent. -/
def distOpt : Option Nat → Nat → Nat
  | some a, b => dist a b
  | none, _ => 0

/-- The guide plane Ĝ at a pixel (R104). -/
def guideAt (p : Params) (m : Mosaic) (g w h : Nat) (im : Img) (x y : Nat) : Nat :=
  if chanAt m x y = g then imgAt im x y
  else
    let c0 := imgAt im x y
    let used := compass.filterMap (fun d =>
      match firstAlong m w h im g x y d with
      | none => none
      | some pd =>
        let gd := distOpt (firstAlong m w h im g x y (-d.1, -d.2)) pd
          + distOpt (firstAlong m w h im (chanAt m x y) x y d) c0
        some (pd, 2 ^ 20 / (epsOf p + gd)))
    if used = [] then
      meanOf (((ring 3 3).filter (fun d => chanAt m (x + d.1) (y + d.2) = g)).map
        (fun d => winAt m w h im (x + d.1) (y + d.2)))
    else
      let sw := used.foldl (fun a q => a + q.2) 0
      if sw = 0 then meanOf (used.map Prod.fst) else min u24 (rdivN (used.foldl (fun a q => a + q.2 * q.1) 0) sw)

/-- A missing channel of GUIDED at a pixel (R105). -/
def guidedAt (p : Params) (m : Mosaic) (w h : Nat) (im gh : Img) (k x y : Nat) : Nat :=
  if chanAt m x y = k then imgAt im x y
  else
    let gp := imgAt gh x y
    let l := ((ring 3 3).filter (fun d => chanAt m (x + d.1) (y + d.2) = k)).map (fun d =>
      let gs := winAt m w h gh (x + d.1) (y + d.2)
      (((winAt m w h im (x + d.1) (y + d.2) : Nat) : Int) - gs, 2 ^ 20 / (epsOf p + dist gs gp)))
    let sw := l.foldl (fun a q => a + q.2) 0
    let delta := if sw = 0 then rdiv (l.foldl (fun a q => a + q.1) 0) l.length
      else rdiv (l.foldl (fun a q => a + q.1 * (q.2 : Nat)) 0) sw
    satU u24 ((gp : Int) + delta)

/-- The five planes of a pixel: R, G, B, C, IR (R101). -/
structure Planes where
  r : Nat
  g : Nat
  b : Nat
  c : Nat
  ir : Nat
deriving DecidableEq, Repr, Inhabited

/-- The demosaic of the first h rows under a profile code (R101–R107). -/
def demosaic (p : Params) (profile w h : Nat) (im : Img) : List (List Planes) :=
  let m := mosaicOf p
  let g := guideOf p
  let ghat := if profile = 1 || profile = 2 then imgOf w h (guideAt p m g w h im) else []
  let plane := fun (k x y : Nat) =>
    if hasChan m k = false then 0
    else if k = 4 then bilinear m w h im 4 x y
    else if profile = 0 then directional m w h im k x y
    else if profile = 3 then bilinear m w h im k x y
    else if k = g then imgAt ghat x y
    else guidedAt p m w h im ghat k x y
  (List.range h).map (fun y => (List.range w).map (fun x =>
    if hasChan m 5 then
      let v := plane 5 x y
      { r := v, g := v, b := v, c := v, ir := plane 4 x y }
    else { r := plane 0 x y, g := plane 1 x y, b := plane 2 x y, c := plane 3 x y, ir := plane 4 x y }))

/-! ### Colour correction and tone (R113–R119) -/

/-- Output i of the colour matrix (R113). -/
def ccmOut (p : Params) (i : Nat) (v : Planes) : Nat :=
  let k := fun j => sInt 16 (fld (pw p (0x500 + (i * 5 + j) * 4)) 15 0)
  let s := k 0 * v.r + k 1 * v.g + k 2 * v.b + k 3 * v.c + k 4 * v.ir
  (clampI (rdiv s 4096 + sInt 24 (fld (pw p (0x540 + 4 * i)) 23 0)) 0 16777215).toNat

/-- L2(v), in U5.8 (R114). -/
def l2 (v : Nat) : Nat := if v = 0 then 0 else 256 * flog2 v + v * 256 / 2 ^ flog2 v % 256

/-- Kr, Kg and Kb in U0.16 by the code of CTX_OUT_CFG.std (R121). -/
def lumaWeights (std : Nat) : Nat × Nat × Nat :=
  if std = 0 then (19595, 38470, 7471) else if std = 2 then (17216, 44434, 3886) else (13933, 46871, 4732)

/-- Y_lin of a colour-corrected pixel (R115). -/
def yLin (p : Params) (r g b : Nat) : Nat :=
  let (kr, kg, kb) := lumaWeights (fld (pw p 0x5C4) 3 2)
  rdivN (kr * r + kg * g + kb * b) 65536

/-- A tone grid: 768 zone values, zone (i, j) at j × 32 + i, with the frame sequence and the epoch that built it (R115, R116). -/
structure Grid where
  z     : List Nat
  seq   : Nat
  epoch : Nat
deriving DecidableEq, Repr, Inhabited

/-- The local gain at a pixel, U4.12 (R117). -/
def ltmGain (p : Params) (gr : Grid) (epoch w h x y ylin : Nat) : Nat :=
  let u := (clampI ((x * 8192 / w : Nat) - (128 : Int)) 0 7936).toNat
  let v := (clampI ((y * 6144 / h : Nat) - (128 : Int)) 0 5888).toNat
  let i := u / 256
  let fu := u % 256
  let j := v / 256
  let fv := v % 256
  let z := fun i j => gr.z.getD (min j 23 * 32 + min i 31) 0
  let la0 := rdivN ((256 - fu) * (256 - fv) * z i j + fu * (256 - fv) * z (i + 1) j
    + (256 - fu) * fv * z i (j + 1) + fu * fv * z (i + 1) (j + 1)) 65536
  let la : Int := if gr.epoch ≠ epoch then (la0 : Int) + sInt 13 (fld (pw p 0x558) 12 0) else la0
  let l := (clampI (la + rdiv ((fld (pw p 0x554) 7 0 : Int) * ((l2 ylin : Int) - la)) 256) 0 6143).toNat
  let k := l / 256
  let f := l % 256
  let gain := fun k => fld (pw p (0x560 + 4 * k)) 15 0
  ((gain k : Int) + rdiv (((gain (k + 1) : Int) - gain k) * f) 256).toNat

/-- The global curve at x (R118). -/
def toneCurve (t : Tables) (base x : Nat) : Nat :=
  let s := if x < 1024 then x / 512 else flog2 x - 8
  let b := if x < 1024 then 512 * s else 2 ^ (s + 8)
  let wd := if x < 1024 then 8 else 2 ^ (s + 2)
  let i := 64 * s + (x - b) / wd
  let r := (x - b) % wd
  let pt : Nat → Nat := fun i => tabVal t 4 (base + 4 * i) % 2 ^ 20
  satU (2 ^ 20 - 1) ((pt i : Int) + rdiv (((pt (i + 1) : Int) - pt i) * r) wd)

/-- The global curve is in force: enabled, and its copy was readable (R92, R119). -/
def curveOn (p : Params) (t : Tables) : Bool :=
  flag (pw p 0x550) 0 && tabBad t (fld (pw p 0x550) 24 12 * 0x1000) 4100 = false

/-- Global tone mapping of a pixel (R119). -/
def toneMap (p : Params) (t : Tables) (r g b : Nat) : Nat × Nat × Nat :=
  let c := pw p 0x550
  let curve := toneCurve t (fld c 24 12 * 0x1000)
  let top := 2 ^ 20 - 1
  if curveOn p t then
    if flag c 1 then
      let m := max r (max g b)
      if m = 0 then (0, 0, 0)
      else
        let f := fun v => min top (rdivN (curve m * v) m)
        (f r, f g, f b)
    else (curve r, curve g, curve b)
  else
    let f := fun v => min top (rdivN v 16)
    (f r, f g, f b)

/-! ### OETF and colour space (R120–R123) -/

/-- The condition 65,535 × (α × L^0.45 − (α − 1)) ≥ n − 1/2 for L = i/1024 and α = num/den, in whole numbers. -/
def oetfReach (num den i n : Nat) : Bool :=
  decide ((((2 * n : Int) - 1) * den + 2 * 65535 * (num - den)).toNat ^ 20 * 1024 ^ 9 ≤ i ^ 9 * (2 * 65535 * num) ^ 20)

/-- The largest value reached, by halving steps. -/
def oetfSearch (num den i : Nat) : Nat → Nat → Nat
  | 0, n => n
  | k + 1, n => oetfSearch num den i k (if oetfReach num den i (n + 2 ^ k) then n + 2 ^ k else n)

/-- Point Q_i of a built-in OETF table: round(65,535 × V(i/1,024)) with α = num/den and β = bnum/den (R120). -/
def oetfPoint (num bnum den i : Nat) : Nat :=
  if i * den < bnum * 1024 then rdivN (65535 * 45 * i) (10 * 1024)
  else min 65535 (oetfSearch num den i 17 0)

/-- A table point of the OETF that CTX_OUT_CFG.oetf names (R120; the user table falls back to BT.709, R92). -/
def oetfTable (p : Params) (t : Tables) (i : Nat) : Nat :=
  let c := pw p 0x5C4
  let base := fld c 24 12 * 0x1000
  if fld c 1 0 = 2 then oetfPoint 10993 181 10000 i
  else if fld c 1 0 = 3 && tabBad t base 2050 = false then tabVal t 2 (base + 2 * i)
  else oetfPoint 1099 18 1000 i

/-- The OETF (R120). -/
def oetfOf (p : Params) (t : Tables) (x : Nat) : Nat :=
  if fld (pw p 0x5C4) 1 0 = 0 then min 65535 (rdivN x 16)
  else
    let q := oetfTable p t
    satU 65535 ((q (x / 1024) : Int) + rdiv (((q (x / 1024 + 1) : Int) - q (x / 1024)) * (x % 1024 : Nat)) 1024)

/-- A back-end pixel: Y', Cb, Cr (or R', G', B' with csc = 1) and the IR plane's Y'. -/
structure Px where
  a  : Nat
  b  : Nat
  c  : Nat
  ir : Nat
deriving DecidableEq, Repr, Inhabited

/-- Saturation to the range of CTX_OUT_CFG (R121). -/
def satRange (narrow : Bool) (v : Int) : Nat := if narrow then (clampI v 256 65279).toNat else (clampI v 0 65535).toNat

/-- Y' from 65,536 × Y (R121). -/
def lumaOut (narrow : Bool) (yu : Nat) : Nat :=
  satRange narrow (if narrow then 4096 + rdivN (yu * 56064) (65536 * 65535) else rdivN yu 65536)

/-- Cb or Cr from its colour and weight (R121). -/
def chromaOut (narrow : Bool) (yu v k : Nat) : Nat :=
  let d : Int := (65536 * v : Nat) - (yu : Int)
  satRange narrow (32768 + (if narrow then rdiv (d * 57344) (2 * (65536 - k) * 65535) else rdiv d (2 * (65536 - k))))

/-- The colour space conversion of one pixel (R121, R122). -/
def cscOut (p : Params) (r g b : Nat) : Nat × Nat × Nat :=
  let c := pw p 0x5C4
  let narrow := flag c 4
  if flag c 5 then
    let f := fun v => if narrow then 4096 + rdivN (v * 56064) 65535 else v
    (f r, f g, f b)
  else
    let (kr, kg, kb) := lumaWeights (fld c 3 2)
    let yu := kr * r + kg * g + kb * b
    (lumaOut narrow yu, chromaOut narrow yu b kb, chromaOut narrow yu r kr)

/-- The global curve's copy is readable (R92, R118). -/
def curveRead (p : Params) (t : Tables) : Bool := !(tabBad t (fld (pw p 0x550) 24 12 * 0x1000) 4100)

/-- The IR plane's Y' (R123): through T where tone is 1, whether or not the colour planes use the curve. -/
def irOut (p : Params) (t : Tables) (v : Nat) : Nat :=
  let c := pw p 0x5E0
  let g := min u24 (rdivN (v * fld c 15 0) 4096)
  let x := if flag c 16 && curveRead p t then toneCurve t (fld (pw p 0x550) 24 12 * 0x1000) g
    else min (2 ^ 20 - 1) (rdivN g 16)
  lumaOut (flag (pw p 0x5C4) 4) (65536 * oetfOf p t x)

/-- Stages 10 to 12 of one pixel, under the tone grid in use (R113–R123). -/
def colourPixel (p : Params) (t : Tables) (gr : Option Grid) (epoch w h x y : Nat) (v : Planes) : Px :=
  let r := ccmOut p 0 v
  let g := ccmOut p 1 v
  let b := ccmOut p 2 v
  let (r, g, b) :=
    match gr with
    | some gd =>
      if flag (pw p 0x550) 2 then
        let k := ltmGain p gd epoch w h x y (yLin p r g b)
        let f := fun c => min u24 (rdivN (c * k) 4096)
        (f r, f g, f b)
      else (r, g, b)
    | none => (r, g, b)
  let (r, g, b) := toneMap p t r g b
  let (a, cb, cr) := cscOut p (oetfOf p t r) (oetfOf p t g) (oetfOf p t b)
  { a := a, b := cb, c := cr, ir := irOut p t v.ir }

/-! ### Chroma noise reduction and sharpening (R124, R125) -/

/-- A pixel of a Px image. -/
def pxAt (im : List (List Px)) (x y : Nat) : Px := (im.getD y []).getD x default

/-- Chroma noise reduction of one pixel; neighbours outside the frame are left out (R111, R124). -/
def cnrAt (p : Params) (w h : Nat) (im : List (List Px)) (x y : Nat) : Px :=
  let cfg := pw p 0x5D0
  let v := pxAt im x y
  if flag cfg 0 && flag (pw p 0x5C4) 5 = false then
    let t := fld (pw p 0x5D4) 15 0
    let (sw, sb, sr) := (ring 2 2).foldl (fun (acc : Nat × Nat × Nat) d =>
      if inside w h (x + 2 * d.1) (y + 2 * d.2) then
        let n := pxAt im (x + 2 * d.1 : Int).toNat (y + 2 * d.2 : Int).toNat
        let dn := rdivN (fld cfg 29 24 * dist n.a v.a) 16 + dist n.b v.b + dist n.c v.c
        let wn := if t = 0 then (if dn = 0 then 256 else 0) else (clampI (256 - rdivN (256 * dn) t) 0 256).toNat
        (acc.1 + wn, acc.2.1 + wn * n.b, acc.2.2 + wn * n.c)
      else acc) (0, 0, 0)
    let alpha := min 256 (fld cfg 16 8)
    let f := fun (c s : Nat) => satU 65535 ((c : Int) + rdiv ((alpha : Int) * ((rdivN (256 * c + s) (256 + sw) : Nat) - (c : Int))) 256)
    { v with b := f v.b sb, c := f v.c sr }
  else v

/-- Sharpening of one pixel; outside the frame the nearest pixel stands in (R111, R125). -/
def shpAt (p : Params) (w h : Nat) (im : List (List Px)) (x y : Nat) : Px :=
  let cfg := pw p 0x5D8
  let v := pxAt im x y
  if flag cfg 0 && flag (pw p 0x5C4) 5 = false then
    let k : List Nat := [1, 4, 6, 4, 1]
    let near := fun (q : Int) (n : Nat) => (clampI q 0 (n - 1 : Int)).toNat
    let s := sumTo 5 (fun j => sumTo 5 (fun i =>
      k.getD i 0 * k.getD j 0 * (pxAt im (near (x + i - 2 : Int) w) (near (y + j - 2 : Int) h)).a))
    let d : Int := v.a - (rdivN s 256 : Nat)
    let lim := pw p 0x5DC
    let d1 : Int := d.sign * ((d.natAbs - fld lim 15 0 : Nat) : Int)
    let l : Int := (fld lim 31 16 : Nat)
    let d2 := clampI (rdiv ((fld cfg 18 8 : Nat) * d1) 256) (-l) l
    { v with a := satRange (flag (pw p 0x5C4) 4) (v.a + d2) }
  else v

/-- A Px image of w by h. -/
def pxOf (w h : Nat) (f : Nat → Nat → Px) : List (List Px) :=
  (List.range h).map (fun y => (List.range w).map (fun x => f x y))

/-! ### The whole pipe over the first rows of a frame -/

/-- The in-line pipeline delay D of a profile code, in rows (R12, R147). -/
def delayRows (profile : Nat) : Nat := if profile = 0 then 14 else if profile = 2 then 24 else 18

/-- The rows of delay of stages 4 to 8 (R85). -/
def delayStage8 (profile : Nat) : Nat := if profile = 2 then 12 else 6

/-- The rows of delay before stage 11 (R85). -/
def delayStage11 (profile : Nat) : Nat := if profile = 0 then 8 else if profile = 2 then 18 else 12

/-- What a pipe works on: parameters, the copies of the tables, the map as read, profile code, geometry, the frame's epoch, its tone grid,
and the restores that lost rows of history: for each the item it came before and a draw's number (R164). -/
structure PipeIn where
  params  : Params
  copies  : List (Nat × Tables)
  scan    : MapScan
  profile : Nat
  width   : Nat
  height  : Nat
  epoch   : Nat
  grid    : Option Grid
  lost    : List (Nat × Nat) := []
deriving DecidableEq, Repr, Inhabited

/-- The draw of a restore whose lost history reaches row y at a stage `delay` rows behind the row that enters (R164). -/
def lostDraw (q : PipeIn) (delay y : Nat) : Option Nat :=
  (q.lost.find? (fun l => decide (l.1 ≤ y + delay) && decide (y < l.1 + delay))).map Prod.snd

/-- A free sample of a lost row. -/
def lostVal (k stage x y : Nat) : Nat := (Config.lostSample k stage x y).toNat

/-- The shading output of the first h rows: stages 4 and 5 (where the zone grid is measured, R126). -/
def shadedRows (q : PipeIn) (h : Nat) (merged : Img) : Img :=
  let m := mosaicOf q.params
  let d := dpcStage q.params q.scan q.width h merged
  imgOf q.width h (fun x y =>
    match lostDraw q 2 y with
    | some k => lostVal k 5 x y
    | none => lscAt q.params (tabFor q.copies (y + 2)) m q.width q.height x y (imgAt d x y))

/-- The output of stage 8 over the first h rows: white balance, raw noise reduction, crosstalk and IR removal. -/
def rawRows (q : PipeIn) (h : Nat) (merged : Img) : Img :=
  let m := mosaicOf q.params
  let s := shadedRows q h merged
  let wb := imgOf q.width h (fun x y => wbAt q.params m x y (imgAt s x y))
  let out := irStage q.params q.width h (xtStage q.params q.width h (nrStage q.params q.profile q.width h wb))
  imgOf q.width h (fun x y =>
    match lostDraw q (delayStage8 q.profile) y with
    | some k => lostVal k 8 x y
    | none => imgAt out x y)

/-- The demosaic's planes over the first h rows: stages 4 to 9. -/
def planeRows (q : PipeIn) (h : Nat) (merged : Img) : List (List Planes) :=
  let pl := demosaic q.params q.profile q.width h (rawRows q h merged)
  (List.range h).map (fun y =>
    match lostDraw q (delayStage11 q.profile) y with
    | some k => (List.range q.width).map (fun x =>
        { r := lostVal k 16 x y, g := lostVal k 17 x y, b := lostVal k 18 x y, c := lostVal k 19 x y, ir := lostVal k 20 x y })
    | none => pl.getD y [])

/-- The output of stage 12 over the first h rows. -/
def stage12Rows (q : PipeIn) (h : Nat) (merged : Img) : List (List Px) :=
  let pl := planeRows q h merged
  pxOf q.width h (fun x y =>
    colourPixel q.params (tabFor q.copies (y + delayStage11 q.profile)) q.grid q.epoch q.width q.height x y
      ((pl.getD y []).getD x default))

/-- The back-end output over the first h rows: all stages. -/
def backRows (q : PipeIn) (h : Nat) (merged : Img) : List (List Px) :=
  let s := stage12Rows q h merged
  let c := pxOf q.width h (cnrAt q.params q.width h s)
  pxOf q.width h (fun x y =>
    match lostDraw q (delayRows q.profile) y with
    | some k =>
      { a := lostVal k 32 x y % 65536, b := lostVal k 33 x y % 65536, c := lostVal k 34 x y % 65536, ir := lostVal k 35 x y % 65536 }
    | none => shpAt q.params q.width h c x y)

/-- The stripe height of a profile code (R150). -/
def stripeRows (profile : Nat) : Nat := if profile = 0 then 16 else if profile = 2 then 64 else 32

/-- The zone column or row of a coordinate among n zones over size samples (R115). -/
def zoneOf (n size v : Nat) : Nat :=
  ((List.range n).filter (fun i => decide (i * size / n ≤ v) && decide (v < (i + 1) * size / n))).headD 0

/-- The grid under construction takes a colour-corrected row: per zone the sum of Y_lin and the pixels counted (R115, R162). -/
def addZones (p : Params) (w h y : Nat) (row : List Planes) (sums : List (Nat × Nat)) : List (Nat × Nat) :=
  let ys := (List.range w).map (fun x =>
    let v := row.getD x default
    yLin p (ccmOut p 0 v) (ccmOut p 1 v) (ccmOut p 2 v))
  (List.range 768).map (fun k =>
    let s := sums.getD k (0, 0)
    let i := k % 32
    let j := k / 32
    if decide (j * h / 24 ≤ y) && decide (y < (j + 1) * h / 24) then
      let lo := i * w / 32
      let vs := (ys.drop lo).take ((i + 1) * w / 32 - lo)
      (s.1 + vs.foldl (· + ·) 0, s.2 + vs.length)
    else s)

/-- The zone values of a finished grid (R115). -/
def zoneValues (sums : List (Nat × Nat)) : List Nat :=
  (List.range 768).map (fun k =>
    let s := sums.getD k (0, 0)
    if s.2 = 0 then 0 else l2 (rdivN s.1 s.2))

end Sys2Proof.Machine
end

