-- ==== Sys2Proof/Machine/Types.lean ====
section
/-! DEFINITION. The records that the device's state is made of, beside its registers and memories: plain data, one record per unit of the
spec. -/

namespace Sys2Proof.Machine

/-- The twelve major modes (spec/01_architecture.md R29). -/
inductive Mode where
  | lineup | boot | verify | train | ready | run | degraded | idle | fallow | diag | rescue | halt
deriving DecidableEq, Repr, Inhabited

/-- The code of a mode in GLOBAL_MODE.mode (R29). -/
def modeCode : Mode → Nat
  | .lineup => 1
  | .boot => 2
  | .verify => 3
  | .train => 4
  | .ready => 5
  | .run => 6
  | .degraded => 7
  | .idle => 8
  | .fallow => 9
  | .diag => 10
  | .rescue => 11
  | .halt => 12

/-- The straps as sampled at line-up (spec/15_boot_identity_heads.md R433), each field as GLOBAL_STRAP shows it. -/
structure Straps where
  role      : Nat := 0
  trunk     : Nat := 0
  boot      : Nat := 0
  twaddr    : Nat := 0
  lineclass : Nat := 0
  fallow    : Nat := 0
  refclk    : Nat := 0
deriving DecidableEq, Repr, Inhabited

/-! ### Packets, events and reports -/

/-- A manifest's fields before its head is built (spec/06_views_taps_convoys.md R188; spec/09_caravan_link.md R274, R275). -/
structure Manifest where
  ctype  : Nat := 0
  source : Nat := 0
  seq    : Nat := 0
  line   : Nat := 0
  length : Nat := 0
  epoch  : Nat := 0
  convoy : Nat := 0
  stamp  : Nat := 0
  flags  : Nat := 0
  format : Nat := 0
deriving DecidableEq, Repr, Inhabited

/-- What kind of thing a queued packet is, for what must follow when it has been sent. -/
inductive PktKind where
  | plain
  | viewLine (view slot : Nat)
  | harvest (ctx slot : Nat) (keep : Bool)
  | tapRow (chan bytes : Nat)
  | through (feeder start bytes : Nat)
deriving DecidableEq, Repr, Inhabited

/-- A packet waiting to be sent: its manifest or its whole head, and its payload in the unit or in the pan (address, length). -/
structure Packet where
  man   : Manifest := {}
  head  : List Byte := []
  bytes : List Byte := []
  inPan : Option (Nat × Nat) := none
  kind  : PktKind := .plain
deriving DecidableEq, Repr, Inhabited

/-- An event occurrence on its way to the drovers (spec/07_jorran_isa.md R232); a squash names the drover it is for. -/
structure Ev where
  num    : Nat
  drover : Option Nat := none
deriving DecidableEq, Repr, Inhabited

/-- A fault report on its way to the collector (spec/13_fault_collector.md R384): master 15, access type 0 and the unit's base where no
access caused it; what FALLOW latched keeps its timestamp and its programmed class (R385). -/
structure Report where
  source : Nat
  master : Nat := 15
  access : Nat := 0
  addr   : Nat := 0
  forced : Bool := false
  stamp  : Option Nat := none
  cls    : Option Nat := none
deriving DecidableEq, Repr, Inhabited

/-! ### Intake -/

/-- A CSI port beside its registers (spec/02_intake.md R40, R42): the latched configuration, whether its receiver is in reset, and the
virtual channels that wait for a frame start since the last reset. -/
structure Port where
  latched   : Word := 0x1458
  resetting : Bool := false
  waits     : List Nat := []
deriving DecidableEq, Repr, Inhabited

/-- A frame of a context, from its frame start until the pipe, the harvest and its views are done with it (R52–R77). `exps` holds the accepted
rows of each exposure, top first, and `widths` the bits per sample of each exposure's route; `merged` the rows that have left the merge;
`copies` the table copies, newest first, each with the item it is used from; `scan` the map reader; `items` counts the rows and flush rows the
pipe has processed; `luma` the rows that have left stage 12 and `out` those that have left the back end; `firstSlot` its first stripe slot in
the ring; `gridOk` falls when a change makes the grid it builds unusable; `lost` the restores that lost history. -/
structure Frame where
  seq        : Nat
  epoch      : Nat := 0
  ambiguous  : Bool := false
  convoy     : Nat := 0xFFFFFFFF
  straggler  : Bool := false
  holdover   : Bool := false
  stamp      : Nat := 0
  profile    : Nat := 1
  pipe       : Nat := 0
  memfed     : Bool := false
  params     : Params := []
  copies     : List (Nat × Tables) := []
  scan       : MapScan := {}
  widths     : List Nat := []
  exps       : List (List ExpRow) := []
  merged     : List (List Nat) := []
  slotLines  : Nat := 0
  concealed  : Nat := 0
  concealSeen : Bool := false
  tableErr   : Bool := false
  ended      : Bool := false
  truncated  : Bool := false
  cause      : Nat := 0
  confirm    : Nat := 0
  mark       : Option Nat := none
  items      : Nat := 0
  begun      : Bool := false
  grid       : Option Grid := none
  gridOk     : Bool := true
  lost       : List (Nat × Nat) := []
  luma       : List (List Px) := []
  out        : List (List Px) := []
  firstSlot  : Nat := 0
  released   : Nat := 0
  harvested  : Bool := false
  emit       : Bool := false
deriving DecidableEq, Repr, Inhabited

/-- What a context does with the lines that arrive (R56, R58, R74, R77). -/
inductive CtxPhase where
  | noFrame
  | open
  | closed
  | dropped
  | orphan
deriving DecidableEq, Repr, Inhabited

/-- An epoch entry waiting for its frame (spec/04_colour_and_harvest.md R139, R140). -/
structure EpochEntry where
  epoch     : Nat
  target    : Nat
  doneAt    : Nat
  ambiguous : Bool := false
deriving DecidableEq, Repr, Inhabited

/-- A context beside its registers. `frames` are oldest first; the open frame is the last. `grid` is the tone grid in use, `sums` the zone sums
and counts under construction and `built` the frame sequence and epoch of a grid that is complete there (spec/04_colour_and_harvest.md R116);
`saved` says that the context's waystation has been written; `lastStart`, `lastEnd` and `period` are its last frame start and frame end and its
last frame period, in time-base cycles (spec/14_two_wire.md R431). -/
structure Ctx where
  phase     : CtxPhase := .noFrame
  frames    : List Frame := []
  embedded  : List (Nat × List Byte) := []
  edTop     : Nat := 0
  edBottom  : Nat := 0
  endedVcs  : List Nat := []
  pendings  : List EpochEntry := []
  grid      : Option Grid := none
  sums      : List (Nat × Nat) := []
  built     : Option (Nat × Nat) := none
  saved     : Bool := false
  ringNext  : Nat := 0
  abandoned : Bool := false
  lastTick  : Option Int := none
  harvBusy  : List Nat := []
  lastStart : Option Nat := none
  lastEnd   : Option Nat := none
  period    : Option Nat := none
  epochDue  : Nat := 0
deriving DecidableEq, Repr, Inhabited

/-! ### Pipes and the pan -/

/-- A row in progress in a pipe (spec/05_pipe_sharing.md R147, R148). -/
structure RowJob where
  ctx    : Nat
  inline : Bool
deriving DecidableEq, Repr, Inhabited

/-- A run-ahead plan for the next slot (R165): its slot, context and frame, the row its stripe starts at, whether the frame had ended by
then, whether it continues the active half (R166) and whether its restore is complete. -/
structure Ahead where
  slot      : Nat
  ctx       : Nat
  seq       : Nat
  row       : Nat
  endedThen : Bool
  same      : Bool := false
  restored  : Bool := false
deriving DecidableEq, Repr, Inhabited

/-- The state of a slot swap (R167). -/
inductive Swap where
  | none
  | swapping
  | waitRestore
deriving DecidableEq, Repr, Inhabited

/-- A pipe beside its registers. `stripeEnd` is the item at which the running stripe ends; `due` a slot whose window has opened while a
stripe still ran, `late` that this stripe's overrun has been counted (R160); `saving` the contexts whose states wait to be saved, oldest first. -/
structure Pipe where
  clock     : Nat := 1
  row       : Option RowJob := none
  suspended : Bool := false
  waiting   : Bool := false
  running   : Bool := false
  slot      : Option Nat := none
  slotCtx   : Nat := 0
  slotRuns  : Bool := false
  started   : Nat := 0
  stripe    : Bool := false
  stripeEnd : Nat := 0
  due       : Option Nat := none
  late      : Bool := false
  swap      : Swap := .none
  ahead     : Option Ahead := none
  active    : Option Nat := none
  saving    : List Nat := []
  inlineClk : Nat := 0
  busyClk   : Nat := 0
deriving DecidableEq, Repr, Inhabited

/-- A pan access of a drover queued at a bank for its toll owner (R171, spec/07_jorran_isa.md R210): `half` once a write of fewer than 64
bytes has read its line, `void` where that read failed, so that the second visit writes nothing. -/
structure PanReq where
  drover : Nat
  addr   : Nat
  width  : Nat
  write  : Bool
  data   : Word := 0
  pc     : Nat := 0
  half   : Bool := false
  void   : Bool := false
deriving DecidableEq, Repr, Inhabited

/-! ### Views and taps -/

/-- A view engine beside its registers (spec/06_views_taps_convoys.md R178–R192). `params` is the set its open frame started with. -/
structure View where
  frameOpen : Bool := false
  ctx       : Nat := 0
  seq       : Nat := 0
  line      : Nat := 0
  sent      : Nat := 0
  params    : Params := []
  coefs     : Tables := {}
  coefErr   : Bool := false
  cut       : Bool := false
  shed      : Bool := false
  nextSlot  : Nat := 0
  used      : Nat := 0
  nexts     : List Nat := []
  queue     : List Packet := []
deriving DecidableEq, Repr, Inhabited

/-- A brine tap channel beside its registers (R193–R197): `cands` are the frames that have begun since the arm, `rows` the pan offset and size
of each row that has not been sent, oldest first. -/
structure Tap where
  armed   : Bool := false
  active  : Bool := false
  frame   : Option Nat := none
  left    : Nat := 0
  lost    : Bool := false
  stop    : Bool := false
  modeStop : Bool := false
  cands   : List Nat := []
  rows    : List (Nat × Nat) := []
  next    : Nat := 0
deriving DecidableEq, Repr, Inhabited

/-! ### Drovers -/

/-- The states of a drover (spec/07_jorran_isa.md R252). -/
inductive DrvState where
  | reset
  | running
  | waiting
  | halted
  | trapped
deriving DecidableEq, Repr, Inhabited

/-- A staged set (R243–R248): target context and epoch, entries in order, the handle and the time of its COMMIT once armed. -/
structure StagedSet where
  ctx      : Nat
  epoch    : Nat
  entries  : List (Nat × Word) := []
  overflow : Bool := false
  handle   : Nat := 0
  order    : Nat := 0
deriving DecidableEq, Repr, Inhabited

/-- A posted store in the store queue, with its response once it has one: it completed or failed (R222, R223). -/
structure PostedStore where
  addr  : Nat
  data  : Word
  width : Nat
  pc    : Nat
  reply : Option Bool := none
deriving DecidableEq, Repr, Inhabited

/-- A load whose response is outstanding (R220, R221). -/
structure PendingLoad where
  addr  : Nat
  width : Nat
  rd    : Nat
  pc    : Nat
  reply : Option (Option Word) := none
deriving DecidableEq, Repr, Inhabited

/-- A sleeping WAIT (R234). -/
structure Sleep where
  mask : Nat
  rd   : Nat
deriving DecidableEq, Repr, Inhabited

/-- A drover: its work registers, pc, state and queues (R206–R252). `failed` is a store whose error response waits for an instruction
boundary: its pc and address (R223); `haltDue` a halt that waits for one (R252). -/
structure Drover where
  regs    : List (Nat × Word) := []
  pc      : Nat := 0
  state   : DrvState := .reset
  pend    : Nat := 0
  sleep   : Option Sleep := none
  load    : Option PendingLoad := none
  stores  : List PostedStore := []
  openSet : Option StagedSet := none
  armed   : List StagedSet := []
  snap    : Nat := 0
  ovrArm  : Bool := true
  failed  : Option (Nat × Nat) := none
  haltDue : Bool := false
  wdog    : Nat := 0
deriving DecidableEq, Repr, Inhabited

/-- A message port (R237–R240): at most eight messages each way, oldest first. -/
structure MsgPort where
  inbox  : List (List Byte) := []
  outbox : List (List Byte) := []
deriving DecidableEq, Repr, Inhabited

/-- A time compare unit (R242), with the cycle of the last event of its control cycle and the count of its skipped firings, for which the spec
names no register (spec/11_time.md R334, R343; DESIGN CHOICE, log 136). -/
structure Compare where
  armed  : Bool := false
  target : Nat := 0
  last   : Option Nat := none
  skips  : Nat := 0
deriving DecidableEq, Repr, Inhabited

/-! ### Link and lanes -/

/-- A block of 258 bits: control or data, and its 32 payload bytes (spec/09_caravan_link.md R263). -/
structure Block where
  ctl   : Bool := false
  bytes : List Byte := []
deriving DecidableEq, Repr, Inhabited

/-- A packet being received in one owner's blocks (R278, R279). -/
structure RxPacket where
  head : List Byte
  data : List (List Byte) := []
  bad  : Bool := false
  drop : Bool := false
  stamp : Nat := 0
deriving DecidableEq, Repr, Inhabited

/-- A packet being sent: its final head, the data blocks sent so far, the running CRC-32C, whether its data failed, and whether its END is due
(R274, R282, R316). -/
structure Sending where
  pkt  : Packet
  head : List Byte
  pos  : Nat := 0
  crc  : Nat
  bad  : Bool := false
  cut  : Bool := false
deriving DecidableEq, Repr, Inhabited

/-- The states of a lane group (spec/10_lanes.md R312). -/
inductive GroupState where
  | off | waitLine | training | ready | eidle | wake | listen | test
deriving DecidableEq, Repr, Inhabited

/-- What the transmitters of a group drive (R308, R311, R314, R316, R322, R324). -/
inductive TxDrive where
  | silent | training | blocks | burst | pattern | loop
deriving DecidableEq, Repr, Inhabited

/-- One MAP fragment received, and the epochs that have turned since (spec/09_caravan_link.md R283, R285). -/
structure Fragment where
  gen     : Nat
  pending : Bool
  index   : Nat
  codes   : List Byte
  age     : Nat := 0
deriving DecidableEq, Repr, Inhabited

/-- A lane group: the trunk group 0 and the feeder groups 1 and 2. `map` is the map its receiver holds with its generation, none while unknown;
`pendEnd` the generation that a change cycle announces with the epochs left of it; `retQueue` the requests to forward, each with the messages
that go before it; `nextMap` one gathered from pending fragments. `trains` counts the TRAIN blocks with rx_ready sent on each lane since it
became READY, and `anchored` says that a milestone has been sent since they were enough (R311); `rxStream` that the receive link brings the
training stream, whose data blocks occupy no slot (R308). -/
structure Group where
  state    : GroupState := .off
  attempt  : Nat := 0
  tx       : TxDrive := .silent
  config   : Nat := 0
  hold     : Bool := false
  faultArm : Bool := true
  trained  : List Nat := []
  lockSeen : Bool := false
  lockNow  : Bool := false
  deskewed : Bool := false
  deskewBad : Bool := false
  entering : Bool := false
  trains   : Nat := 0
  anchored : Bool := false
  fallowOn : List Nat := []
  rxStream : Bool := true
  txCount  : Nat := 0
  forcedIn : Bool := false
  slot     : Nat := 0
  opens    : List (Nat × RxPacket) := []
  map      : Option (Nat × List Nat) := none
  nextMap  : Option (Nat × List Nat) := none
  frags    : List Fragment := []
  mileGen  : Nat := 0
  retQueue : List (Nat × Packet) := []
  pendEnd  : Option (Nat × Nat) := none
  idDue    : Bool := false
  sending  : Option Sending := none
  last     : Option Block := none
deriving DecidableEq, Repr, Inhabited

/-- The states of a receiver (LANE_STATUS.rx_state). -/
inductive RxState where
  | off | hunt | verify | locked | hold | monitor
deriving DecidableEq, Repr, Inhabited

/-- Where the search of R306 stands: acquiring at a step of the sequence, measuring a CTLE step with the best so far, or done. -/
inductive Search where
  | acquire (k : Nat)
  | measure (k best bestFom : Nat)
  | done
deriving DecidableEq, Repr, Inhabited

/-- What a lane's transmitter holds between commands (spec/09_caravan_link.md R264, R265, R267; spec/10_lanes.md R297–R300, R308, R323):
the scrambler's history, latest bit first; the bits of the codeword in progress; the precoder's last symbol; the running disparity; the
pattern generator's last bits; where in its unit an 8b/10b training stream stands; errors to inject; the levels that wait for the taps'
look-ahead; and the levels it last sent and drove. Levels count thirds of the full level, driven values 1/96 mV. -/
structure TxLane where
  hist   : List Bool := List.replicate 58 true
  word   : List Bool := []
  prev   : Nat := 0
  rdPos  : Bool := false
  prbs   : List Bool := List.replicate 31 true
  unit   : Nat := 0
  inject : Nat := 0
  held   : List Int := [0, 0, 0]
  line   : List Int := []
  drive  : List Int := []
deriving DecidableEq, Repr, Inhabited

/-- A block as a receiver's decoder delivers it (spec/09_caravan_link.md R263, R266). -/
structure RxBlock where
  ctl     : Bool
  bytes   : List Byte
  errored : Bool := false
deriving DecidableEq, Repr, Inhabited

/-- What a lane's receiver holds between commands (spec/09_caravan_link.md R264–R269; spec/10_lanes.md R304, R323): the descrambler's history;
the running disparity; the last symbol received; consecutive valid headers and the symbols slipped while it hunts; decoded blocks not taken yet;
slicer thresholds and reference level; the checker's reference bits, its run of correct bits before lock, and whether each of its last 64 bits
was wrong. -/
structure RxLane where
  hist   : List Bool := List.replicate 58 true
  rdPos  : Bool := false
  prev   : Nat := 0
  good   : Nat := 0
  slip   : Nat := 0
  blocks : List RxBlock := []
  slicer : List Int := []
  seed   : List Bool := []
  right  : Nat := 0
  wrong  : List Bool := []
deriving DecidableEq, Repr, Inhabited

/-- How a block reaches a receiver: decoded without error, decoded but errored, as 33 received code groups, as the first of a
codeword received as 2,720 PAM4 symbols P, or as the next of the codeword decoded before (spec/09_caravan_link.md R265–R267;
spec/10_lanes.md R298). -/
inductive Arrival where
  | clean
  | errored
  | groups (words : List Nat)
  | codeword (symbols : List Nat)
  | follow
deriving DecidableEq, Repr, Inhabited

/-- A lane beside its registers (spec/10_lanes.md R300–R323). -/
structure Lane where
  rx       : RxState := .off
  signal   : Bool := false
  fom      : Nat := 0
  fomKnown : Bool := false
  ctle     : Nat := 0
  partner  : Bool := false
  matched  : Bool := false
  search   : Search := .acquire 0
  dfe      : List Int := List.replicate 12 0
  lowRun   : Nat := 0
  lowSent  : Bool := false
  cfg      : Word := 0x10600C0E
  ffe      : Word := 0x2000
  silent   : Bool := false
  checkLock : Bool := false
  relocks  : Nat := 0
  bits     : Nat := 0
  errs     : Nat := 0
  tx       : TxLane := {}
  rcv      : RxLane := {}
deriving DecidableEq, Repr, Inhabited

/-- A request from TRET: its head and its data, and the status it is answered with where it is not executed (spec/09_caravan_link.md R287,
R289). -/
structure Request where
  head : List Byte
  data : List Byte := []
  status : Nat := 0
deriving DecidableEq, Repr, Inhabited

/-- The trunk's transmitter and the queues behind it (R282–R286); the egress clocks since the last staged map word, up to 4 (R284), and the
egress reads that missed their slot (R274); `since` names the map words staged since the change cycle began. -/
structure Trunk where
  slot     : Nat := 0
  frag     : Nat := 0
  cycle    : Option Nat := none
  newMap   : List (Nat × Word) := []
  since    : List Nat := []
  curs     : List (Nat × Sending) := []
  classH   : List Packet := []
  tapTurn  : Bool := false
  requests : List Request := []
  resetTag : Option Nat := none
  through  : List (List Packet) := [[], []]
  fill     : List Nat := [0, 0]
  nextOff  : List Nat := [0, 0]
  seqs     : List Nat := [0, 0, 0, 0, 0]
  last     : Option Block := none
  age      : Nat := 4
  missed   : Nat := 0
deriving DecidableEq, Repr, Inhabited

/-! ### Time -/

/-- The states of the clock (spec/11_time.md R331). -/
inductive ClockState where
  | free | tracking | holdover
deriving DecidableEq, Repr, Inhabited

/-- The time base: linear time in units of 2^-30 ns, the time-base cycles since line-up, the addend in force, the written addends that do
not count yet, each with the cycle count from which it does, the clock state, and the cycle on which the latest forward step came (R326, R327,
R331, R334). -/
structure Clock where
  now    : Nat := 0
  cycles : Nat := 0
  addend : Nat := 0x80000000
  coming : List (Nat × Nat) := []
  state  : ClockState := .free
  stepped : Option Nat := none
deriving DecidableEq, Repr, Inhabited

/-- An entry of a timestamp queue (R342). -/
structure TsEntry where
  kind : Nat
  id   : Nat
  time : Nat
deriving DecidableEq, Repr, Inhabited

/-- An entry of a capture FIFO (R347, R351). -/
structure CapEntry where
  rising    : Bool
  discarded : Nat
  time      : Nat
deriving DecidableEq, Repr, Inhabited

/-- A capture input (R347, R348): times in half nanoseconds of the time base's cycle count. `level` is the input's level, low at line-up
(DESIGN CHOICE, log 123). -/
structure Capture where
  fifo      : List CapEntry := []
  lastEdge  : Option Nat := none
  discarded : Nat := 0
  stuck     : Bool := false
  level     : Bool := false
  idleAt    : Option Nat := none
deriving DecidableEq, Repr, Inhabited

/-- A trigger output (R334, R344, R345): the cycle of its last firing, its pulse with the length it lasts in 2^-24 ns, the time from which it
may fire. -/
structure Trigger where
  last   : Option Nat := none
  pulse  : Bool := false
  len    : Nat := 0
  since  : Nat := 0
deriving DecidableEq, Repr, Inhabited

/-! ### The fault collector -/

/-- A source that is unacknowledged: the number and the acted class of its latest registration (spec/13_fault_collector.md R392). -/
structure Unacked where
  num : Nat
  cls : Nat
deriving DecidableEq, Repr, Inhabited

/-- A fenced unit: the source that fenced it, whether it has been reset since, and a drover's run that waits for the return (R402). -/
structure Fence where
  source  : Nat
  wasReset : Bool := false
  run     : Bool := false
deriving DecidableEq, Repr, Inhabited

/-- The collector beside its registers (R384–R406). `latched` holds what arrived in FALLOW, `packets` the fault and head reports that wait
for class H, `beatAt` the time-base cycle at which the heartbeat was restarted. -/
structure Collector where
  unacked  : List (Nat × Unacked) := []
  next     : Nat := 0
  forced   : Bool := false
  unlocked : Bool := false
  fences   : List (Nat × Fence) := []
  latched  : List Report := []
  packets  : List Packet := []
  beatAt   : Nat := 0
deriving DecidableEq, Repr, Inhabited

/-! ### Two-wire ports -/

/-- A slot's pointer and last error (spec/14_two_wire.md R412, R421). -/
structure TwtSlot where
  ptr  : Nat := 0
  err  : Nat := 0
  cmd  : Nat := 0
  addr : Word := 0
deriving DecidableEq, Repr, Inhabited

/-- A transaction that TWT serves (R411–R422): its slot and that slot's word when it began, the read/write bit, the command, the bytes so
far for the PEC, what the write phase holds (a pointer, writes of address, width and data, a message), the count of a BLKRD, whether a byte
was refused, the error that the end of the write phase reports, the legacy address, the read bytes supplied, the read bytes fetched and
not yet supplied, and the accesses of a BLKRD that are still to be made. -/
structure TwtTx where
  slot    : Nat
  cfg     : Word
  read    : Bool := false
  cmd     : Option Nat := none
  wire    : List Byte := []
  setptr  : Option Nat := none
  writes  : List (Nat × Nat × Word) := []
  push    : Option (List Byte) := none
  count   : Nat := 0
  fault   : Bool := false
  errored : Bool := false
  endErr  : Nat := 0
  legacy  : Option Nat := none
  out     : List Byte := []
  buf     : List Byte := []
  chunks  : List (Nat × Nat) := []
deriving DecidableEq, Repr, Inhabited

/-- TWT as a target. -/
structure Twt where
  slots : Vector TwtSlot 4 := Vector.replicate 4 {}
  tx    : Option TwtTx := none
deriving DecidableEq, Repr, Inhabited

/-- What waits in a controller's queues: a descriptor, one of the four reads of a head probe, or one of the 28-byte reads of a head's certificate
(R425; spec/15_boot_identity_heads.md R452, R455). -/
inductive TwsJob where
  | desc (k : Nat)
  | probe (ctx part : Nat)
  | cert (ctx part : Nat)
deriving DecidableEq, Repr, Inhabited

/-- A completion (R426). -/
structure TwsDone where
  desc   : Nat
  status : Nat
  bytes  : Nat
deriving DecidableEq, Repr, Inhabited

/-- A controller's transaction cut short on the bus: its port, and the bytes that the attempt had written and had acknowledged, or had read
(R426). -/
structure BusCut where
  port  : Fin 9
  bytes : Nat := 0
deriving DecidableEq, Repr, Inhabited

/-- A controller port beside its registers (R410, R424–R431): its jobs in submission order, the one that runs and whether it is on the
bus, a wait for the retry time, recovery (wanted, and under way), the completions, and its frame window in time-base cycles. -/
structure Tws where
  busy      : Bool := true
  order     : List TwsJob := []
  running   : Option TwsJob := none
  inFlight  : Bool := false
  tries     : Nat := 0
  waiting   : Bool := false
  recover   : Bool := false
  inRecovery : Bool := false
  fresh     : Bool := false
  done      : List TwsDone := []
  windowOpen : Bool := false
  closeAt   : Nat := 0
deriving DecidableEq, Repr, Inhabited

/-! ### Boot, security and heads -/

/-- A component entry of a bundle table (spec/15_boot_identity_heads.md R440). -/
structure Component where
  kind   : Nat
  target : Nat
  offset : Nat
  length : Nat
  load   : Nat
  entry  : Nat
  hash   : List Byte
deriving DecidableEq, Repr, Inhabited

/-- A bundle table (R440). -/
structure Bundle where
  length  : Nat
  secver  : Nat
  install : Bool
  serial  : Nat
  slot    : Nat := 0
  comps   : List Component
deriving DecidableEq, Repr, Inhabited

/-- Where the boot ROM stands (R437–R446). While it installs a bundle it names the copy that it erases and programs, the copy's flash address and
the flash commands that it uses (R446). -/
inductive BootStage where
  | reading
  | download
  | verifyQspi (copyB : Bool) (other : Bool)
  | verifyBuffer
  | loading (source : Nat)
  | install (copyB : Bool) (base : Nat) (commands : List Nat)
  | done
deriving DecidableEq, Repr, Inhabited

/-- The boot ROM: its stage, the bundle that passed, whether FS142 was raised in this boot, whether the ROM has finished with the other copy
and so acknowledges that registration when it comes, and whether copies A and B have failed (R437, R446). -/
structure Boot where
  stage   : BootStage := .reading
  bundle  : Option Bundle := none
  raised  : Bool := false
  ackDue  : Bool := false
  failA   : Bool := false
  failB   : Bool := false
deriving DecidableEq, Repr, Inhabited

/-- A request the security engine serves in arrival order (R448, R449, R455). -/
inductive SecJob where
  | prepare
  | verify
  | attest (nonce : List Byte)
  | head (ctx : Nat) (record cert : List Byte)
deriving DecidableEq, Repr, Inhabited

/-- A measurement (R447, R450). -/
structure Measure where
  kind     : Nat
  target   : Nat
  replaced : Bool
  hash     : List Byte
deriving DecidableEq, Repr, Inhabited

/-- The security engine: its queue, whether a leaf is ready to sign under, whether a preparation has ended since the reset, the bundle that
passed and the measurement log (R447–R449). -/
structure Sec where
  jobs    : List SecJob := []
  ready   : Bool := false
  idle    : Bool := false
  passed  : Option Bundle := none
  log     : List Measure := []
deriving DecidableEq, Repr, Inhabited

/-- A camera head's ledger entry and its probes (R452–R459): `readBad` says that a read of the probe failed, `cert` holds what has been read of
its certificate, `hit` the counters that have reached their limits, and `keep` the end-of-life state that frames up to a sequence number keep
(R457, R459). Verdicts: 0 NONE, 1 VALID, 2 UNSIGNED, 3 INVALID, 4 ABSENT. -/
structure Head where
  entry   : Bool := false
  record  : List Byte := []
  verdict : Nat := 0
  phr     : Nat := 0
  hot     : Nat := 0
  cyc     : Nat := 0
  fresh   : Bool := true
  key     : List Byte := []
  tempOk  : Bool := false
  probing : Bool := false
  readBad : Bool := false
  cert    : List Byte := []
  hit     : List Nat := []
  keep    : Option (Nat × Bool) := none
  policy  : Nat := 0
  eol     : Bool := false
deriving DecidableEq, Repr, Inhabited

/-! ### Power and heat -/

/-- A feeder line (spec/16_power_and_modes.md R468). -/
inductive FeedState where
  | off | detect | ramp | hold | on | backoff
deriving DecidableEq, Repr, Inhabited

/-- A feeder line's state, its detected class and a wait before the next detection. -/
structure Feed where
  state : FeedState := .off
  cls   : Nat := 0
  wait  : Bool := false
deriving DecidableEq, Repr, Inhabited

/-- Power and heat beside their registers: domains switched on and not yet usable, domains to come back after FALLOW, a granted class
that waits, the feeder lines, the thermal monitor (its warning, whether a peak is known, its actions and its runs of samples), and whether
the lane PLL has locked (spec/10_lanes.md R321). -/
structure Power where
  coming   : List Nat := []
  retained : List Nat := []
  granted  : Option Nat := none
  feeds    : Vector Feed 2 := Vector.replicate 2 {}
  warned   : Bool := false
  peaked   : Bool := false
  cool     : Bool := false
  shedding : Bool := false
  coolRun  : Nat := 0
  shedRun  : Nat := 0
  pllUp    : Bool := true
deriving DecidableEq, Repr, Inhabited

/-! ### The mode machine -/

/-- The mode machine and what stands beside it: the mode before the current one (0 after reset), the count of changes, the straps, the hub
rails, the exported rails VOUT33 and VOUT18, the HALT latch, RESET_N, the causes of device resets that are due, a drain, the mode that IDLE
returns to, and the reference. -/
structure Sys where
  mode     : Mode := .boot
  prev     : Nat := 0
  changes  : Nat := 0
  straps   : Straps := {}
  rails    : Bool := true
  vout     : Bool := true
  halt     : Bool := false
  resetLow : Bool := false
  resets   : List Nat := []
  drain    : Bool := false
  back     : Mode := .ready
  crystal  : Bool := false
deriving DecidableEq, Repr, Inhabited

/-- The access types of a report: none, read, write, alias, guard, fetch, engine (spec/12_register_access.md R378). -/
inductive AccType where
  | none | read | write | bitAlias | guard | fetch | engine
deriving DecidableEq, Repr, Inhabited

/-- The access that a unit acts on: its master, its type and the address that a report of it names (spec/13_fault_collector.md R384). -/
structure Access where
  master : Nat
  kind   : AccType
  addr   : Nat
deriving DecidableEq, Repr, Inhabited

/-- The registers that decide a step: TIME_STEP_LIMIT, TIME_STEP_SEC and TIME_STEP_NS as they stand when the step is asked for
(spec/11_time.md R332, R333). -/
structure StepArgs where
  limit : Word
  sec   : Word
  ns    : Word
deriving DecidableEq, Repr, Inhabited

/-- What a register write or a fault asks of the mode machine and the clock, carried out at the end of the same step. -/
inductive Act where
  | degrade
  | restore
  | halt
  | reset (cause : Nat)
  | mode (code : Nat)
  | request (write : Access) (code : Nat)
  | addend (w : Nat)
  | step (args : StepArgs)
  | force (args : StepArgs)
  | holdoverSet
  | holdoverClear
  | trunkReady
  | wakeTret
  | leaf
deriving DecidableEq, Repr, Inhabited

/-- A guarded value write in progress (spec/12_register_access.md R371): the address and the value. -/
structure Guard where
  addr  : Nat
  value : Word
deriving DecidableEq, Repr, Inhabited

/-- What the header ECC of a CSI-2 packet said: good, one bit corrected, or uncorrectable (spec/02_intake.md R39). -/
inductive Header where
  | good
  | corrected
  | bad
deriving DecidableEq, Repr, Inhabited

/-- The units whose staged registers apply within 1 µs of a write while they are idle (spec/12_register_access.md R365). -/
inductive IdleUnit where
  | profile
  | toll
  | convoy
  | ctx (n : Fin 16)
  | view (n : Fin 32)
  | pipe (n : Fin 4)
  | routes (n : Fin 8)
  | cycle (u : Fin 4)
  | trigger (n : Fin 16)
deriving DecidableEq, Repr, Inhabited

end Sys2Proof.Machine
end

