-- ==== Sys2Proof/Syntax.lean ====
section
/-! DEFINITION. The commands of the PK9616: one constructor per row of the opcode table. A command from outside carries what arrives with it
(a packet, a block, a reading of the line); a command of a unit's own clock or timer names the unit; a register access carries its
master (spec/12_register_access.md R353) and the value written; `dt` is the count of time-base cycles that have passed before it. -/

namespace Sys2Proof

open Machine

/-- The width of a crossbar access (spec/12_register_access.md R356). -/
inductive Width where
  | byte
  | half
  | word
deriving DecidableEq, Repr, Inhabited

/-- A command. -/
inductive Instr where
  /-- The line holds at least 17 V for 10 ms, and the line die starts the hub rails, the crystal, AON and the exported rails
  (spec/16_power_and_modes.md R461). -/
  | lineupStart
  /-- 1 ms after the 1.8 V rail regulates, the straps are sampled and the device enters BOOT, or HALT if the HALT latch is set
  (spec/15_boot_identity_heads.md R433). -/
  | lineupComplete (straps : Straps) (volts : Nat) (ma : Nat)
  /-- The line enters 16–18 V or 57–60 V and PWR_STATUS.range is set (spec/16_power_and_modes.md R466). -/
  | lineRange (volts : Nat) (ma : Nat)
  /-- The line has been below 16 V for 10 µs, so PWR_STATUS.warn is set and event 45 is raised (spec/16_power_and_modes.md R466). -/
  | shutdownWarning (volts : Nat) (ma : Nat)
  /-- The line has been below 16 V for 1 ms or above 60 V for 10 µs, and FS001 is raised (spec/16_power_and_modes.md R466). -/
  | lineFault (volts : Nat) (ma : Nat)
  /-- The line falls below 12 V, the hub rails stop and the mode becomes LINEUP (spec/16_power_and_modes.md R466). -/
  | linePowerLost
  /-- The line has stayed below 5 V for 200 ms, so the HALT latch is cleared (spec/16_power_and_modes.md R467). -/
  | haltLatchClear
  /-- A write of RUN to PWR_MODE.req by master 2 moves READY to RUN and opens the sluices at each context's next frame start
  (spec/16_power_and_modes.md R475). -/
  | modeRequestRun (master : Fin 7)
  /-- A write of IDLE to PWR_MODE.req starts the drain towards IDLE (spec/16_power_and_modes.md R476). -/
  | modeRequestIdle (master : Fin 7)
  /-- A write of FALLOW to PWR_MODE.req in IDLE with CFG_FALLOW = 1 enters FALLOW, with retention and domains switched off
  (spec/16_power_and_modes.md R478). -/
  | modeRequestFallow (master : Fin 7)
  /-- A write of DIAG to PWR_MODE.req moves READY to DIAG (spec/16_power_and_modes.md R475). -/
  | modeRequestDiag (master : Fin 7)
  /-- A write of leave-IDLE to PWR_MODE.req returns IDLE to the previous mode, or ends a drain in progress (spec/16_power_and_modes.md
  R475). -/
  | modeRequestLeaveIdle (master : Fin 7)
  /-- No frame is open any more, so the pipe datapaths are gated, the mode becomes IDLE and the lanes enter electrical idle
  (spec/16_power_and_modes.md R476). -/
  | idleDrainComplete
  /-- 40 ms after an IDLE request, every frame still open closes with close cause 3 (spec/16_power_and_modes.md R476). -/
  | idleDrainTimeout
  /-- WAKE_N held low for 1 µs leaves IDLE, or ends FALLOW and enters TRAIN (spec/16_power_and_modes.md R475). -/
  | wakeN
  /-- RESET_N held low for 1 µs puts the device in reset, and it stays in reset while the pin is low (spec/16_power_and_modes.md R479). -/
  | resetNAssert
  /-- 10 µs after RESET_N rises, the boot ROM starts (spec/16_power_and_modes.md R479). -/
  | resetNRelease
  /-- A pending device reset takes effect after its delay: every unit is reset and the device enters BOOT, while AON and customs records are
  kept (spec/01_architecture.md R30). -/
  | deviceReset
  /-- The ONCE write of GLOBAL_TREE.tree_id_set in the root copies the value to tree_id and sends new identity blocks down the tree
  (spec/01_architecture.md R28). -/
  | treeIdSet (master : Fin 7) (v : Byte)
  /-- Within 1 µs of a staged write to an idle unit, its staged registers apply together, with any refusal check (spec/12_register_access.md
  R365). -/
  | idleUnitApply (unit : IdleUnit)
  /-- Within 1 ms of the trunk group becoming READY, a recovering device's PLLs change to the reference recovered from TRET without a phase
  step (spec/01_architecture.md R18). -/
  | refSwitchRecovered
  /-- When the trunk group leaves READY, the PLLs return to the crystal, ref_lost is set and a TRACKING clock enters HOLDOVER
  (spec/11_time.md R329). -/
  | refSwitchCrystal
  /-- The CORE, pipe, pan or time-base PLL reports loss of lock for 1 µs and FS004 is raised (spec/16_power_and_modes.md R484). -/
  | pllLockLost
  /-- A CSI-2 frame start short packet is delivered to the contexts routed on its virtual channel, which open a frame, assign an epoch and
  convoy, and apply staged sets (spec/02_intake.md R45). -/
  | frameStartPacket (port : Fin 8) (vc : Fin 16) (header : Header) (dt : Nat)
  /-- A CSI-2 frame end short packet ends the frame of the contexts routed on its virtual channel once all its exposures' channels have
  ended, concealing or closing for missing rows (spec/02_intake.md R46). -/
  | frameEndPacket (port : Fin 8) (vc : Fin 16) (header : Header)
  /-- A long image packet is routed to a context and checked, then written to Bank I or to the stripe ring, concealed or discarded
  (spec/02_intake.md R44). -/
  | imageLineReceived (port : Fin 8) (vc : Fin 16) (dataType : Fin 64) (header : Header) (payload : List Byte) (crcOk : Bool) (overflow : Bool)
  /-- An embedded-data line is routed to its context, which reads the fields of its descriptor from it (spec/02_intake.md R62). -/
  | embeddedLineReceived (port : Fin 8) (vc : Fin 16) (header : Header) (payload : List Byte) (crcOk : Bool)
  /-- A line start, line end or generic short packet is accepted and ignored (spec/02_intake.md R38). -/
  | shortPacketIgnored (port : Fin 8) (vc : Fin 16) (dataType : Fin 64) (header : Header)
  /-- A lane or trio is stuck in high-speed mode past hs_timeout, so open frames close, the receiver resets and the port fault source is
  raised (spec/02_intake.md R40). -/
  | hsTimeout (port : Fin 8)
  /-- The CSI receiver reset completes and the port resumes at the next frame start on each virtual channel (spec/02_intake.md R40). -/
  | portResetDone (port : Fin 8)
  /-- CSI_CFG.enable goes from 0 to 1 and the held port configuration is latched (spec/02_intake.md R42). -/
  | csiEnable (port : Fin 8) (master : Fin 7) (v : Word)
  /-- CSI_CFG.enable goes from 1 to 0, every open frame closes with cause 5 and the port receives nothing (spec/02_intake.md R42). -/
  | csiDisable (port : Fin 8) (master : Fin 7) (v : Word)
  /-- CSI_CTRL.port_reset resets the receiver as in steps 1, 2 and 4 of R40 (spec/02_intake.md R42). -/
  | csiPortReset (port : Fin 8) (master : Fin 7)
  /-- CSI_CTRL.clear_counters clears CSI_CNT_ECC and CSI_CNT_PKT (spec/02_intake.md R42). -/
  | csiClearCounters (port : Fin 8) (master : Fin 7)
  /-- A frame that has not ended tmax after its frame start closes with cause timeout (spec/02_intake.md R59). -/
  | frameTimeout (ctx : Fin 16)
  /-- CTX_EPOCH_CTRL.mark completes an epoch write at once, incrementing issued and creating a pending entry (spec/04_colour_and_harvest.md
  R138). -/
  | epochMark (ctx : Fin 16) (master : Fin 7) (v : Word)
  /-- 60 to 80 ns after the STOP of a successful TWS epoch-write transaction, the context registers the epoch write completion
  (spec/14_two_wire.md R430). -/
  | epochWriteRegistered (ctx : Fin 16) (dt : Nat)
  /-- An in-line row becomes ready in every exposure and starts at once, or at the end of the pixel phase of the Bank M row in progress
  (spec/05_pipe_sharing.md R148). -/
  | inlineRowReady (pipe : Fin 4) (turnaround : Bool)
  /-- The pipe finishes a row and starts the next in-line, flush or Bank M row (spec/05_pipe_sharing.md R147). -/
  | pipeRowDone (pipe : Fin 4)
  /-- A memory-fed stripe ends, is released, and the next stripe starts or the slot overruns (spec/05_pipe_sharing.md R160). -/
  | stripeDone (pipe : Fin 4)
  /-- A timetable period starts, and the staged timetable applies or is refused (spec/05_pipe_sharing.md R157). -/
  | pipeTtPeriodStart (pipe : Fin 4)
  /-- A slot window opens and the pipe checks the run-ahead, then swaps halves or squashes, and raises the slot boundary event
  (spec/05_pipe_sharing.md R167). -/
  | pipeSlotBoundary (pipe : Fin 4)
  /-- The 512-clock swap ends and the first row of the slot starts (spec/05_pipe_sharing.md R167). -/
  | slotSwapDone (pipe : Fin 4)
  /-- A waystation restore into the landing half completes, and any swap that waited for it proceeds (spec/05_pipe_sharing.md R165). -/
  | waystationRestoreDone (pipe : Fin 4)
  /-- The state of the previous slot is saved to its waystation (spec/05_pipe_sharing.md R167). -/
  | waystationSaveDone (pipe : Fin 4)
  /-- A pan bank visit serves one 64-byte line for the position's owner, or idles (spec/05_pipe_sharing.md R171). -/
  | tollVisit (bank : Fin 8) (t : Nat) (busy : Option (Fin 524288)) (corrected : Bool)
  /-- The scrubber reads a pan line and rewrites it where it was corrected (spec/13_fault_collector.md R404). -/
  | panScrub (line : Fin 524288) (found : Fin 3)
  /-- After the frame's last accepted row leaves stage 12, the harvest writes and seals the record, rings the doorbell and queues its trunk
  packet (spec/04_colour_and_harvest.md R133). -/
  | harvestRecordWrite (ctx : Fin 16)
  /-- A complete view output line is written to the view's staging ring, or the view cuts its frame on overflow
  (spec/06_views_taps_convoys.md R187). -/
  | viewLineWrite (view : Fin 32)
  /-- Each 100 ms of the shedding request, the unshed views of the lowest priority present are shed (spec/06_views_taps_convoys.md R192). -/
  | shedStep
  /-- TAP_CTRL.arm arms a tap channel, or is refused (spec/06_views_taps_convoys.md R194). -/
  | tapArm (chan : Fin 4) (master : Fin 7)
  /-- TAP_CTRL.disarm stops the channel at its next row boundary and sends a truncated tap frame end (spec/06_views_taps_convoys.md R194).
  -/
  | tapDisarm (chan : Fin 4) (master : Fin 7)
  /-- rd = rs1 + rs2 (spec/07_jorran_isa.md R218). -/
  | add (n : Fin 4)
  /-- rd = rs1 − rs2 (spec/07_jorran_isa.md R218). -/
  | sub (n : Fin 4)
  /-- rd = rs1 AND rs2 (spec/07_jorran_isa.md R218). -/
  | and (n : Fin 4)
  /-- rd = rs1 OR rs2 (spec/07_jorran_isa.md R218). -/
  | or (n : Fin 4)
  /-- rd = rs1 XOR rs2 (spec/07_jorran_isa.md R218). -/
  | xor (n : Fin 4)
  /-- Logical left shift (spec/07_jorran_isa.md R218). -/
  | shl (n : Fin 4)
  /-- Logical right shift with zero fill (spec/07_jorran_isa.md R218). -/
  | shr (n : Fin 4)
  /-- Arithmetic right shift (spec/07_jorran_isa.md R218). -/
  | sra (n : Fin 4)
  /-- Low 32 bits of the product (spec/07_jorran_isa.md R218). -/
  | mul (n : Fin 4)
  /-- High 32 bits of the signed product (spec/07_jorran_isa.md R218). -/
  | mulh (n : Fin 4)
  /-- Jump to rs1 and write the return address to rd (spec/07_jorran_isa.md R225). -/
  | jr (n : Fin 4)
  /-- rd = rs1 + sign-extended immediate (spec/07_jorran_isa.md R219). -/
  | addi (n : Fin 4)
  /-- rd = imm << 14 (spec/07_jorran_isa.md R219). -/
  | lui (n : Fin 4)
  /-- Load a zero-extended byte (spec/07_jorran_isa.md R220). -/
  | ldB (n : Fin 4)
  /-- Load a zero-extended halfword (spec/07_jorran_isa.md R220). -/
  | ldH (n : Fin 4)
  /-- Load a word (spec/07_jorran_isa.md R220). -/
  | ldW (n : Fin 4)
  /-- Store a byte (spec/07_jorran_isa.md R220). -/
  | stB (n : Fin 4)
  /-- Store a halfword (spec/07_jorran_isa.md R220). -/
  | stH (n : Fin 4)
  /-- Store a word (spec/07_jorran_isa.md R220). -/
  | stW (n : Fin 4)
  /-- A load's data or error response returns, writing rd or trapping with cause LOAD_ERR (spec/07_jorran_isa.md R221). -/
  | loadResponse (n : Fin 4)
  /-- A posted store completes, or its error response traps the drover with cause STORE_ERR (spec/07_jorran_isa.md R223). -/
  | storeResponse (n : Fin 4) (store : Nat)
  /-- Branch if equal (spec/07_jorran_isa.md R225). -/
  | beq (n : Fin 4)
  /-- Branch if not equal (spec/07_jorran_isa.md R225). -/
  | bne (n : Fin 4)
  /-- Branch if less, signed (spec/07_jorran_isa.md R225). -/
  | blt (n : Fin 4)
  /-- Branch if greater or equal, signed (spec/07_jorran_isa.md R225). -/
  | bge (n : Fin 4)
  /-- Branch if less, unsigned (spec/07_jorran_isa.md R225). -/
  | bltu (n : Fin 4)
  /-- Jump and link into w15 (spec/07_jorran_isa.md R225). -/
  | jal (n : Fin 4)
  /-- Consume the lowest pending wanted event, or sleep until one is pending (spec/07_jorran_isa.md R234). -/
  | wait (n : Fin 4)
  /-- Consume the lowest pending wanted event, or return 0xFFFF_FFFF at once (spec/07_jorran_isa.md R234). -/
  | waitPoll (n : Fin 4)
  /-- A wanted event becomes pending, and the sleeping WAIT retires and consumes it (spec/07_jorran_isa.md R234). -/
  | waitWake (n : Fin 4)
  /-- Open a staged set for a target context and epoch (spec/07_jorran_isa.md R244). -/
  | stageT (n : Fin 4)
  /-- Append an address and value entry to the open set (spec/07_jorran_isa.md R244). -/
  | stage (n : Fin 4)
  /-- Close and check the open set, then arm it or discard it (spec/07_jorran_isa.md R245). -/
  | commit (n : Fin 4)
  /-- Fence, then raise a doorbell event 47–63 (spec/07_jorran_isa.md R236). -/
  | post (n : Fin 4)
  /-- Queue a message of 1–32 bytes on a port (spec/07_jorran_isa.md R238). -/
  | send (n : Fin 4)
  /-- Take the oldest inbound message of a port (spec/07_jorran_isa.md R240). -/
  | recv (n : Fin 4)
  /-- Arm a time compare unit with a 40-bit target (spec/07_jorran_isa.md R242). -/
  | arm (n : Fin 4)
  /-- Disarm a time compare unit (spec/07_jorran_isa.md R242). -/
  | disarm (n : Fin 4)
  /-- TIME with selector 0 takes a snapshot of the time base and returns linear nanoseconds [31:0] (spec/07_jorran_isa.md R241). -/
  | timeSnapshot (n : Fin 4) (dt : Nat)
  /-- TIME with selectors 1–6 returns part of the last snapshot, or the holdover bit (spec/07_jorran_isa.md R241). -/
  | timeRead (n : Fin 4)
  /-- Wait until every earlier access of the drover is complete (spec/07_jorran_isa.md R228). -/
  | fence (n : Fin 4)
  /-- Trap with cause SOFTWARE and the code of imm11 (spec/07_jorran_isa.md R250). -/
  | trap (n : Fin 4)
  /-- Stop drovers 1–3 in HALTED; on drover 0 it traps with cause ILLEGAL (spec/07_jorran_isa.md R251). -/
  | halt (n : Fin 4)
  /-- An event occurrence reaches the drovers and sets their pending bits, or counts an overrun (spec/07_jorran_isa.md R232). -/
  | droverEventPending (ev : Fin 64)
  /-- The drover watchdog reaches 0 and the drover traps with cause WATCHDOG (spec/07_jorran_isa.md R235). -/
  | drvWatchdogExpire (n : Fin 4) (us : Nat)
  /-- A time compare unit reaches its target, raises event 36 + u and disarms itself (spec/07_jorran_isa.md R242). -/
  | compareMatch (unit : Fin 4) (dt : Nat)
  /-- A periodic control cycle reaches phase + j × period and raises event 36 + u (spec/11_time.md R343). -/
  | controlCycleEvent (unit : Fin 4) (dt : Nat)
  /-- DRV_CTRL.reset puts the drover in RESET, clearing its registers and pending events and discarding its armed sets
  (spec/07_jorran_isa.md R252). -/
  | drvReset (n : Fin 4) (master : Fin 7)
  /-- DRV_CTRL.halt stops the drover in HALTED (spec/07_jorran_isa.md R252). -/
  | drvHalt (n : Fin 4) (master : Fin 7)
  /-- DRV_CTRL.run starts or continues the drover, or is ignored in TRAPPED (spec/07_jorran_isa.md R252). -/
  | drvRun (n : Fin 4) (master : Fin 7)
  /-- A receiver has seen valid headers on enough consecutive blocks and enters LOCKED (spec/09_caravan_link.md R268). -/
  | laneLocked (lane : Fin 15) (headers : List Bool) (history : List Bool)
  /-- 16 invalid headers within 64 blocks return the receiver to HUNT and discard open packets (spec/09_caravan_link.md R268). -/
  | laneLockLost (lane : Fin 15)
  /-- After 16,384 blocks a lane sends a milestone, and a parent follows it on a feeder return with IDENTITY (spec/09_caravan_link.md R270).
  -/
  | milestoneSend (group : Fin 3)
  /-- A milestone set is received and the lanes are deskewed, or a deskew fault is set (spec/09_caravan_link.md R271). -/
  | milestoneReceived (group : Fin 3) (blocks : List (Arrival × List Byte)) (skew : Nat)
  /-- An IDLE control block is received with its status byte (spec/09_caravan_link.md R272). -/
  | idleBlockReceived (group : Fin 3) (block : List Byte) (arrival : Arrival)
  /-- A MAP block is received and the receiver's trunk map is built, applied, lost or recovered (spec/09_caravan_link.md R285). -/
  | mapFragmentReceived (group : Fin 3) (block : List Byte) (arrival : Arrival)
  /-- An IDENTITY block is applied by a child or, in a root, ignored and logged (spec/09_caravan_link.md R272). -/
  | identityReceived (block : List Byte) (arrival : Arrival)
  /-- A TRAIN block is received; it may make a group READY, retrain it, or move it to LISTEN (spec/10_lanes.md R311). -/
  | trainBlockReceived (lane : Fin 15) (block : List Byte) (arrival : Arrival)
  /-- 40 epochs after a group becomes READY, the trunk transmitter may send packet blocks (spec/10_lanes.md R311). -/
  | packetHoldEnd
  /-- A packet head opens a packet in its owner's blocks, discarding any open packet (spec/09_caravan_link.md R279). -/
  | packetHeadReceived (group : Fin 3) (block : List Byte) (arrival : Arrival) (dt : Nat)
  /-- A data block joins its owner's open packet, or is discarded (spec/09_caravan_link.md R279). -/
  | packetDataBlock (group : Fin 3) (block : List Byte) (arrival : Arrival)
  /-- An END closes a packet, which is delivered, forwarded, queued as a request, or discarded (spec/09_caravan_link.md R278). -/
  | packetEndReceived (group : Fin 3) (block : List Byte) (arrival : Arrival)
  /-- One 32-bit read by master 1, with a response (spec/09_caravan_link.md R287). -/
  | regrd
  /-- One 32-bit write or a guarded pair by master 1 (spec/09_caravan_link.md R287). -/
  | regwr
  /-- Reads of count words from rising addresses (spec/09_caravan_link.md R287). -/
  | burstrd
  /-- Writes of count words to rising addresses (spec/09_caravan_link.md R287). -/
  | burstwr
  /-- Writes bundle data blocks into the download buffer (spec/15_boot_identity_heads.md R439). -/
  | download
  /-- Delivers a message to port MBOX_PANEL (spec/09_caravan_link.md R287). -/
  | mailbox
  /-- Holds the trunk timetable, writes TT_MAP0–TT_MAP255 and releases the hold (spec/09_caravan_link.md R287). -/
  | ttstage
  /-- A POWER GRANT sets the class in force to the lower of the granted class and the signature class (spec/16_power_and_modes.md R464). -/
  | grant
  /-- A POWER NOTICE sets PWR_STATUS.shutdown (spec/16_power_and_modes.md R464). -/
  | notice
  /-- A POWER QUERY returns PWR_CLASS and changes nothing (spec/16_power_and_modes.md R464). -/
  | query
  /-- A RESET request schedules a device reset after its response has left the trunk, or after 1 ms (spec/09_caravan_link.md R287). -/
  | reset
  /-- A trunk block opportunity sends the next block of its owner, or IDLE, or MAP in slot 0 (spec/09_caravan_link.md R282). -/
  | trunkSlot (late : Bool) (dt : Nat)
  /-- At an epoch start, the staged trunk map is checked or a change cycle advances, and the new map applies at epoch E + 40
  (spec/09_caravan_link.md R284). -/
  | ttEpochStart
  /-- After 100 ms, a training attempt fails and the next attempt starts, or the group enters LISTEN after attempt 16 (spec/10_lanes.md
  R312). -/
  | trainingAttemptTimeout (group : Fin 3)
  /-- After 5 ms on one acquisition step without lock, the receiver tries the next CTLE step (spec/10_lanes.md R306). -/
  | ctleStepTimeout (lane : Fin 15)
  /-- A 2^20 UI window completes and its figure of merit updates the CTLE search and the fom_low check (spec/10_lanes.md R305). -/
  | fomWindow (lane : Fin 15) (a : Int) (q : Int) (updates : List (Int × List Int)) (slicer : List Int)
  /-- A signal newly appears on a receive lane, restarting acquisition or leaving LISTEN (spec/10_lanes.md R505). -/
  | signalDetect (lane : Fin 15)
  /-- The signal is lost for 1 µs before lock and the CTLE sequence restarts from step 8 (spec/10_lanes.md R306). -/
  | signalLost (lane : Fin 15)
  /-- A READY lane that left LOCKED is not locked again within 2 ms, so the group retrains (spec/10_lanes.md R313). -/
  | relockTimeout (lane : Fin 15)
  /-- The partner reports rx_lock = 0 for 2 ms, so the group retrains (spec/10_lanes.md R313). -/
  | partnerLockTimeout (group : Fin 3)
  /-- Every 250 ms in LISTEN, the trunk transmitters send a 1 ms burst of training stream (spec/10_lanes.md R314). -/
  | listenBurst
  /-- The 1 ms LISTEN burst ends and the trunk transmitters fall silent (spec/10_lanes.md R314). -/
  | listenBurstEnd
  /-- A LINK_GROUP retrain pulse retrains its group, or takes it out of LISTEN (spec/10_lanes.md R313). -/
  | retrain (group : Fin 3) (master : Fin 7)
  /-- 100 µs after the idle request, each open packet ends with an inverse CRC, then EI_ENTER is sent (spec/10_lanes.md R316). -/
  | eidlePacketTimeout (group : Fin 3)
  /-- A rake burst on a receive link takes its lanes out of HOLD and moves an EIDLE group to WAKE (spec/10_lanes.md R318). -/
  | rakeBurstReceived (group : Fin 3) (blocks : List (List Byte))
  /-- A group in WAKE that is not READY within 10 µs enters TRAINING (spec/10_lanes.md R312). -/
  | wakeTimeout (group : Fin 3)
  /-- A write of LANE_TEST.mode puts the lane's group in TEST, or returns it to training (spec/10_lanes.md R322). -/
  | laneTestMode (lane : Fin 15) (master : Fin 7) (v : Word)
  /-- LANE_TEST.inject injects one error into the generator output (spec/10_lanes.md R323). -/
  | laneTestInject (lane : Fin 15) (master : Fin 7)
  /-- LANE_TEST.snap copies the bit and error counters in one cycle (spec/10_lanes.md R323). -/
  | laneTestSnap (lane : Fin 15) (master : Fin 7) (bits : List Bool)
  /-- LANE_TEST.clear zeroes the checker counters (spec/10_lanes.md R323). -/
  | laneTestClear (lane : Fin 15) (master : Fin 7)
  /-- 1 ms after the write, the far-end loop starts retiming TRET onto TF0 (spec/10_lanes.md R324). -/
  | farEndLoopApply
  /-- After LANE_TEST.timeout seconds, the far-end loop ends and the trunk group retrains (spec/10_lanes.md R324). -/
  | farEndLoopTimeout
  /-- A write of TIME_ADDEND changes the clock rate from the fourth time-base cycle after it (spec/11_time.md R327). -/
  | timeAddend (master : Fin 7) (v : Word)
  /-- TIME_CTRL.step requests a step, which is applied or refused under the clock state (spec/11_time.md R332). -/
  | timeStep (master : Fin 7)
  /-- TIME_CTRL.holdover_set moves TRACKING to HOLDOVER (spec/11_time.md R331). -/
  | holdoverSet (master : Fin 7)
  /-- TIME_CTRL.holdover_clear moves HOLDOVER to TRACKING (spec/11_time.md R331). -/
  | holdoverClear (master : Fin 7)
  /-- A read of TIME_SNAP_NS takes the master's time snapshot (spec/11_time.md R330). -/
  | timeSnapNs (master : Fin 7) (dt : Nat)
  /-- A read of TIME_TSQq_HDR pops the oldest timestamp entry and latches its time (spec/11_time.md R342). -/
  | tsqPop (queue : Fin 6) (master : Fin 7)
  /-- A trigger output starts its pulse on a selected convoy tick, or the firing is skipped (spec/11_time.md R344). -/
  | triggerFire (trigger : Fin 16) (dt : Nat)
  /-- The trigger pulse width elapses and the output returns to its inactive level (spec/11_time.md R344). -/
  | triggerPulseEnd (trigger : Fin 16)
  /-- An enabled capture edge is accepted into the FIFO with its timestamp, or is discarded (spec/11_time.md R347). -/
  | captureEdge (input : Fin 8) (phase : Fin 4) (rising : Bool) (dt : Nat)
  /-- A capture input is held active beyond its limit, so cap_stuck is set and the source is raised (spec/11_time.md R348). -/
  | captureStuck (input : Fin 8)
  /-- A read of TIME_CAPn_HDR pops the oldest capture entry (spec/11_time.md R349). -/
  | capturePop (input : Fin 8) (master : Fin 7)
  /-- A write to a register with no row of its own takes effect under its access code, or is rejected (spec/12_register_access.md R363). -/
  | registerWrite (master : Fin 7) (width : Width) (addr : Word) (v : Word)
  /-- A write to a sequence-clear status register clears bits only if its sequence number matches (spec/12_register_access.md R369). -/
  | sqcClear (master : Fin 7) (addr : Word) (v : Word)
  /-- A write to a write-once field takes effect once, then logs CONFIG_LOCK on a differing value (spec/12_register_access.md R374). -/
  | onceWrite (master : Fin 7) (v : Word)
  /-- A write to the value word of a guarded pair is held pending its complement (spec/12_register_access.md R371). -/
  | guardedValueWrite (master : Fin 7) (addr : Word) (v : Word)
  /-- A complement write completes a pending guarded pair, or fails it and logs GUARD (spec/12_register_access.md R371). -/
  | guardedComplementWrite (master : Fin 7) (addr : Word) (v : Word)
  /-- 1,024 CORE cycles pass without the complement, so the pair fails and logs GUARD (spec/12_register_access.md R371). -/
  | guardWindowExpire (master : Fin 7)
  /-- A write in the bit alias window sets one register bit by an indivisible read-modify-write (spec/12_register_access.md R375). -/
  | bitAliasWrite (master : Fin 7) (addr : Word) (bit : Fin 32) (v : Word)
  /-- The collector registers a fault report, decides the acted class, records it and takes its action (spec/13_fault_collector.md R393). -/
  | faultRegister (count : Nat) (dt : Nat)
  /-- A write to FLT_FORCE reports a forced fault on a source (spec/13_fault_collector.md R394). -/
  | faultForce (index : Fin 6) (master : Fin 7) (v : Word)
  /-- A write to FLT_ACK acknowledges a source if its number matches, or sets ack_stale (spec/13_fault_collector.md R397). -/
  | faultAck (master : Fin 7) (v : Word)
  /-- FLT_UNIT reset puts a fenced unit's registers to their reset values (spec/13_fault_collector.md R402). -/
  | unitReset (unit : Fin 256) (master : Fin 7)
  /-- FLT_UNIT return lifts a fence when its conditions hold, and DEGRADED returns to RUN when none remain (spec/13_fault_collector.md
  R402). -/
  | unitReturn (unit : Fin 256) (master : Fin 7)
  /-- FLT_CTRL.forced_clear clears forced_present (spec/13_fault_collector.md R396). -/
  | forcedClear (master : Fin 7)
  /-- FLT_CTRL.first_clear marks the first-error record invalid (spec/13_fault_collector.md R399). -/
  | firstClear (master : Fin 7)
  /-- A write of FLT_LEDGER_PTR.rd advances the ledger read index, if the count stays valid (spec/13_fault_collector.md R399). -/
  | ledgerAdvance (rd : Fin 64) (master : Fin 7)
  /-- A write to CUS_BEAT restarts the customs heartbeat (spec/13_fault_collector.md R406). -/
  | heartbeat (master : Fin 7) (v : Word)
  /-- The heartbeat limit passes without a write, so FS169 is raised (spec/13_fault_collector.md R406). -/
  | heartbeatMissed (dt : Nat)
  /-- A START and address on TWT are matched against the slots, and the transaction opens under a view (spec/14_two_wire.md R411). -/
  | twtAddress (address : Fin 128) (read : Bool)
  /-- Sets the slot pointer (spec/14_two_wire.md R414). -/
  | setptr (args : List Byte) (n : Nat)
  /-- Reads words from the pointer (spec/14_two_wire.md R414). -/
  | rd32 (args : List Byte) (n : Nat)
  /-- Writes 1–8 words from the pointer (spec/14_two_wire.md R414). -/
  | wr32 (args : List Byte) (n : Nat)
  /-- Reads count bytes from the pointer (spec/14_two_wire.md R414). -/
  | blkrd (args : List Byte) (n : Nat)
  /-- Writes count bytes from the pointer (spec/14_two_wire.md R414). -/
  | blkwr (args : List Byte) (n : Nat)
  /-- Returns the TWT status bytes (spec/14_two_wire.md R414). -/
  | status (args : List Byte) (n : Nat)
  /-- Returns and clears the slot's last error (spec/14_two_wire.md R414). -/
  | lasterr (args : List Byte) (n : Nat)
  /-- Pushes a message into the MBOX_TWT inbound queue (spec/14_two_wire.md R417). -/
  | mbpush (args : List Byte) (n : Nat)
  /-- Pops the oldest MBOX_TWT outbound message (spec/14_two_wire.md R417). -/
  | mbpop (args : List Byte) (n : Nat)
  /-- Does nothing (spec/14_two_wire.md R414). -/
  | nop (args : List Byte) (n : Nat)
  /-- A LEGACY slot transaction translates legacy words through the legacy table (spec/14_two_wire.md R422). -/
  | twtLegacyTransaction (bytes : List Byte) (n : Nat)
  /-- A complete write phase issues its held writes in rising order, or issues nothing on a PEC failure (spec/14_two_wire.md R413). -/
  | twtWritePhaseEnd (unknown : Option Byte) (stop : Bool)
  /-- A START or STOP off a byte boundary aborts the transaction (spec/14_two_wire.md R420). -/
  | twtAbort
  /-- A read not ready within 1 ms of stretching supplies 0xFF and sets LASTERR 0x07 (spec/14_two_wire.md R416). -/
  | twtReadLate
  /-- SCL held low for 25 ms while TWT drives SDA, so TWT releases SDA (spec/14_two_wire.md R420). -/
  | twtSdaRelease
  /-- The bus free time after a STOP passes, or the lines stay high for 50 µs, and the bus is free (spec/14_two_wire.md R410). -/
  | busFree (port : Fin 9)
  /-- A write of TWS_SUBMIT queues a descriptor, or is rejected (spec/14_two_wire.md R424). -/
  | twsSubmit (port : Fin 9) (desc : Fin 16) (master : Fin 7)
  /-- The port starts the head of a queue when the bus is free and the window rules allow (spec/14_two_wire.md R431). -/
  | twsTransactionStart (port : Fin 9) (dt : Nat)
  /-- A transaction ends, a completion is queued and the doorbell rings, or a retry is scheduled (spec/14_two_wire.md R426). -/
  | twsTransactionEnd (port : Fin 9) (status : Fin 8) (count : Nat) (data : List Byte)
  /-- 100 µs after a not-acknowledged address, the transaction is retried (spec/14_two_wire.md R426). -/
  | twsRetryTimer (port : Fin 9)
  /-- A controller samples SDA low while driving high, stops, and waits for bus free (spec/14_two_wire.md R427). -/
  | arbitrationLost (cut : BusCut)
  /-- SCL stays low beyond the stretch limit, so the controller releases the bus, ends with status 4 and self-resets (spec/14_two_wire.md
  R428). -/
  | twsStretchTimeout (cut : BusCut)
  /-- SDA stuck low on a free bus, or TWS_CTRL.recover, starts bus recovery of up to nine SCL pulses (spec/14_two_wire.md R429). -/
  | twsBusRecovery (port : Fin 9)
  /-- Recovery ends with a STOP when SDA is high, or fails after the ninth pulse (spec/14_two_wire.md R429). -/
  | twsRecoveryDone (port : Fin 9) (high : Bool)
  /-- TWS_CTRL.flush ends every unstarted descriptor with status 6 (spec/14_two_wire.md R426). -/
  | twsFlush (port : Fin 9) (master : Fin 7)
  /-- A read of TWS_DONE pops the oldest completion (spec/14_two_wire.md R426). -/
  | twsDonePop (port : Fin 9) (master : Fin 7)
  /-- A frame window opens open µs after the reference event (spec/14_two_wire.md R431). -/
  | twsWindowOpen (port : Fin 8) (dt : Nat)
  /-- A frame window closes len µs after it opened (spec/14_two_wire.md R431). -/
  | twsWindowClose (port : Fin 8) (dt : Nat)
  /-- The boot ROM reads the bundle tables and chooses a copy for VERIFY, or enters RESCUE or waits for a download
  (spec/15_boot_identity_heads.md R437). -/
  | bootTableRead (copyA : Option (List Byte)) (copyB : Option (List Byte))
  /-- Bundle verification completes, and the bundle passes or is rejected with a failure code (spec/15_boot_identity_heads.md R442). -/
  | verifyDone (image : Option (List Byte))
  /-- The boot ROM finishes loading components, runs drover 0, and the device enters TRAIN (spec/15_boot_identity_heads.md R443). -/
  | loadDone
  /-- In DIAG from BOOT, the ROM acknowledges each RETRY or FENCE registration 1 ms after it (spec/15_boot_identity_heads.md R438). -/
  | diagAutoAck (source : Fin 192)
  /-- SEC_CTRL.verify starts verification of the download buffer (spec/15_boot_identity_heads.md R447). -/
  | secVerify (master : Fin 7)
  /-- SEC_CTRL.record appends the passing bundle's hashes to the measurement log, or is refused (spec/15_boot_identity_heads.md R447). -/
  | secRecord (master : Fin 7)
  /-- SEC_CTRL.attest requests an attestation report over the nonce (spec/15_boot_identity_heads.md R449). -/
  | secAttest (master : Fin 7)
  /-- The security engine finishes leaf use and bottom-tree generation after entry to TRAIN (spec/15_boot_identity_heads.md R448). -/
  | attestPrepared
  /-- The attestation report is written to the pan and att_done is set (spec/15_boot_identity_heads.md R449). -/
  | attestDone
  /-- The HEAD unit starts a probe of a context's head EEPROM in the TWS background queue (spec/15_boot_identity_heads.md R452). -/
  | headProbe (ctx : Fin 16)
  /-- A probe completes and updates the head ledger, verdict, counters and reports (spec/15_boot_identity_heads.md R452). -/
  | headProbeDone (ctx : Fin 16) (record : Option (List Byte))
  /-- A head certificate check completes with verdict VALID or INVALID (spec/15_boot_identity_heads.md R455). -/
  | headCertDone (ctx : Fin 16)
  /-- 3,600 accumulated seconds add one hour to a head counter, which may reach its limit (spec/15_boot_identity_heads.md R456). -/
  | headCounterHour (ctx : Fin 16) (hot : Bool)
  /-- 60 s after the last HEAD_TEMPc write, the head temperature becomes invalid (spec/15_boot_identity_heads.md R456). -/
  | headTempExpire (ctx : Fin 16)
  /-- PWR_CTRL.apply judges the domain masks and switches domains off at once and on in sequence, or refuses (spec/16_power_and_modes.md
  R472). -/
  | powerApply (master : Fin 7)
  /-- A switched-on domain becomes usable (spec/16_power_and_modes.md R472). -/
  | domainOn
  /-- 1 s after a lowering GRANT, the governor switches domains off in order until the charge fits (spec/16_power_and_modes.md R465). -/
  | grantEnforce
  /-- After 100 ms of feeder detection, a valid class goes to RAMP; otherwise detection waits 1 s (spec/16_power_and_modes.md R468). -/
  | feedDetectDone (feeder : Fin 2) (ma : Nat)
  /-- 1 s after an invalid feeder reading, detection starts again (spec/16_power_and_modes.md R468). -/
  | feedDetectRetry (feeder : Fin 2)
  /-- The 20 ms feeder ramp ends and HOLD begins (spec/16_power_and_modes.md R468). -/
  | feedRampDone (feeder : Fin 2)
  /-- The 230 ms hold ends, feeder line-up completes and the feeder group enters TRAINING (spec/16_power_and_modes.md R468). -/
  | feedHoldDone (feeder : Fin 2) (volts : Nat) (ma : Nat)
  /-- The feeder current or voltage breaks its limit, so the line is removed and the feeder enters BACKOFF (spec/16_power_and_modes.md
  R469). -/
  | feedOvercurrent (feeder : Fin 2) (volts : Nat) (ma : Nat)
  /-- 1 s of BACKOFF ends and detection starts again (spec/16_power_and_modes.md R468). -/
  | feedBackoffDone (feeder : Fin 2)
  /-- Every 100 µs the sensors are sampled, and warning, forced COOL and shedding begin or end (spec/16_power_and_modes.md R482). -/
  | thermalSample (temps : Vector Int 14)
  /-- The AON comparators reach 158 °C and FS000 is raised, or HALT is entered directly in FALLOW (spec/16_power_and_modes.md R483). -/
  | thermalTrip
  /-- THERM_PEAK.clear restarts the peak from the current Tj (spec/16_power_and_modes.md R481). -/
  | thermPeakClear (master : Fin 7)
  /-- A drover fetches a word whose opcode is not in the opcode map, the all-zero and all-ones words included, and traps with cause ILLEGAL
  (spec/07_jorran_isa.md R216). -/
  | illegalInstruction (n : Fin 4)
  /-- A read of DRV_EVOVR re-enables the event-overrun fault source, so that the next overrun raises FS107 again (spec/07_jorran_isa.md
  R233). -/
  | drvEvovrRead (n : Fin 4) (master : Fin 7)
  /-- The PRBS checker has seen 64 consecutive correct bits after seeding itself, locks, and starts counting bits and errors
  (spec/10_lanes.md R323). -/
  | checkerLocked (lane : Fin 15) (bits : List Bool)
  /-- The PRBS checker finds 32 wrong bits in 64, loses lock, counts a relock and seeds itself again (spec/10_lanes.md R323). -/
  | checkerLockLost (lane : Fin 15) (bits : List Bool)
  /-- A block position of a feeder return lane sends the next block of a queued packet (a forwarded request, a time or link message, or
  IDENTITY), or IDLE (spec/09_caravan_link.md R290). -/
  | feederReturnBlock (feeder : Fin 2) (dt : Nat)
  /-- In RESCUE, the boot ROM finishes erasing and programming the failed QSPI copy with the accepted install bundle and then resets the
  device with cause rescue (spec/15_boot_identity_heads.md R446). -/
  | qspiProgramDone
  /-- After WAKE_N the lane PLLs lock, within 2 ms, or 2 ms more when the reference is recovered from TRET, and the groups start their
  training stream from attempt 1 (spec/10_lanes.md R321). -/
  | lanePllLock
deriving DecidableEq, Repr, Inhabited

end Sys2Proof
end

