-- ==== Sys2Proof/Machine/Hash.lean ====
section
/-! DEFINITION. SHA-256 and the verification of HSS signatures, which spec/15_boot_identity_heads.md (R440–R444, R448, R455) names: the hash
as FIPS 180-4 gives it and the signatures as RFC 8554 gives them (PRESUMED: the spec gives the names, the parameters and the lengths). -/

namespace Sys2Proof.Machine

/-! ### SHA-256 -/

/-- The eight words of the hash. -/
structure ShaState where
  a : Word
  b : Word
  c : Word
  d : Word
  e : Word
  f : Word
  g : Word
  h : Word
deriving DecidableEq, Repr

/-- The hash before the first block. -/
def shaStart : ShaState :=
  { a := 0x6A09E667#32, b := 0xBB67AE85#32, c := 0x3C6EF372#32, d := 0xA54FF53A#32,
    e := 0x510E527F#32, f := 0x9B05688C#32, g := 0x1F83D9AB#32, h := 0x5BE0CD19#32 }

/-- The constants of rounds 0–31 and 32–63. -/
def shaK0 : List Word := [0x428A2F98#32, 0x71374491#32, 0xB5C0FBCF#32, 0xE9B5DBA5#32, 0x3956C25B#32, 0x59F111F1#32, 0x923F82A4#32, 0xAB1C5ED5#32,
    0xD807AA98#32, 0x12835B01#32, 0x243185BE#32, 0x550C7DC3#32, 0x72BE5D74#32, 0x80DEB1FE#32, 0x9BDC06A7#32, 0xC19BF174#32,
    0xE49B69C1#32, 0xEFBE4786#32, 0x0FC19DC6#32, 0x240CA1CC#32, 0x2DE92C6F#32, 0x4A7484AA#32, 0x5CB0A9DC#32, 0x76F988DA#32,
    0x983E5152#32, 0xA831C66D#32, 0xB00327C8#32, 0xBF597FC7#32, 0xC6E00BF3#32, 0xD5A79147#32, 0x06CA6351#32, 0x14292967#32]
def shaK1 : List Word := [0x27B70A85#32, 0x2E1B2138#32, 0x4D2C6DFC#32, 0x53380D13#32, 0x650A7354#32, 0x766A0ABB#32, 0x81C2C92E#32, 0x92722C85#32,
    0xA2BFE8A1#32, 0xA81A664B#32, 0xC24B8B70#32, 0xC76C51A3#32, 0xD192E819#32, 0xD6990624#32, 0xF40E3585#32, 0x106AA070#32,
    0x19A4C116#32, 0x1E376C08#32, 0x2748774C#32, 0x34B0BCB5#32, 0x391C0CB3#32, 0x4ED8AA4A#32, 0x5B9CCA4F#32, 0x682E6FF3#32,
    0x748F82EE#32, 0x78A5636F#32, 0x84C87814#32, 0x8CC70208#32, 0x90BEFFFA#32, 0xA4506CEB#32, 0xBEF9A3F7#32, 0xC67178F2#32]

/-- One round on a word with its constant added. -/
def shaRound (s : ShaState) (x : Word) : ShaState :=
  let t1 := s.h + (s.e.rotateRight 6 ^^^ s.e.rotateRight 11 ^^^ s.e.rotateRight 25) + ((s.e &&& s.f) ^^^ (~~~ s.e &&& s.g)) + x
  let t2 := (s.a.rotateRight 2 ^^^ s.a.rotateRight 13 ^^^ s.a.rotateRight 22) + ((s.a &&& s.b) ^^^ (s.a &&& s.c) ^^^ (s.b &&& s.c))
  { a := t1 + t2, b := s.a, c := s.b, d := s.c, e := s.d + t1, f := s.e, g := s.f, h := s.g }

/-- The word sixteen places after the first of a window of the message schedule. -/
def shaNext (w : List Word) : Word :=
  let x := w.getD 1 0
  let y := w.getD 14 0
  (y.rotateRight 17 ^^^ y.rotateRight 19 ^^^ (y >>> 10)) + w.getD 9 0 + (x.rotateRight 7 ^^^ x.rotateRight 18 ^^^ (x >>> 3)) + w.headD 0

/-- Rounds with their constants, over the window of the message schedule. -/
def shaRounds : List Word → List Word → ShaState → ShaState
  | [], _, s => s
  | k :: ks, w, s => shaRounds ks (w.drop 1 ++ [shaNext w]) (shaRound s (k + w.headD 0))

/-- The sixteen words of a block. -/
def shaWords (l : List Byte) : List Word := (List.range 16).map (fun i => BitVec.ofNat 32 (beVal ((l.drop (4 * i)).take 4)))

/-- One block. -/
def shaBlock (s : ShaState) (l : List Byte) : ShaState :=
  let t := shaRounds (shaK0 ++ shaK1) (shaWords l) s
  { a := s.a + t.a, b := s.b + t.b, c := s.c + t.c, d := s.d + t.d, e := s.e + t.e, f := s.f + t.f, g := s.g + t.g, h := s.h + t.h }

/-- The message with its padding: a 1 bit, zeros, and its length in bits. -/
def shaPad (l : List Byte) : List Byte :=
  l ++ 0x80#8 :: List.replicate ((119 - l.length % 64) % 64) 0 ++ beBytes 8 (8 * l.length)

/-- So many blocks. -/
def shaBlocks : Nat → List Byte → ShaState → ShaState
  | 0, _, s => s
  | n + 1, l, s => shaBlocks n (l.drop 64) (shaBlock s (l.take 64))

/-- The SHA-256 of a message. -/
@[irreducible] def sha256 (l : List Byte) : List Byte :=
  let p := shaPad l
  let s := shaBlocks (p.length / 64) p shaStart
  [s.a, s.b, s.c, s.d, s.e, s.f, s.g, s.h].flatMap (fun x => beBytes 4 x.toNat)

/-! ### LM-OTS, LMS and HSS (RFC 8554, with the types of R442) -/

/-- Part of a byte string. -/
def bytesAt (l : List Byte) (i n : Nat) : List Byte := (l.drop i).take n

/-- LM-OTS: the Winternitz width of a type, and how many chains it has. -/
def otsWidth (ots : Nat) : Nat := if ots = 3 then 4 else 8
def otsChains (ots : Nat) : Nat := if ots = 3 then 67 else 34

/-- LMS: the height of a type. -/
def lmsHeight (lms : Nat) : Nat := 5 * (lms - 4)

/-- The parameters that R442 accepts in step 5. -/
def lmsTypesOk (lms ots : Nat) : Bool := decide (6 ≤ lms) && decide (lms ≤ 8) && (decide (ots = 3) || decide (ots = 4))

/-- The parameters of a public key (step 5 of R442; R455). -/
def keyParams (key : List Byte) : Bool :=
  (decide (beVal (bytesAt key 0 4) = 1) || decide (beVal (bytesAt key 0 4) = 2)) &&
  lmsTypesOk (beVal (bytesAt key 4 4)) (beVal (bytesAt key 8 4))

/-- The length of an LMS signature: leaf, LM-OTS signature, type, path. -/
def lmsLength (lms ots : Nat) : Nat := 4 + (36 + 32 * otsChains ots) + 4 + 32 * lmsHeight lms

/-- Digit i of a string of w-bit digits. -/
def otsDigit (s : List Byte) (i w : Nat) : Nat := (s.getD (i * w / 8) 0).toNat / 2 ^ (8 - (w * (i % (8 / w)) + w)) % 2 ^ w

/-- The hash with its checksum: the digits' distances from the top, shifted left by 4 for w = 4. -/
def otsWithSum (q : List Byte) (ots : Nat) : List Byte :=
  let w := otsWidth ots
  let k := sumTo (256 / w) (fun i => 2 ^ w - 1 - otsDigit q i w)
  q ++ beBytes 2 (if ots = 3 then k * 16 else k)

/-- A chain of hashes, from position j on, so many times. -/
def otsChain (pre : List Byte) : Nat → Nat → List Byte → List Byte
  | 0, _, t => t
  | n + 1, j, t => otsChain pre n (j + 1) (sha256 (pre ++ beBytes 1 j ++ t))

/-- The LM-OTS public key that a signature gives for a message (RFC 8554, 4.6). -/
def otsKey (ident : List Byte) (leaf ots : Nat) (msg sig : List Byte) : List Byte :=
  let at0 := ident ++ beBytes 4 leaf
  let w := otsWidth ots
  let s := otsWithSum (sha256 (at0 ++ [0x81, 0x81] ++ bytesAt sig 4 32 ++ msg)) ots
  sha256 (at0 ++ [0x80, 0x80] ++ (List.range (otsChains ots)).flatMap (fun i =>
    otsChain (at0 ++ beBytes 2 i) (2 ^ w - 1 - otsDigit s i w) (otsDigit s i w) (bytesAt sig (36 + 32 * i) 32)))

/-- The nodes from a leaf up its path. -/
def lmsRoot (ident : List Byte) : List (List Byte) → Nat → List Byte → List Byte
  | [], _, t => t
  | p :: ps, node, t => lmsRoot ident ps (node / 2)
      (sha256 (ident ++ beBytes 4 (node / 2) ++ [0x83, 0x83] ++ (if node % 2 = 1 then p ++ t else t ++ p)))

/-- An LMS signature verifies under a public key of type, OTS type, identifier and root (RFC 8554, 5.4.2). -/
def lmsVerify (pub msg sig : List Byte) : Bool :=
  let lms := beVal (bytesAt pub 0 4)
  let ots := beVal (bytesAt pub 4 4)
  let ident := bytesAt pub 8 16
  let leaf := beVal (bytesAt sig 0 4)
  let h := lmsHeight lms
  let tail := 40 + 32 * otsChains ots
  lmsTypesOk lms ots && decide (pub.length = 56) && decide (sig.length = lmsLength lms ots) && decide (beVal (bytesAt sig 4 4) = ots) &&
  decide (beVal (bytesAt sig tail 4) = lms) && decide (leaf < 2 ^ h) &&
  decide (lmsRoot ident ((List.range h).map (fun i => bytesAt sig (tail + 4 + 32 * i) 32)) (2 ^ h + leaf)
    (sha256 (ident ++ beBytes 4 (2 ^ h + leaf) ++ [0x82, 0x82] ++ otsKey ident leaf ots msg (bytesAt sig 4 (36 + 32 * otsChains ots)))) =
    bytesAt pub 24 32)

/-- Where the lower key of a two-level signature stands: after the count and the top signature. -/
def hssLowerAt (key : List Byte) : Nat := 4 + lmsLength (beVal (bytesAt key 4 4)) (beVal (bytesAt key 8 4))

/-- The keys that an HSS signature holds below the top level have the parameters of R442 step 5. A signature too short to hold the key fails
in step 6. -/
def hssLowerOk (key sig : List Byte) : Bool :=
  if beVal (bytesAt key 0 4) = 2 ∧ hssLowerAt key + 56 ≤ sig.length then
    lmsTypesOk (beVal (bytesAt sig (hssLowerAt key) 4)) (beVal (bytesAt sig (hssLowerAt key + 4) 4))
  else true

/-- An HSS signature of one or two levels verifies under a 60-byte public key (RFC 8554, 6.3). -/
def hssVerify (key msg sig : List Byte) : Bool :=
  let n := hssLowerAt key
  if beVal (bytesAt sig 0 4) + 1 ≠ beVal (bytesAt key 0 4) then false
  else if beVal (bytesAt key 0 4) = 1 then lmsVerify (key.drop 4) msg (sig.drop 4)
  else if beVal (bytesAt key 0 4) = 2 then
    lmsVerify (key.drop 4) (bytesAt sig n 56) (bytesAt sig 4 (n - 4)) && lmsVerify (bytesAt sig n 56) msg (sig.drop (n + 56))
  else false

end Sys2Proof.Machine
end

