-- ==== Sys2Proof/Machine/Dev.lean ====
section
/-! DEFINITION. The device's state beside the mode machine and the clock: registers, memories and the units' records. -/

namespace Sys2Proof.Machine

/-- Everything of the device but its mode, its clock and its command queue. `regs` holds the words in force of the registers that differ
from their reset values, by address; `staged` the staged words that wait for a boundary (spec/12_register_access.md R364); `mem` every
memory, by address; `otpBad` the OTP words (by the byte address in OTP) and `aonBad` the AON register words (by register address) that
hold an uncorrectable error (spec/16_power_and_modes.md R484). -/
structure Dev where
  regs     : List (Nat × Word) := []
  staged   : List (Nat × Word) := []
  mem      : List Host.Cell := []
  badLines : List Nat := []
  ports    : Vector Port 8 := Vector.replicate 8 {}
  ctxs     : Vector Ctx 16 := Vector.replicate 16 {}
  pipes    : Vector Pipe 4 := Vector.replicate 4 {}
  views    : Vector View 32 := Vector.replicate 32 {}
  taps     : Vector Tap 4 := Vector.replicate 4 {}
  drvs     : Vector Drover 4 := Vector.replicate 4 {}
  boxes    : Vector MsgPort 5 := Vector.replicate 5 {}
  compares : Vector Compare 4 := Vector.replicate 4 {}
  panReqs  : List PanReq := []
  panTurn  : List Nat := []
  events   : List Ev := []
  reports  : List Report := []
  bestEff  : List Packet := []
  tapQueue : List Packet := []
  softLines : List Nat := []
  groups   : Vector Group 3 := Vector.replicate 3 {}
  lanes    : Vector Lane 15 := Vector.replicate 15 {}
  trunk    : Trunk := {}
  snaps    : List (Nat × Nat) := []
  latches  : List (Nat × Nat) := []
  tsq      : Vector (List TsEntry) 6 := Vector.replicate 6 []
  caps     : Vector Capture 8 := Vector.replicate 8 {}
  trigs    : Vector Trigger 16 := Vector.replicate 16 {}
  flt      : Collector := {}
  twt      : Twt := {}
  tws      : Vector Tws 9 := Vector.replicate 9 {}
  otp      : List Host.Cell := []
  otpBad   : List Nat := []
  aonBad   : List Nat := []
  boot     : Boot := {}
  sec      : Sec := {}
  heads    : Vector Head 16 := Vector.replicate 16 {}
  power    : Power := {}
  guards   : List (Nat × Guard) := []
  onceTree : Bool := false
  acts     : List Act := []
  commitNo : Nat := 0
  freeCnt  : Nat := 0
deriving DecidableEq, Repr, Inhabited

/-- What a unit sees of the mode machine and the clock while a command runs. -/
structure Env where
  sys : Sys := {}
  clk : Clock := {}
deriving DecidableEq, Repr, Inhabited

/-- The mode. -/
def Env.mode (e : Env) : Mode := e.sys.mode

/-- The linear time in units of 2^-30 ns. -/
def Env.now (e : Env) : Nat := e.clk.now

/-- The time-base cycles since line-up. -/
def Env.cycles (e : Env) : Nat := e.clk.cycles

/-- The holdover bit (spec/11_time.md R335). -/
def Env.hold (e : Env) : Bool := decide (e.clk.state ≠ .tracking)

/-- The straps. -/
def Env.straps (e : Env) : Straps := e.sys.straps

end Sys2Proof.Machine
end

