-- ==== Sys2Proof/Machine/Ops.lean ====
section
/-! DEFINITION. The named operations over registers, memories, status words, events and fault reports that every unit shares. -/

namespace Sys2Proof.Machine

/-! ### The address map (spec/12_register_access.md R362, R379) -/

/-- The unit block that holds an address of the register space: its kind, its number and the offset in the block. -/
def unitAt (a : Nat) : Option (UnitKind × Nat × Nat) :=
  let b := a / 0x4000 * 0x4000
  let o := a % 0x4000
  if a < 0x4000 then some (.glob, 0, o)
  else if a < 0x8000 then some (.customs, 0, o)
  else if a < 0xC000 then some (.power, 0, o)
  else if a < 0x10000 then some (.thermal, 0, o)
  else if b = 0x10000 then some (.boot, 0, o)
  else if b = 0x14000 then some (.sec, 0, o)
  else if b = 0x18000 then some (.otp, 0, o)
  else if b = 0x20000 then some (.time, 0, o)
  else if b = 0x30000 then some (.twt, 0, o)
  else if 0x34000 ≤ a ∧ a < 0x54000 then some (.tws, (a - 0x34000) / 0x4000, o)
  else if b = 0x60000 then some (.head, 0, o)
  else if 0x100000 ≤ a ∧ a < 0x120000 then some (.csi, (a - 0x100000) / 0x4000, o)
  else if 0x200000 ≤ a ∧ a < 0x240000 then some (.ctx, (a - 0x200000) / 0x4000, o)
  else if 0x300000 ≤ a ∧ a < 0x310000 then some (.pipe, (a - 0x300000) / 0x4000, o)
  else if b = 0x340000 then some (.toll, 0, o)
  else if 0x400000 ≤ a ∧ a < 0x480000 then some (.view, (a - 0x400000) / 0x4000, o)
  else if b = 0x490000 then some (.tap, 0, o)
  else if b = 0x4A0000 then some (.harv, 0, o)
  else if b = 0x500000 then some (.link, 0, o)
  else if 0x504000 ≤ a ∧ a < 0x504000 + 15 * 0x400 then some (.lane, (a - 0x504000) / 0x400, (a - 0x504000) % 0x400)
  else if 0x508000 ≤ a ∧ a < 0x508000 + 15 * 0x400 then some (.lane, (a - 0x508000) / 0x400, 0x2000 + (a - 0x508000) % 0x400)
  else if b = 0x520000 then some (.feeder, 0, o)
  else if b = 0x530000 then some (.feeder, 1, o)
  else if b = 0x540000 then some (.tt, 0, o)
  else if 0x600000 ≤ a ∧ a < 0x610000 then some (.drv, (a - 0x600000) / 0x4000, o)
  else none

/-- The reset word of the register at an address; 0 where none stands. -/
def resetWord (a : Nat) : Word :=
  match unitAt a with
  | some (u, _, o) => unitReset u o
  | none => 0

/-! ### Registers -/

/-- The word in force of the register at an address. -/
def rd (d : Dev) (a : Nat) : Word := sGet (resetWord a) d.regs a

/-- The device with the word in force at an address replaced. -/
def wr (d : Dev) (a : Nat) (w : Word) : Dev := { d with regs := sPut (resetWord a) d.regs a w }

/-- The word in force of a unit's register. -/
def get (d : Dev) (u : UnitKind) (n off : Nat) : Word := rd d (unitBase u n + off)

/-- The device with a unit's register set. -/
def put (d : Dev) (u : UnitKind) (n off : Nat) (w : Word) : Dev := wr d (unitBase u n + off) w

/-- A field of a unit's register. -/
def getF (d : Dev) (u : UnitKind) (n off hi lo : Nat) : Nat := fld (get d u n off) hi lo

/-- A bit of a unit's register. -/
def getB (d : Dev) (u : UnitKind) (n off i : Nat) : Bool := flag (get d u n off) i

/-- The device with a field of a unit's register set. -/
def putF (d : Dev) (u : UnitKind) (n off hi lo v : Nat) : Dev := put d u n off (setFld (get d u n off) hi lo v)

/-- A saturating count in a field goes up by k. -/
def addSat (d : Dev) (u : UnitKind) (n off hi lo k : Nat) : Dev :=
  putF d u n off hi lo (min (2 ^ (hi + 1 - lo) - 1) (getF d u n off hi lo + k))

/-- A wrapping count in a field goes up by one. -/
def incWrap (d : Dev) (u : UnitKind) (n off hi lo : Nat) : Dev := putF d u n off hi lo (getF d u n off hi lo + 1)

/-- The staged word of the register at an address: what waits for the boundary, or the word in force (R364). -/
def stagedAt (d : Dev) (a : Nat) : Word := sGet (rd d a) d.staged a

/-- A word enters staging (R364): it waits there also where it equals the word in force, since the unit's boundary judges what was
written. -/
def stage (d : Dev) (a : Nat) (w : Word) : Dev := { d with staged := sIns a w d.staged }

/-- The staged words of a range of addresses. -/
def stagedIn (d : Dev) (lo len : Nat) : List (Nat × Word) := sSlice d.staged lo len

/-- The staged copies of a range are reloaded from the values in force (R364, R368). -/
def dropStaged (d : Dev) (lo len : Nat) : Dev :=
  { d with staged := d.staged.filter (fun p => !(decide (lo ≤ p.1) && decide (p.1 < lo + len))) }

/-- Words come into force, in order. -/
def wrAll (d : Dev) (l : List (Nat × Word)) : Dev := l.foldl (fun d p => wr d p.1 p.2) d

/-- All staged words of a range come into force together (R364); the first word of an address is the one that counts, as in a read. -/
def applyStaged (d : Dev) (lo len : Nat) : Dev := dropStaged (wrAll d (stagedIn d lo len).reverse) lo len

/-! ### Status, events and fault reports -/

/-- A status word after an event it reports: the bits of the mask set, the sequence number one higher (R369). -/
def sqcEvent (w : Word) (mask : Nat) : Word := setFld (w ||| BitVec.ofNat 32 mask) 31 24 (fld w 31 24 + 1)

/-- A status word after a clear: the bits that are 1 in the write clear if its sequence number is the current one (R369). -/
def sqcClear (w v mask : Word) : Word :=
  if fld v 31 24 = fld w 31 24 then w &&& ~~~ (v &&& mask &&& 0xFFFFFF#32) else w

/-- An event is reported in a unit's status register. -/
def stat (d : Dev) (u : UnitKind) (n off mask : Nat) : Dev := put d u n off (sqcEvent (get d u n off) mask)

/-- An event occurs for every drover that enables it (spec/07_jorran_isa.md R232). -/
def raise (d : Dev) (e : Nat) : Dev := { d with events := d.events ++ [{ num := e }] }

/-- An event occurs for one drover (the squash event 42). -/
def raiseFor (d : Dev) (e n : Nat) : Dev := { d with events := d.events ++ [{ num := e, drover := some n }] }

/-- The base address of the block that reports a source no access caused (spec/13_fault_collector.md R384, R390). -/
def sourceBase (s : Nat) : Nat :=
  if 8 ≤ s ∧ s ≤ 15 then unitBase .csi (s - 8)
  else if 16 ≤ s ∧ s ≤ 63 then unitBase .ctx ((s - 16) % 16)
  else if 64 ≤ s ∧ s ≤ 67 then unitBase .pipe (s - 64)
  else if s = 68 then unitBase .toll 0
  else if 69 ≤ s ∧ s ≤ 100 then unitBase .view (s - 69)
  else if s = 101 then unitBase .tap 0
  else if s = 102 then unitBase .time 0
  else if 103 ≤ s ∧ s ≤ 106 then unitBase .drv (s - 103)
  else if s = 107 ∨ s = 108 then unitBase .drv 0
  else if 109 ≤ s ∧ s ≤ 111 then unitBase .link 0
  else if s = 112 ∨ s = 113 then unitBase .feeder (s - 112)
  else if s = 115 ∨ s = 116 then unitBase .feeder (s - 115)
  else if s = 114 ∨ s = 117 then unitBase .link 0
  else if 118 ≤ s ∧ s ≤ 128 then unitBase .time 0
  else if 144 ≤ s ∧ s ≤ 151 then unitBase .tws (s - 144)
  else if s = 152 then unitBase .twt 0
  else if 153 ≤ s ∧ s ≤ 168 then unitBase .head 0
  else if s = 0 ∨ s = 3 then unitBase .thermal 0
  else if s = 1 ∨ s = 2 then unitBase .power 0
  else if s = 6 then unitBase .otp 0
  else if s = 141 ∨ s = 142 then unitBase .boot 0
  else if s = 143 then unitBase .sec 0
  else if s = 169 ∨ s = 5 then unitBase .customs 0
  else unitBase .glob 0

/-- A fault that no access caused is reported by the unit whose block begins at `a` (R384). -/
def reportAt (d : Dev) (s a : Nat) : Dev := { d with reports := d.reports ++ [{ source := s, addr := a }] }

/-- The same, of a source that one unit alone raises. -/
def report (d : Dev) (s : Nat) : Dev := reportAt d s (sourceBase s)

/-- The code of an access type in a record (spec/13_fault_collector.md R391). -/
def accCode : AccType → Nat
  | .none => 0
  | .read => 1
  | .write => 2
  | .bitAlias => 3
  | .guard => 4
  | .fetch => 5
  | .engine => 6

/-- A fault that an access caused is reported to the collector (R378). -/
def reportAcc (d : Dev) (s master : Nat) (t : AccType) (a : Nat) : Dev :=
  { d with reports := d.reports ++ [{ source := s, master := master, access := accCode t, addr := a }] }

/-! ### Fences and power domains -/

/-- The unit code of a fenceable unit (spec/13_fault_collector.md R401). -/
def unitCode : UnitKind → Nat → Option Nat
  | .csi, n => some n
  | .tws, n => some (0x08 + n)
  | .ctx, n => some (0x10 + n)
  | .pipe, n => some (0x20 + n)
  | .harv, _ => some 0x24
  | .tap, _ => some 0x25
  | .feeder, n => some (0x26 + n)
  | .drv, n => if n = 0 then none else some (0x28 + n)
  | .view, n => some (0x40 + n)
  | _, _ => none

/-- The unit code is fenced (FLT_FENCED0–2). -/
def codeFenced (d : Dev) (c : Nat) : Bool := flag (get d .customs 0 (0xA0 + c / 32 * 4)) (c % 32)

/-- The unit is fenced. -/
def fenced (d : Dev) (u : UnitKind) (n : Nat) : Bool :=
  match unitCode u n with
  | some c => codeFenced d c
  | none => false

/-- The power domain number k is on (PWR_PDON0 and PWR_PDON1, PD01 first). -/
def domainOn (d : Dev) (k : Nat) : Bool :=
  if k ≤ 32 then flag (get d .power 0 0x1C) (k - 1) else flag (get d .power 0 0x20) (k - 33)

/-! ### Memory -/

/-- One byte of any memory; an unlisted byte reads 0 (spec/16_power_and_modes.md R472, spec/08_drover_programs.md R256). -/
def memByte (d : Dev) (a : Nat) : Byte := sGet (0 : Byte) d.mem a

/-- A little-endian value of n bytes. -/
def memVal (d : Dev) (n a : Nat) : Nat := leVal ((List.range n).map (fun i => memByte d (a + i)))

/-- The bytes of a range. -/
def memBytes (d : Dev) (a n : Nat) : List Byte := (List.range n).map (fun i => memByte d (a + i))

/-- Bytes written from an address upward, on the memory list itself. -/
def memPut (m : List Host.Cell) (a : Nat) : List Byte → List Host.Cell
  | [] => m
  | b :: t => memPut (sPut (0 : Byte) m a b) (a + 1) t


/-- The canonical form of the memory list: addresses rising strictly, no entry equal to what an unlisted byte reads as. -/
def memoryWf (m : List Host.Cell) : Bool := sWf (fun _ => (0 : Byte)) m

/-- The base of the pan window. -/
def panBase : Nat := 0x20000000

/-- The size of the pan. -/
def panSize : Nat := 0x2000000

/-- The bytes under one error code: a line of 64 bytes of the pan; one word of a drover memory, since a word store needs no read half
(spec/07_jorran_isa.md R222; DEDUCED, log 118). -/
def lineSize (a : Nat) : Nat := if panBase ≤ a then 64 else 4

/-- The line of an address. -/
def lineOf (a : Nat) : Nat := a / lineSize a * lineSize a

/-- The line of an address is uncorrectable. -/
def badAt (d : Dev) (a : Nat) : Bool := d.badLines.contains (lineOf a)

/-- Bytes written from an address upward: a line wholly written has its code rebuilt (R171; spec/13_fault_collector.md R405). -/
def memWrite (d : Dev) (a : Nat) (bs : List Byte) : Dev :=
  { d with
    mem := memPut d.mem a bs
    badLines := d.badLines.filter (fun b => !(decide (a ≤ b) && decide (b + lineSize b ≤ a + bs.length))) }

/-- A pan line of 64 bytes, named by its offset, is uncorrectable (spec/13_fault_collector.md R405). -/
def lineBad (d : Dev) (off : Nat) : Bool := d.badLines.contains ((panBase + off) / 64 * 64)

/-- Some line of a pan range is uncorrectable. -/
def panBad (d : Dev) (off len : Nat) : Bool :=
  d.badLines.any (fun b => decide (b < panBase + off + len) && decide (panBase + off < b + 64))

/-- The pan lines that answered an engine with an uncorrectable error are reported by their banks (spec/13_fault_collector.md R405). -/
def reportBanks (d : Dev) (lines : List Nat) : Dev :=
  let x := lines.foldl (fun d l =>
    reportAcc (addSat d .customs 0 (0xC0 + 4 * (l / 64 % 8)) 31 16 1) (132 + l / 64 % 8) 8 .engine (panBase + l / 64 * 64)) d
  { d with regs := x.regs, reports := x.reports }

/-- Whole lines, or parts of lines that can be read, written to the pan (R171). -/
def panFill (d : Dev) (off : Nat) (bs : List Byte) : Dev := memWrite d (panBase + off) bs

/-- What of a write of the pan is written, and the lines whose read half fails. -/
structure PanParts where
  lo    : Nat
  hi    : Nat
  lines : List Nat
deriving DecidableEq, Repr, Inhabited

/-- A write of len bytes: its first and last lines are read first where it covers them in part (R171). -/
def panParts (d : Dev) (off len : Nat) : PanParts :=
  let stop := off + len
  let headBad := decide (0 < len) && lineBad d off && (decide (off % 64 ≠ 0) || decide (len < 64))
  let lo := if headBad then min stop (off / 64 * 64 + 64) else off
  let tailBad := decide (lo < stop) && lineBad d stop && decide (stop % 64 ≠ 0)
  { lo := lo, hi := if tailBad then max lo (stop / 64 * 64) else stop
    lines := (if headBad then [off / 64 * 64] else []) ++ (if tailBad then [stop / 64 * 64] else []) }

/-- Bytes written to the pan by an engine (R171): its first and last lines are read first where the write covers them in part, and the part
that lies in a line whose read half fails is discarded and answered with the error. -/
def panWrite (d : Dev) (off : Nat) (bs : List Byte) : Dev :=
  let p := panParts d off bs.length
  reportBanks (panFill d p.lo ((bs.drop (p.lo - off)).take (p.hi - p.lo))) p.lines

/-- Bytes of the pan. -/
def panBytes (d : Dev) (off n : Nat) : List Byte := memBytes d (panBase + off) n

/-- The pan tables a parameter set names, copied with their unreadable lines (R67, R108, R112). -/
def copyTables (d : Dev) (ranges : List (Nat × Nat)) : Tables :=
  { cells := ranges.flatMap (fun r => (sSlice d.mem (panBase + r.1) r.2).map (fun c => (c.1 - panBase, c.2)))
    bad := (d.badLines.filter (fun b => ranges.any (fun r =>
      decide (b < panBase + r.1 + r.2) && decide (panBase + r.1 < b + 64)))).map (fun b => b - panBase) }

/-- A toll owner holds a position of the wheel in force (spec/05_pipe_sharing.md R504). -/
def ownerServed (d : Dev) (o : Nat) : Bool := (List.range 32).any (fun s => getF d .toll 0 (0x100 + 4 * s) 5 0 = o)

/-! ### Drawing free values -/

/-- A fresh index for a free value; the step's counter moves on. -/
def drawFree (d : Dev) : Nat × Dev := (d.freeCnt, { d with freeCnt := d.freeCnt + 1 })

/-! ### Updates of the units' records -/

/-- The device with a port's record changed. -/
def onPort (d : Dev) (n : Nat) (f : Port → Port) : Dev := { d with ports := vmod d.ports n f }

/-- The device with a context's record changed. -/
def onCtx (d : Dev) (n : Nat) (f : Ctx → Ctx) : Dev := { d with ctxs := vmod d.ctxs n f }

/-- The device with a pipe's record changed. -/
def onPipe (d : Dev) (n : Nat) (f : Pipe → Pipe) : Dev := { d with pipes := vmod d.pipes n f }

/-- The device with a view's record changed. -/
def onView (d : Dev) (n : Nat) (f : View → View) : Dev := { d with views := vmod d.views n f }

/-- The device with a tap's record changed. -/
def onTap (d : Dev) (n : Nat) (f : Tap → Tap) : Dev := { d with taps := vmod d.taps n f }

/-- The device with a drover's record changed. -/
def onDrv (d : Dev) (n : Nat) (f : Drover → Drover) : Dev := { d with drvs := vmod d.drvs n f }

/-- The device with a message port changed. -/
def onBox (d : Dev) (n : Nat) (f : MsgPort → MsgPort) : Dev := { d with boxes := vmod d.boxes n f }

/-- The device with a lane group changed. -/
def onGroup (d : Dev) (n : Nat) (f : Group → Group) : Dev := { d with groups := vmod d.groups n f }

/-- The device with a lane changed. -/
def onLane (d : Dev) (n : Nat) (f : Lane → Lane) : Dev := { d with lanes := vmod d.lanes n f }

/-- The device with the trunk's record changed. -/
def onTrunk (d : Dev) (f : Trunk → Trunk) : Dev := { d with trunk := f d.trunk }

/-- The device with a controller port's record changed. -/
def onTws (d : Dev) (n : Nat) (f : Tws → Tws) : Dev := { d with tws := vmod d.tws n f }

/-- The device with TWT's record changed. -/
def onTwt (d : Dev) (f : Twt → Twt) : Dev := { d with twt := f d.twt }

/-- The device with a head's record changed. -/
def onHead (d : Dev) (n : Nat) (f : Head → Head) : Dev := { d with heads := vmod d.heads n f }

/-- The device with a compare unit changed. -/
def onCompare (d : Dev) (n : Nat) (f : Compare → Compare) : Dev := { d with compares := vmod d.compares n f }

/-- The device with a capture input changed. -/
def onCap (d : Dev) (n : Nat) (f : Capture → Capture) : Dev := { d with caps := vmod d.caps n f }

/-- The device with a trigger output changed. -/
def onTrig (d : Dev) (n : Nat) (f : Trigger → Trigger) : Dev := { d with trigs := vmod d.trigs n f }

/-- The device with a feeder line changed. -/
def onFeed (d : Dev) (n : Nat) (f : Feed → Feed) : Dev := { d with power := { d.power with feeds := vmod d.power.feeds n f } }

/-- The device with the power record changed. -/
def onPower (d : Dev) (f : Power → Power) : Dev := { d with power := f d.power }

/-- The device with the collector's record changed. -/
def onFlt (d : Dev) (f : Collector → Collector) : Dev := { d with flt := f d.flt }

/-- The device with the security engine's record changed. -/
def onSec (d : Dev) (f : Sec → Sec) : Dev := { d with sec := f d.sec }

/-- The device with the boot ROM's record changed. -/
def onBoot (d : Dev) (f : Boot → Boot) : Dev := { d with boot := f d.boot }

/-- Something is asked of the mode machine or the clock. -/
def act (d : Dev) (a : Act) : Dev := { d with acts := d.acts ++ [a] }

/-- A function folded over the first n numbers. -/
def forN (n : Nat) (f : Dev → Nat → Dev) (d : Dev) : Dev := (List.range n).foldl f d

/-! ### Time in parts -/

/-- The seconds of a linear time in 2^-30 ns (spec/11_time.md R326). -/
def secOf (t : Nat) : Nat := t / 2 ^ 30 / 1000000000 % 2 ^ 48

/-- The nanoseconds of a linear time. -/
def nsOf (t : Nat) : Nat := t / 2 ^ 30 % 1000000000

/-- The visible fraction of a linear time, in 2^-24 ns. -/
def fracOf (t : Nat) : Nat := t / 64 % 2 ^ 24

/-! ### Head verdicts -/

/-- The verdict on a context's head: NONE while the security engine has no power (spec/15_boot_identity_heads.md R454). -/
def headVerdict (d : Dev) (c : Nat) : Nat := if domainOn d 49 then (vget d.heads c).verdict else 0

/-- The policy in force refuses the frames of a context (R454). -/
def headRefuses (d : Dev) (c : Nat) : Bool := decide (2 ≤ (vget d.heads c).policy) && decide (headVerdict d c ≠ 1)

/-! ### Doorbells and messages -/

/-- A doorbell rings if its number is one (spec/07_jorran_isa.md R232). -/
def ringBell (d : Dev) (e : Nat) : Dev := if 47 ≤ e ∧ e ≤ 63 then raise d e else d

/-- The owner of a message port (DRV_PORTMAP), none for 4–7 (R237). -/
def portOwner (d : Dev) (p : Nat) : Option Nat :=
  let o := getF d .drv 0 0x44 (3 * p + 2) (3 * p)
  if o ≤ 3 then some o else none

/-- A message arrives on a port: queued with its event, or discarded, counted and reported by the port's owner (R239); of a port that no
drover owns, by the block that holds the port map: DESIGN CHOICE, log entry 116. -/
def deliverMsg (d : Dev) (p : Nat) (m : List Byte) : Dev :=
  if (vget d.boxes p).inbox.length < 8 then
    raise (onBox d p (fun b => { b with inbox := b.inbox ++ [m] })) (if p ≤ 1 then 40 else 41)
  else
    match portOwner d p with
    | some o => reportAt (addSat d .drv o 0x48 15 0 1) 108 (unitBase .drv o)
    | none => report d 108

end Sys2Proof.Machine
end

