-- ==== Sys2Proof/Machine/Sets.lean ====
section
/-! DEFINITION. Parameter sets: the context's and the views' staged sets, their refusal checks, the committed sets of the drovers and their
squash (spec/02_intake.md R43–R49; spec/03_mosaic.md R83; spec/05_pipe_sharing.md R154; spec/06_views_taps_convoys.md R178, R179;
spec/07_jorran_isa.md R245–R248). -/

namespace Sys2Proof.Machine

/-! ### Routes -/

/-- The bits per sample of a pack code, or of a data type when the pack is 0 (R38, R43). -/
def packBits (pack dt : Nat) : Nat :=
  match pack with
  | 1 => 8
  | 2 => 10
  | 3 => 12
  | 4 => 14
  | 5 => 16
  | 6 => 20
  | 7 => 24
  | _ => if dt = 0x2A then 8 else if dt = 0x2B then 10 else if dt = 0x2C then 12 else if dt = 0x2D then 14
    else if dt = 0x2E then 16 else if dt = 0x2F then 20 else if dt = 0x27 then 24 else 0

/-- A route entry in force or staged: validity, channel, data type, context, exposure, pack, role (R43). -/
structure Route where
  valid : Bool
  vc    : Nat
  dt    : Nat
  ctx   : Nat
  exposure : Nat
  pack  : Nat
  role  : Nat
deriving DecidableEq, Repr, Inhabited

/-- The fields of a CSI_ROUTE word. -/
def routeOf (w : Word) : Route :=
  { valid := flag w 31, vc := fld w 30 27, dt := fld w 26 21, ctx := fld w 19 16, exposure := fld w 13 12,
    pack := fld w 10 8, role := fld w 1 0 }

/-- The route entries of a port in force, entry 0 first. -/
def routes (d : Dev) (port : Nat) : List Route := (List.range 16).map (fun k => routeOf (get d .csi port (0x40 + 4 * k)))

/-- User-defined data types (R38). -/
def isUserDt (dt : Nat) : Bool := decide (0x30 ≤ dt) && decide (dt ≤ 0x37)

/-- A staged entry that R49 refuses. -/
def routeRefused (r : Route) : Bool := decide (r.role = 3) || (decide (r.pack = 0) && isUserDt r.dt)

/-- The staged route entry k of a port applies, or is refused (R43, R49). -/
def applyRoute (d : Dev) (port k : Nat) : Dev :=
  let a := unitBase .csi port + 0x40 + 4 * k
  let w := stagedAt d a
  if w = rd d a then d
  else if routeRefused (routeOf w) then
    report (stat (dropStaged d a 4) .csi port 4 0x100) (32 + (routeOf w).ctx)
  else applyStaged d a 4

/-- The staged route entries whose channel is v apply (R43). -/
def applyRoutes (d : Dev) (port v : Nat) : Dev :=
  (List.range 16).foldl (fun d k =>
    let a := unitBase .csi port + 0x40 + 4 * k
    let s := routeOf (stagedAt d a)
    if (if s.valid then s.vc else (routeOf (rd d a)).vc) = v then applyRoute d port k else d) d

/-- The route carries image lines of exposure e of a context. -/
def routeCarries (r : Route) (c e : Nat) : Bool :=
  r.valid && decide (r.ctx = c) && (decide (r.role = 2) || (decide (r.role = 0) && decide (r.exposure = e)))

/-- The bits per sample of exposure e of a context: those of the first route of its port that carries it; 0 when none does. -/
def expBits (d : Dev) (port c e : Nat) : Nat :=
  match (routes d port).find? (fun r => routeCarries r c e) with
  | some r => packBits r.pack r.dt
  | none => 0

/-- The bits per sample of each of n exposures of a context (R150). -/
def expWidths (d : Dev) (port c n : Nat) : List Nat := (List.range n).map (expBits d port c)

/-! ### Context sets -/

/-- The context's parameter registers in force, as a sparse set of offsets. -/
def ctxParams (d : Dev) (c : Nat) : Params :=
  (sSlice d.regs (unitBase .ctx c) 0x2000).map (fun p => (p.1 - unitBase .ctx c, p.2))

/-- A parameter set with words laid over it. -/
def overlay (p : Params) (l : List (Nat × Word)) : Params := l.foldl (fun p q => sPut (unitReset .ctx q.1) p q.1 q.2) p

/-- The candidate set of a context: what is in force with the staged words over it. -/
def ctxCandidate (d : Dev) (c : Nat) : Params :=
  overlay (ctxParams d c) ((stagedIn d (unitBase .ctx c) 0x2000).map (fun p => (p.1 - unitBase .ctx c, p.2)))

/-- The bytes of one exposure's row in the ring, B_e (spec/05_pipe_sharing.md R150). -/
def rowBytes (width bits : Nat) : Nat := ceilDiv (ceilDiv (width * bits) 8) 64 * 64

/-- Exposures of a row slot that would stand at e × B_e do not overlap (R150): so where the widths are equal or rise. -/
def slotsApart (width : Nat) (bits : List Nat) (n : Nat) : Bool :=
  (List.range (n - 1)).all (fun e =>
    decide ((e + 1) * rowBytes width (bits.getD e 0) ≤ (e + 1) * rowBytes width (bits.getD (e + 1) 0)))

/-- The offset of exposure e in a row slot of n exposures: e × B_e (R150); where that would make exposures overlap they follow each other
(DESIGN CHOICE, log 93). -/
def slotOffset (width : Nat) (bits : List Nat) (n e : Nat) : Nat :=
  if slotsApart width bits n then e * rowBytes width (bits.getD e 0) else sumTo e (fun k => rowBytes width (bits.getD k 0))

/-- The bytes of a row slot of n exposures: up to the end of the last one (R150, R154). -/
def slotSpan (width : Nat) (bits : List Nat) (n : Nat) : Nat :=
  slotOffset width bits n (n - 1) + rowBytes width (bits.getD (n - 1) 0)

/-- The bytes per column of the row store of a profile (R163). -/
def storeBytes (profile : Nat) : Nat :=
  if profile = 0 then 124 else if profile = 1 then 178 else if profile = 2 then 214 else 184

/-- The waystation size of a width and profile (R163). -/
def wsSize (profile width : Nat) : Nat := 8192 + ceilDiv (width * storeBytes profile) 64 * 64

/-- The profile in force (spec/01_architecture.md R33): GLOBAL_PROFILE.eff. -/
def profileEff (d : Dev) : Nat := getF d .glob 0 0x18 9 8

/-- The PWL knees of an exposure are well formed (R49). -/
def kneesOk (p : Params) (e : Nat) : Bool :=
  let cfg := pw p 0x100
  let n := if e ≤ 1 then fld cfg 13 8 else if e = 2 then fld cfg 21 16 else fld cfg 29 24
  let x := fun k => fld (pw p (0x800 + e * 0x400 + k * 0x10)) 23 0
  decide (2 ≤ n) && decide (n ≤ 33) && decide (x 0 = 0) &&
    (List.range (n - 1)).all (fun k => decide (x k < x (k + 1)))

/-- The limits of the mosaic descriptor (spec/03_mosaic.md R83). -/
def mosaicOk (p : Params) : Bool :=
  let m := mosaicOf p
  let chans := (phases m).map (fun q => phaseByte m q.1 q.2 % 16)
  let g := fld (pw p 0x120) 23 20
  chans.all (fun c => decide (c ≤ 5)) &&
  !(chans.contains 5 && (chans.contains 0 || chans.contains 1 || chans.contains 2 || chans.contains 3)) &&
  chans.any (fun c => decide (c ≠ 4)) &&
  [0, 1, 2, 3, 4, 5].all (fun c => !(chans.contains c) || (phases m).all (fun q =>
    decide (phaseByte m q.1 q.2 % 16 = c) ||
    (ring 2 2).any (fun d => decide (chanAt { m with ox := 0, oy := 0 } (q.1 + d.1) (q.2 + d.2) = c)))) &&
  decide (fld (pw p 0x004) 29 16 % m.pv = 0) && decide (m.ox < m.ph) && decide (m.oy < m.pv) &&
  (decide (g = 15) || (decide (g ≠ 4) && chans.contains g))

/-- The limits of geometry, interleave and embedded-data descriptor (R48), under the bits per sample of each exposure. Offsets of exposures
that the context does not have are ignored (R51). A reserved packing or field destination breaks a limit too, though R49 does not name it
(DESIGN CHOICE, log 94). -/
def geomOk (p : Params) (bits : List Nat) : Bool :=
  let g := pw p 0x004
  let w := fld g 13 0
  let h := fld g 29 16
  let il := pw p 0x008
  let ed := pw p 0x080
  let exps := fld (pw p 0) 9 8
  decide (16 ≤ w) && decide (w ≤ 8192) && decide (8 ≤ h) && decide (h ≤ 8192) &&
  decide (w % (mosaicOf p).ph = 0) && bits.all (fun b => decide (w * b % 8 = 0)) &&
  [0, 1, 2].all (fun e => decide (exps ≤ e) || decide (fld il (8 * e + 7) (8 * e) ≤ 32)) &&
  decide (fld ed 9 8 ≠ 3) && decide (fld ed 6 4 ≤ 4) && decide (fld ed 2 0 ≤ 4) &&
  (List.range 8).all (fun f => decide (fld (pw p (0x084 + 4 * f)) 4 0 ≤ 23) && decide (fld (pw p (0x084 + 4 * f)) 31 28 ≠ 15))

/-- The reserved encodings and malformed tables of R49. -/
def encodingsOk (p : Params) : Bool :=
  let cfg := pw p 0x000
  let lin := pw p 0x100
  let meth := fun e => fld lin (2 * e + 1) (2 * e)
  decide (fld cfg 11 10 < 2) && [0, 1, 2, 3].all (fun e => decide (meth e ≠ 3)) &&
  (List.range (fld cfg 9 8 + 1)).all (fun e => decide (meth e ≠ 1) || kneesOk p e) &&
  decide (fld (pw p 0x3C0) 9 4 < fld (pw p 0x3C0) 15 10) && decide (fld (pw p 0x5C4) 3 2 ≠ 3)

/-- Bank I of the pipe is free of other enabled in-line contexts (R48). -/
def bankFree (d : Dev) (c pipe : Nat) : Bool :=
  (List.range 16).all (fun o =>
    let w := get d .ctx o 0
    decide (o = c) || !(flag w 0) || flag w 1 || decide (fld w 3 2 ≠ pipe))

/-- The routes deliver every exposure the set lists (R48). -/
def exposuresRouted (d : Dev) (c : Nat) (cfg : Word) : Bool :=
  decide (fld cfg 11 10 ≠ 0) || (List.range (fld cfg 9 8 + 1)).all (fun e =>
    (routes d (fld cfg 6 4)).any (fun r => r.valid && decide (r.ctx = c) && decide (r.role = 0) && decide (r.exposure = e)))

/-- The ring and waystation of a memory-fed set fit (spec/05_pipe_sharing.md R154). -/
def ringOk (d : Dev) (c : Nat) (p : Params) : Bool :=
  let cfg := pw p 0x000
  let prof := profileEff d
  let w := fld (pw p 0x004) 13 0
  let n := fld (pw p 0x744) 11 0 / 16 * 16 / stripeRows prof
  let exps := fld cfg 9 8 + 1
  let row := slotSpan w (expWidths d (fld cfg 6 4) c exps) exps
  decide (2 ≤ n) && decide (fld (pw p 0x740) 24 12 * 0x1000 + n * stripeRows prof * row ≤ panSize) &&
  decide (fld (pw p 0x748) 24 12 * 0x1000 + wsSize prof w ≤ panSize)

/-- A candidate set of a context breaks no limit (R48, R49, R83, R154). -/
def ctxSetOk (d : Dev) (c : Nat) (p : Params) : Bool :=
  let cfg := pw p 0x000
  geomOk p (expWidths d (fld cfg 6 4) c (fld cfg 9 8 + 1)) && encodingsOk p && mosaicOk p &&
  (!(flag cfg 0) || (exposuresRouted d c cfg && (if flag cfg 1 then ringOk d c p else bankFree d c (fld cfg 3 2))))

/-- A squash: the handle is freed, recorded, and the committing drover gets event 42 (spec/07_jorran_isa.md R247). -/
def squash (d : Dev) (n h : Nat) : Dev :=
  raiseFor (stat (onDrv d n (fun v => { v with armed := v.armed.filter (fun s => decide (s.handle ≠ h)) }))
    .drv n 0x3C (2 ^ h)) 42 n

/-- Every armed set: the drover that committed it, and the set. -/
def armedSets (d : Dev) : List (Nat × StagedSet) :=
  (List.range 4).flatMap (fun n => (vget d.drvs n).armed.map (fun s => (n, s)))

/-- Every armed set of a context is squashed. -/
def squashCtx (d : Dev) (c : Nat) : Dev :=
  ((armedSets d).filter (fun q => decide (q.2.ctx = c))).foldl (fun d q => squash d q.1 q.2.handle) d

/-- The tone grid is invalidated by a change of these registers (spec/04_colour_and_harvest.md R116). -/
def gridChanged (p q : Params) : Bool :=
  decide (pw p 0x004 ≠ pw q 0x004) || decide (pw p 0x120 ≠ pw q 0x120) ||
  decide (fld (pw p 0x5C4) 3 2 ≠ fld (pw q 0x5C4) 3 2) || decide (flag (pw p 0x550) 2 ≠ flag (pw q 0x550) 2)

/-- No grid is in use (CTX_LTM_GRIDEP.valid = 0), and none that is complete or being built comes into use (R116). A frame that the pipe has
begun keeps the grid it took (DESIGN CHOICE, log 95). -/
def dropGrid (d : Dev) (c : Nat) : Dev :=
  putF (onCtx d c (fun x => { x with
    grid := none, built := none, frames := x.frames.map (fun f => { f with gridOk := false }) })) .ctx c 0x5E8 31 31 0

/-- What follows a change of a context's set in force from `old` (R116, R139, R247); `cfg` says that CTX_CFG is among what applies. -/
def afterCtxSet (d : Dev) (c : Nat) (old : Params) (cfg : Bool) : Dev :=
  let new := ctxParams d c
  let d1 := if gridChanged old new then dropGrid d c else d
  if flag (pw new 0) 0 || !cfg then d1
  else squashCtx (onCtx d1 c (fun x => { x with pendings := [] })) c

/-- A set of a context is refused: the staged copies are reloaded, config_refused is set and the source is raised (R48). -/
def refuseCtx (d : Dev) (c : Nat) : Dev :=
  report (stat (dropStaged d (unitBase .ctx c) 0x2000) .ctx c 0x14 0x200) (32 + c)

/-- The staged set of a context applies, or is refused whole (R47–R49). -/
def applyCtxSet (d : Dev) (c : Nat) : Dev :=
  if stagedIn d (unitBase .ctx c) 0x2000 = [] then d
  else if ctxSetOk d c (ctxCandidate d c) then
    afterCtxSet (applyStaged d (unitBase .ctx c) 0x2000) c (ctxParams d c) (decide (stagedIn d (unitBase .ctx c) 4 ≠ []))
  else refuseCtx d c

/-! ### View sets -/

/-- A view register of a set. -/
def vw (p : Params) (off : Nat) : Word := sGet (unitReset .view off) p off

/-- The view's registers in force. -/
def viewParams (d : Dev) (v : Nat) : Params :=
  (sSlice d.regs (unitBase .view v) 0x2000).map (fun p => (p.1 - unitBase .view v, p.2))

/-- The candidate set of a view. -/
def viewCandidate (d : Dev) (v : Nat) : Params :=
  ((stagedIn d (unitBase .view v) 0x2000).map (fun p => (p.1 - unitBase .view v, p.2))).foldl
    (fun p q => sPut (unitReset .view q.1) p q.1 q.2) (viewParams d v)

/-- Bytes of an output line of a format (spec/06_views_taps_convoys.md R185); `odd` lines of 4:2:0 carry the chroma. -/
def lineBytes (format outW : Nat) (odd : Bool) : Nat :=
  match format with
  | 1 => 2 * outW
  | 2 => 5 * outW / 2
  | 3 => if odd then 2 * outW else outW
  | 4 => outW
  | 5 => 5 * outW / 4
  | 6 => 2 * outW
  | 7 => 3 * outW
  | 8 => 4 * outW
  | 9 => 3 * outW
  | _ => 0

/-- A line slot of the staging ring, in bytes (R189). -/
def slotBytes (p : Params) : Nat := ceilDiv (lineBytes (fld (vw p 0) 23 16) (fld (vw p 0x18) 13 0) true) 64 * 64

/-- A format's constraint on the output size (R185). -/
def formatOk (format outW outH : Nat) : Bool :=
  decide (1 ≤ format) && decide (format ≤ 9) &&
  (!(decide (format = 1) || decide (format = 2)) || decide (outW % 2 = 0)) &&
  (!(decide (format = 3)) || (decide (outW % 2 = 0) && decide (outH % 2 = 0))) &&
  (!(decide (format = 5)) || decide (outW % 4 = 0))

/-- The pre-decimation factor of a scale register (R179). -/
def preOf (w : Word) : Nat := 2 ^ fld w 31 30

/-- A view's set breaks no limit against a context set (R179). -/
def viewSetOk (d : Dev) (v : Nat) (p cp : Params) : Bool :=
  let cfg := vw p 0
  let c := fld cfg 11 8
  let hs := vw p 0x0C
  let vs := vw p 0x10
  let cw := fld (vw p 8) 13 0
  let ch := fld (vw p 8) 29 16
  let ow := fld (vw p 0x18) 13 0
  let oh := fld (vw p 0x18) 29 16
  let f := fld cfg 23 16
  let stepOk := fun (w : Word) => decide (0x8000 ≤ fld w 20 0) && decide (fld w 20 0 ≤ 0x20000)
  let rgb := decide (f = 7) || decide (f = 8)
  let csc := flag (pw cp 0x5C4) 5
  let others := ((List.range 32).filter (fun o =>
    decide (o ≠ v) && getB d .view o 0 0 && decide (getF d .view o 0 11 8 = c))).length
  (!(flag cfg 0) || decide (others < 8)) &&
  decide (8 ≤ cw) && decide (4 ≤ ch) && decide (1 ≤ ow) && decide (ow ≤ 8192) && decide (1 ≤ oh) && decide (oh ≤ 8192) &&
  decide (fld (vw p 4) 13 0 + cw ≤ fld (pw cp 4) 13 0) && decide (fld (vw p 4) 29 16 + ch ≤ fld (pw cp 4) 29 16) &&
  decide (cw % preOf hs = 0) && decide (ch % preOf vs = 0) && stepOk hs && stepOk vs &&
  decide ((fld (vw p 0x14) 15 0 + (ow - 1) * fld hs 20 0) / 65536 ≤ cw / preOf hs - 1) &&
  decide ((fld (vw p 0x14) 31 16 + (oh - 1) * fld vs 20 0) / 65536 ≤ ch / preOf vs - 1) &&
  formatOk f ow oh &&
  !(rgb && (!csc || flag cfg 4)) && !(!rgb && csc && !(flag cfg 4)) &&
  decide (fld (vw p 0x24) 24 12 * 0x1000 + fld (vw p 0x24) 7 0 * slotBytes p ≤ panSize) &&
  decide (2 ≤ fld (vw p 0x24) 7 0)

/-- A view's set is refused: the staged copies are reloaded, refused is set and the source is raised (R179). -/
def refuseView (d : Dev) (v : Nat) : Dev :=
  report (stat (dropStaged d (unitBase .view v) 0x2000) .view v 0x30 2) (69 + v)

/-- The staged set of a view breaks no limit (R179). -/
def viewSetFits (d : Dev) (v : Nat) : Bool :=
  let p := viewCandidate d v
  viewSetOk d v p (ctxParams d (fld (vw p 0) 11 8))

/-- The staged set of a view applies, or is refused (R178, R179). -/
def applyViewSet (d : Dev) (v : Nat) : Dev :=
  if stagedIn d (unitBase .view v) 0x2000 = [] then d
  else if viewSetFits d v then applyStaged d (unitBase .view v) 0x2000 else refuseView d v

/-! ### Committed sets -/

/-- Epoch a is the same as epoch b or later (spec/04_colour_and_harvest.md R137). -/
def epochReached (a b : Nat) : Bool := decide ((a + 65536 - b) % 65536 < 32768)

/-- Insertion by a key, largest first, keeping the order of equal keys. -/
def insKey {α : Type} (k : α → Nat) (x : α) : List α → List α
  | [] => [x]
  | y :: t => if k y < k x then x :: y :: t else y :: insKey k x t

/-- The list ordered by a key, largest first, equal keys in their order. -/
def sortKey {α : Type} (k : α → Nat) (l : List α) : List α := l.foldl (fun a x => insKey k x a) []

/-- The armed sets of a context that are due at an epoch, in epoch order and then commit order (R141, R247). -/
def dueSets (d : Dev) (c epoch : Nat) : List (Nat × StagedSet) :=
  sortKey (fun q => (epoch + 65536 - q.2.epoch) % 65536)
    (sortKey (fun q => q.2.order) ((armedSets d).filter (fun q => decide (q.2.ctx = c) && epochReached epoch q.2.epoch))).reverse

/-- The set is freed without a squash. -/
def freeSet (d : Dev) (n h : Nat) : Dev :=
  onDrv d n (fun v => { v with armed := v.armed.filter (fun s => decide (s.handle ≠ h)) })

/-- The entries of a set that lie in an address range. -/
def entriesIn (s : StagedSet) (lo len : Nat) : List (Nat × Word) :=
  s.entries.filter (fun e => decide (lo ≤ e.1) && decide (e.1 < lo + len))

/-- The RWS bits of the register at an address, as a mask. -/
def rwsMask (a : Nat) : Word :=
  match unitAt a with
  | some (u, _, o) =>
    match findRow (unitRegs u) o with
    | some r => BitVec.ofNat 32 r.rws
    | none => 0
  | none => 0

/-- The views in whose block a set has entries. -/
def setViews (s : StagedSet) : List Nat :=
  (List.range 32).filter (fun v => decide (entriesIn s (unitBase .view v) 0x2000 ≠ []))

/-- The entries of a set for views that take staged values: a fenced view takes none (spec/12_register_access.md R368). -/
def viewEntries (d : Dev) (s : StagedSet) : List (Nat × Word) :=
  ((List.range 32).filter (fun v => !(fenced d .view v))).flatMap (fun v => entriesIn s (unitBase .view v) 0x2000)

/-- One due set applies at a frame start of its context, or is refused whole and squashed (R247). -/
def applyDueSet (d : Dev) (n : Nat) (s : StagedSet) : Dev :=
  let ce := (entriesIn s (unitBase .ctx s.ctx) 0x2000)
  let old := ctxParams d s.ctx
  let cand := ce.foldl (fun (p : Params) e =>
    let off := e.1 - unitBase .ctx s.ctx
    sPut (unitReset .ctx off) p off (mixBits (pw p off) e.2 (rwsMask e.1))) old
  let vs := (setViews s).filter (fun v => !(fenced d .view v))
  let staged := (viewEntries d s).foldl
    (fun d e => stage d e.1 (mixBits (stagedAt d e.1) e.2 (rwsMask e.1))) d
  if decide (ce ≠ []) && !(ctxSetOk d s.ctx cand) then squash (report (stat d .ctx s.ctx 0x14 0x200) (32 + s.ctx)) n s.handle
  else
    let badViews := vs.filter (fun v => !(viewSetOk d v (viewCandidate staged v) cand))
    if badViews ≠ [] then
      squash (badViews.foldl (fun d v => report (stat d .view v 0x30 2) (69 + v)) d) n s.handle
    else
      let d1 := ce.foldl (fun d e => wr d e.1 (mixBits (rd d e.1) e.2 (rwsMask e.1))) (freeSet staged n s.handle)
      if ce = [] then d1 else afterCtxSet d1 s.ctx old (ce.any (fun e => decide (e.1 = unitBase .ctx s.ctx)))

/-- The due sets of a context apply at a frame start, each that no earlier one squashed (R247). -/
def applyDueSets (d : Dev) (c epoch : Nat) : Dev :=
  (dueSets d c epoch).foldl (fun d q => if (armedSets d).contains q then applyDueSet d q.1 q.2 else d) d

/-- The due sets of a context are discarded and squashed (R16, R247). -/
def squashDueSets (d : Dev) (c epoch : Nat) : Dev := (dueSets d c epoch).foldl (fun d q => squash d q.1 q.2.handle) d

end Sys2Proof.Machine
end

