-- ==== Sys2Proof/Machine/Intake.lean ====
section
/-! DEFINITION. Contexts and their frames: counting, epochs, convoys, frame start and end, lines, concealment and the sluice
(spec/02_intake.md R45–R77; spec/04_colour_and_harvest.md R138–R143; spec/06_views_taps_convoys.md R198–R203). -/

namespace Sys2Proof.Machine

/-! ### Epochs -/

/-- A pending entry is added; of two with one target the later epoch is kept (R137, R139). The Bool says that one was replaced. -/
def addPending (l : List EpochEntry) (e : EpochEntry) : List EpochEntry × Bool :=
  match l.find? (fun x => decide (x.target = e.target)) with
  | none => (l ++ [e], false)
  | some x =>
    if epochReached e.epoch x.epoch then (l.filter (fun y => decide (y.target ≠ e.target)) ++ [e], true) else (l, true)

/-- The latency L in force; 0 acts as 1. -/
def epochLatency (d : Dev) (c : Nat) : Nat := max 1 (getF d .ctx c 0x700 2 0)

/-- An epoch write of a context completes: issued goes up and a pending entry targets f_o + L (R138, R139). -/
def epochWrite (e : Env) (d : Dev) (c : Nat) : Dev :=
  let issued := (getF d .ctx c 0x704 31 16 + 1) % 65536
  let entry : EpochEntry :=
    { epoch := issued, target := ((get d .ctx c 0x18).toNat + epochLatency d c) % 2 ^ 32, doneAt := e.cycles }
  let (l, rep) := addPending (vget d.ctxs c).pendings entry
  let d1 := onCtx (putF d .ctx c 0x704 31 16 issued) c (fun x => { x with pendings := l })
  if rep then stat d1 .ctx c 0x70C 8 else d1

/-- The guard of R140 over the pending entries, at a frame start of sequence f. -/
def guardPendings (late : Bool) (f lat window cycles : Nat) (l : List EpochEntry) : List EpochEntry × Bool :=
  l.foldl (fun (acc : List EpochEntry × Bool) x =>
    let amb := decide (x.target = (f + 2 ^ 32 - 1 + lat) % 2 ^ 32) && decide (cycles < x.doneAt + window)
    let x' := if amb then { x with ambiguous := true, target := if late then (f + lat) % 2 ^ 32 else x.target } else x
    let (m, r) := addPending acc.1 x'
    (m, acc.2 || r)) ([], false)

/-- The epoch of a counted frame (R140): the epoch, whether it is ambiguous, and the device after. -/
def assignEpoch (e : Env) (d : Dev) (c f : Nat) : Nat × Bool × Dev :=
  let cfg := get d .ctx c 0x700
  let (l, rep) := guardPendings (flag cfg 16) f (epochLatency d c) (fld cfg 15 8 * 5000) e.cycles (vget d.ctxs c).pendings
  let d1 := if rep then stat d .ctx c 0x70C 8 else d
  match l.find? (fun x => decide (x.target = f)) with
  | some x =>
    let d2 := putF (onCtx d1 c (fun q => { q with pendings := l.filter (fun y => decide (y.target ≠ f)) })) .ctx c 0x704 15 0 x.epoch
    (x.epoch, x.ambiguous, if x.ambiguous then stat d2 .ctx c 0x70C 4 else d2)
  | none => (getF d .ctx c 0x704 15 0, false, onCtx d1 c (fun q => { q with pendings := l }))

/-! ### Convoys -/

/-- The convoy period in units of 2^-24 ns (R198). -/
def convoyPeriod (d : Dev) : Nat := (get d .time 0 0x404).toNat * 2 ^ 24 + getF d .time 0 0x408 23 0

/-- The tick at or before a time in units of 2^-24 ns. -/
def convoyTick (d : Dev) (t : Int) : Int := (t - (get d .time 0 0x40C).toNat * 2 ^ 24) / max 1 (convoyPeriod d)

/-- The convoy ID of a tick (R199). -/
def convoyId (k : Int) : Nat := (k % 0xFFFFFFFF).toNat

/-- What R200 says of a frame start: no convoy, a tick, or a straggler. -/
inductive Convoy where
  | none
  | tick (k : Int)
  | straggler
deriving DecidableEq, Repr, Inhabited

/-- The context takes part in convoys: its window and the convoy unit are enabled (R200). -/
def convoyOn (d : Dev) (c : Nat) : Bool := getB d .ctx c 0x764 31 && getB d .time 0 0x400 0

/-- The tick to which a frame counted at time t (2^-30 ns) belongs, if to any (R200); a frame of an abandoned convoy belongs to none
(R203). -/
def frameTick (d : Dev) (c t : Nat) : Option Int :=
  if convoyOn d c && !(vget d.ctxs c).abandoned then
    let p := convoyPeriod d
    let phi : Int := (get d .time 0 0x40C).toNat * 2 ^ 24
    let x : Int := (t / 64 : Nat) - (get d .ctx c 0x760).toNat * 2 ^ 24
    let k : Int := (2 * (x - phi) + p) / (2 * max 1 p : Nat)
    let half : Int := min (getF d .ctx c 0x764 23 0 * 2 ^ 24) ((p / 2 ^ 25 - 1) * 2 ^ 24)
    if half < (x - (phi + k * p)).natAbs then none else some k
  else none

/-- The convoy of a frame start at time t of a context (R200, R201, R203). A context that takes no part in convoys has no straggler, the first
frame after an abandonment included: its due sets are squashed, and no more (DEDUCED, log 81). -/
def judgeConvoy (d : Dev) (c t : Nat) : Convoy :=
  if !(convoyOn d c) then .none
  else match frameTick d c t with
    | none => .straggler
    | some k => if (vget d.ctxs c).lastTick = some k then .straggler else .tick k

/-- The convoys are abandoned (R203). -/
def abandonConvoys (d : Dev) : Dev :=
  let d1 := (List.range 16).foldl (fun d c => onCtx d c (fun x => { x with abandoned := true, lastTick := none })) d
  report (stat d1 .time 0 0x414 2) 102

/-! ### Frames -/

/-- The frames of a context. -/
def framesOf (d : Dev) (c : Nat) : List Frame := (vget d.ctxs c).frames

/-- The open frame of a context. -/
def openFrame (d : Dev) (c : Nat) : Option Frame :=
  if (vget d.ctxs c).phase = .open then (framesOf d c).getLast? else none

/-- The last frame of a context changed. -/
def onLast (d : Dev) (c : Nat) (f : Frame → Frame) : Dev :=
  onCtx d c (fun x => { x with frames := x.frames.dropLast ++ (x.frames.getLast?.map f).toList })

/-- The frame of a sequence number changed. -/
def onFrame (d : Dev) (c seq : Nat) (f : Frame → Frame) : Dev :=
  onCtx d c (fun x => { x with frames := x.frames.map (fun y => if y.seq = seq then f y else y) })

/-- Rows complete in every exposure (R53, R71, R75). -/
def completeRows (f : Frame) : Nat :=
  match f.exps with
  | [] => 0
  | l :: t => t.foldl (fun a r => min a r.length) l.length

/-- The rows a frame's set expects. -/
def frameHeight (f : Frame) : Nat := fld (pw f.params 4) 29 16

/-- The samples of a line of the frame. -/
def frameWidth (f : Frame) : Nat := fld (pw f.params 4) 13 0

/-- Rows from which some exposure has an accepted row. -/
def touchedRows (f : Frame) : Nat := f.exps.foldl (fun a r => max a r.length) 0

/-- A frame's stripes: those begun in the ring so far. -/
def stripesBegun (f : Frame) : Nat :=
  if f.ended then ceilDiv (completeRows f) (stripeRows f.profile) else ceilDiv (touchedRows f) (stripeRows f.profile)

/-- The ring's stripe slots under a frame's profile and set (R150). -/
def ringSlots (d : Dev) (c profile : Nat) : Nat := getF d .ctx c 0x744 11 0 / 16 * 16 / stripeRows profile

/-- The stripes that hold a ring slot: begun and not released, over all frames (R151, R152). -/
def stripesHeld (d : Dev) (c : Nat) : Nat :=
  (framesOf d c).foldl (fun a f => if f.memfed then a + (stripesBegun f - f.released) else a) 0

/-- The source field of a manifest: tree, device, context, exposure, view (spec/00_scope.md). -/
def sourceOf (d : Dev) (ctx exposure view : Nat) : Nat :=
  getF d .glob 0 0x10 15 8 * 2 ^ 16 + getF d .glob 0 0x10 19 16 % 16 * 2 ^ 12 + ctx * 2 ^ 8 + exposure * 2 ^ 6 + view * 2

/-- The flag bits a packet of a frame carries: truncated, concealed, straggler, holdover (spec/09_caravan_link.md R275). -/
def frameFlags (f : Frame) : Nat :=
  bnat f.truncated + 2 * bnat (f.concealSeen || f.tableErr) + 4 * bnat f.straggler + 64 * bnat f.holdover

/-- The manifest of a packet of a frame. -/
def frameManifest (d : Dev) (c : Nat) (f : Frame) (ctype exposure view line length format : Nat) : Manifest :=
  { ctype := ctype, source := sourceOf d c exposure view, seq := f.seq, line := line, length := length, epoch := f.epoch,
    convoy := f.convoy, stamp := f.stamp, flags := frameFlags f, format := format }

/-- The embedded-data field f of a frame: its value when it could be read (R62); none where CTX_CFG.ed_enable is 0, which parses nothing
(R47). -/
def edField (p : Params) (lines : List (Nat × List Byte)) (f : Nat) : Option Nat :=
  let w := pw p (0x084 + 4 * f)
  if fld w 31 28 = 0 || !(flag (pw p 0) 13) then none
  else
    match lines.find? (fun q => decide (q.1 = fld w 27 26)) with
    | none => none
    | some (_, bs) =>
      let n := fld w 15 14 + 1
      if bs.length < fld w 25 16 + n then none
      else
        let raw := (bs.drop (fld w 25 16)).take n
        let v := if flag w 13 then leVal raw else beVal raw
        some (v / 2 ^ fld w 12 8 % 2 ^ (fld w 4 0 + 1))

/-- The embedded line without its packing bytes (CTX_ED_CFG.packing). -/
def edUnpack (packing : Nat) (bs : List Byte) : List Byte :=
  let drop := fun (k : Nat) => (bs.zipIdx.filter (fun q => decide (q.2 % k ≠ k - 1))).map Prod.fst
  if packing = 1 then drop 5 else if packing = 2 then drop 3 else bs

/-- Confirmation of a frame (R142): 0 not judged, 1 confirmed, 2 mismatch, 3 unconfirmed. -/
def confirmOf (p : Params) (lines : List (Nat × List Byte)) (epoch : Nat) : Nat :=
  let cfg := pw p 0x700
  let bit18 := flag cfg 18
  let bit19 := flag cfg 19
  if bit18 = false && bit19 = false then 0
  else
    let markF := (List.range 8).find? (fun f => decide (fld (pw p (0x084 + 4 * f)) 31 28 = 14))
    let markRes : List (Option Bool) :=
      if bit18 then
        match markF with
        | none => [none]
        | some f => [(edField p lines f).map (fun v => decide (v = epoch % 2 ^ (fld (pw p (0x084 + 4 * f)) 4 0 + 1)))]
      else []
    let expRes : List (Option Bool) :=
      if bit19 then
        ((List.range 4).filter (fun k => flag (pw p (0x710 + 8 * k)) 31)).map (fun k =>
          let w := pw p (0x710 + 8 * k)
          (edField p lines (fld w 26 24)).map (fun v =>
            decide (Nat.land (Nat.xor v (fld w 23 0)) (fld (pw p (0x714 + 8 * k)) 23 0) = 0)))
      else []
    let all := markRes ++ expRes
    if all.contains (some false) then 2
    else if all ≠ [] && all.all (fun r => decide (r = some true)) then 1 else 3

/-- The epoch mark of a frame: the lowest field with dest 0xE. -/
def markOf (p : Params) (lines : List (Nat × List Byte)) : Option Nat :=
  match (List.range 8).find? (fun f => decide (fld (pw p (0x084 + 4 * f)) 31 28 = 14)) with
  | none => none
  | some f => edField p lines f

/-- What the pipe needs to know of a frame. -/
def pipeIn (f : Frame) : PipeIn :=
  { params := f.params, copies := f.copies, scan := f.scan, profile := f.profile, width := frameWidth f, height := frameHeight f,
    epoch := f.epoch, grid := f.grid, lost := f.lost }

/-- The map reader goes on for a frame, with rows up to `limit` (R89): each finding sets its bits of CTX_MOS_STATUS, and a read that fails
is reported (R92). Where the pipe's fetch owner has no position, a read acts as one that failed, without a report (R504). -/
def readMap (d : Dev) (c seq : Nat) (limit : Nat) (hold last : Bool) : Dev :=
  match (framesOf d c).find? (fun f => decide (f.seq = seq)) with
  | none => d
  | some f =>
    if flag (pw f.params 0x140) 0 then
      let base := fld (pw f.params 0x144) 24 12 * 0x1000
      let served := ownerServed d (0x10 + f.pipe)
      let read := fun k => if served && !(lineBad d (base + 4 * k)) then some (memVal d 4 (panBase + base + 4 * k)) else none
      let s := mapScan read (frameWidth f) (frameHeight f) limit hold (mapCount f.params - f.scan.cursor) f.scan
      let found := s.found ++ (if last then List.replicate s.late 2 else [])
      let d1 := onFrame d c seq (fun f => { f with scan := { s with found := [], late := if last then 0 else s.late } })
      let d2 := found.foldl (fun d m => stat d .ctx c 0x164 m) d1
      if s.dead && !f.scan.dead then
        let d3 := stat d2 .ctx c 0x164 4
        if served then reportBanks d3 [(base + 4 * s.cursor) / 64 * 64] else d3
      else d2
    else d

/-- What a frame leaves when the pipe has processed its last item: the entries that a frame which ended normally still reads, its defect
counts, and its grid where it was not truncated (R89, R116, CTX_DPC_CNT). A frame with no accepted row leaves the counts of the frame before
(log 96). -/
def pipeDone (d : Dev) (c seq : Nat) : Dev :=
  match (framesOf d c).find? (fun f => decide (f.seq = seq)) with
  | none => d
  | some g =>
    let d0 := if g.truncated then d else readMap d c seq 0x4000 false true
    let f := ((framesOf d0 c).find? (fun f => decide (f.seq = seq))).getD g
    let (st, dy) := dpcCounts f.params f.scan (frameWidth f) (completeRows f) f.merged
    let d1 := put d0 .ctx c 0x148 (BitVec.ofNat 32 (dy * 2 ^ 16 + st))
    if f.truncated || !f.gridOk then d1 else onCtx d1 c (fun x => { x with built := some (f.seq, f.epoch) })

/-! ### The tap frames of a frame (spec/06_views_taps_convoys.md R193–R197) -/

/-- A register of tap channel c. -/
def tapReg (d : Dev) (c off : Nat) : Word := get d .tap 0 (c * 0x40 + off)

/-- The active bit of a channel's status. -/
def tapActive (d : Dev) (c : Nat) (b : Bool) : Dev := putF d .tap 0 (c * 0x40 + 0x10) 0 0 (bnat b)

/-- An event is reported in a channel's status. -/
def tapStat (d : Dev) (c mask : Nat) : Dev := stat d .tap 0 (c * 0x40 + 0x10) mask

/-- A tap packet joins the best-effort queue. -/
def tapPush (d : Dev) (p : Packet) : Dev := { d with tapQueue := d.tapQueue ++ [p] }

/-- The manifest of a packet of a channel for a frame (R196). -/
def tapMan (d : Dev) (c ctx : Nat) (f : Frame) (line length : Nat) : Manifest :=
  let cfg := tapReg d c 0
  let point := fld cfg 2 0
  let code := if point = 0 then (if 16 < f.widths.getD (fld cfg 13 12) 0 then 0x21 else 0x20)
    else if point ≤ 3 then 0x22 else if point = 4 then 0x23 else 0x24
  frameManifest d ctx f 0x44 (if point ≤ 1 then fld cfg 13 12 else 0) (c * 8 + point) line length code

/-- The channel's tap frame ends: its frame end packet is queued, truncated where it was cut (R194–R197). -/
def tapFrameEnd (d : Dev) (c ctx : Nat) (f : Frame) (cut : Bool) : Dev :=
  let man := tapMan d c ctx f 0xFFFF 0
  let man' := if cut && man.flags % 2 = 0 then { man with flags := man.flags + 1 } else man
  incWrap (tapPush (onTap d c (fun t => { t with frame := none })) { man := man' }) .tap 0 (c * 0x40 + 0x14) 15 0

/-- The channel is disarmed. -/
def tapOff (d : Dev) (c : Nat) : Dev := tapActive (onTap d c (fun t => { t with armed := false, active := false, stop := false })) c false

/-- The channel has finished its frame: one fewer to capture, disarmed after the last (R194). -/
def tapFrameDone (d : Dev) (c ctx : Nat) (f : Frame) : Dev :=
  let t := vget d.taps c
  let d1 := if t.lost then onTap d c (fun t => { t with frame := none, lost := false }) else tapFrameEnd d c ctx f false
  if t.left = 1 then tapOff (tapStat d1 c 2) c
  else onTap d1 c (fun t => { t with left := t.left - 1 })

/-- A channel's tap frame starts: its frame start packet is queued (R194, R196). -/
def tapFrameStart (d : Dev) (c ctx : Nat) (f : Frame) : Dev :=
  tapPush (onTap d c (fun t => { t with frame := some f.seq, lost := false, cands := t.cands.filter (fun k => decide (k ≠ f.seq)) }))
    { man := tapMan d c ctx f 0xFFFE 0 }

/-- In-line frames of a context that ended with no complete row, in turn: a channel that takes such a frame sends its start and its end, and no
row (R75, R194, R196). -/
def tapsEmpty (d : Dev) (ctx : Nat) : Dev :=
  (List.range 4).foldl (fun d c =>
    let seqs := if decide (fld (tapReg d c 0) 11 8 = ctx) then (vget d.taps c).cands else []
    seqs.foldl (fun d s =>
      let t := vget d.taps c
      match (framesOf d ctx).find? (fun f => decide (f.seq = s)) with
      | some f =>
        if t.active && !t.stop && decide (t.frame = none) && f.ended && !f.memfed && decide (completeRows f = 0) &&
          decide (t.cands.head? = some s)
        then tapFrameDone (tapFrameStart d c ctx f) c ctx f else d
      | none => d) d) d

/-- What every frame end or close updates (R60, R62, R63, R142, R143): CTX_LAST, CTX_ED_VAL, CTX_EPOCH_RESULT, the statuses and the frame
end event. A truncated frame sets no ed_missing (R63, R74). -/
def finishFrame (d : Dev) (c : Nat) : Dev :=
  match (framesOf d c).getLast? with
  | none => d
  | some f =>
    let p := f.params
    let lines := (vget d.ctxs c).embedded
    let vals := (List.range 8).map (fun k => edField p lines k)
    let conf := confirmOf p lines f.epoch
    let d1 := put d .ctx c 0x1C (BitVec.ofNat 32 (f.cause * 2 ^ 25 + min 255 f.concealed * 2 ^ 14 + completeRows f))
    let d2 := (List.range 8).foldl (fun d k => put d .ctx c (0xC0 + 4 * k)
      (match vals.getD k none with
       | some v => BitVec.ofNat 32 (2 ^ 31 + v)
       | none => 0)) d1
    let missing := (List.range 8).any (fun k => decide (fld (pw p (0x084 + 4 * k)) 31 28 ≠ 0) && decide (vals.getD k none = none))
    let d3 := if flag (pw p 0) 13 && missing && !f.truncated then stat d2 .ctx c 0x14 0x800 else d2
    let d4 := put d3 .ctx c 0x730 (BitVec.ofNat 32 (bnat (decide (conf ≠ 0)) * 2 ^ 31 + bnat (decide (conf = 1)) * 2 ^ 30
      + bnat (decide (conf = 2)) * 2 ^ 29 + bnat f.ambiguous * 2 ^ 28 + f.epoch))
    let d5 := if conf = 2 then report (stat d4 .ctx c 0x70C 1) (48 + c)
      else if conf = 3 then stat d4 .ctx c 0x70C 2 else d4
    let d6 := onLast (onCtx d5 c (fun x => { x with embedded := [], edTop := 0, edBottom := 0, endedVcs := [] })) c
      (fun f => { f with ended := true, confirm := conf, mark := markOf p lines })
    let d7 := if decide (completeRows f ≠ 0) && decide (f.items = completeRows f + delayRows f.profile) then pipeDone d6 c f.seq else d6
    raise (tapsEmpty (onCtx d7 c (fun x => { x with ringNext :=
      (if f.memfed then x.ringNext + ceilDiv (completeRows f) (stripeRows f.profile) else x.ringNext) })) c) (16 + c)

/-- The status bits of a close cause beside truncated (R72, R74). -/
def causeBit (cause : Nat) : Nat :=
  if cause = 2 then 0x40 else if cause = 3 then 0x80 else if cause = 6 then 0x100 else 0

/-- The sluice closes on the open frame of a context (R72, R74, R75); nothing where no frame is open. -/
def closeFrame (d : Dev) (c cause : Nat) : Dev :=
  match openFrame d c with
  | none => d
  | some _ =>
    let d1 := onLast (onCtx d c (fun x => { x with phase := .closed })) c (fun f => { f with truncated := true, cause := cause })
    let d2 := addSat (stat d1 .ctx c 0x14 (1 + causeBit cause)) .ctx c 0x20 15 0 1
    finishFrame (report d2 (16 + c)) c

/-- The open frame of a context ends normally (R60). -/
def endFrame (d : Dev) (c : Nat) : Dev :=
  match openFrame d c with
  | none => d
  | some _ => finishFrame (onCtx d c (fun x => { x with phase := .noFrame })) c

/-! ### Lines -/

/-- The codes that conceal a row: the previous row of the exposure at the same vertical phase, or black (R73). -/
def concealRow (f : Frame) (e : Nat) : ExpRow :=
  let rows := f.exps.getD e []
  let pv := (mosaicOf f.params).pv
  if pv ≤ rows.length then rows.getD (rows.length - pv) default
  else { bits := 0, codes := [], black := true }

/-- The ring stripe slots that a frame's next row of exposure e would begin (R152). -/
def beginsStripe (f : Frame) (e : Nat) : Bool :=
  let y := (f.exps.getD e []).length
  decide (y % stripeRows f.profile = 0) && decide (touchedRows f ≤ y)

/-- The pan offset of row y of exposure e of a frame in its context's ring (R150). -/
def ringOffset (d : Dev) (c : Nat) (f : Frame) (e y : Nat) : Nat :=
  let h := stripeRows f.profile
  let n := max 1 (ringSlots d c f.profile)
  let w := frameWidth f
  getF d .ctx c 0x740 24 12 * 0x1000 + ((f.firstSlot + y / h) % n * h + y % h) * slotSpan w f.widths f.exps.length +
    slotOffset w f.widths f.exps.length e

/-- A row enters the open frame of a context, exposure e: into Bank I, or into the ring where the context is memory-fed (R150, R152,
R504). -/
def acceptRow (d : Dev) (c e : Nat) (row : ExpRow) (payload : List Byte) (concealed : Bool) : Dev :=
  match openFrame d c with
  | none => d
  | some f =>
    let full := f.memfed && (!(ownerServed d (8 + fld (pw f.params 0) 6 4)) ||
      (beginsStripe f e && decide (ringSlots d c f.profile ≤ stripesHeld d c)))
    if full then closeFrame d c 2
    else
      let d1 := if f.memfed && payload ≠ [] then
          panWrite d (ringOffset d c f e ((f.exps.getD e []).length)) payload else d
      let d2 := onLast d1 c (fun f => { f with
        exps := lmod f.exps e (fun l => l ++ [row]),
        concealed := f.concealed + bnat concealed,
        concealSeen := f.concealSeen || concealed })
      if concealed then stat d2 .ctx c 0x14 2 else d2

/-- The conceal limit of a frame. -/
def concealLimit (f : Frame) : Nat := fld (pw f.params 0x0C) 7 0

/-- A row of exposure e is concealed, or closes the frame when the limit is passed (R54, R72). -/
def conceal (d : Dev) (c e : Nat) : Dev :=
  match openFrame d c with
  | none => d
  | some f => if concealLimit f < f.concealed + 1 then closeFrame d c 1 else acceptRow d c e (concealRow f e) [] true

/-- A line beyond what the frame expects (R55). -/
def extraLine (d : Dev) (c : Nat) : Dev := stat d .ctx c 0x14 0x20

/-- Rows missing in exposure e. -/
def missingIn (f : Frame) (e : Nat) : Nat := frameHeight f - (f.exps.getD e []).length

/-- All rows missing from a frame. -/
def missingRows (f : Frame) : Nat := sumTo f.exps.length (missingIn f)

/-- Conceals rows of exposure e until none is missing. -/
def concealAll (d : Dev) (c e : Nat) : Nat → Dev
  | 0 => d
  | n + 1 => concealAll (conceal d c e) c e n

/-- The frame end of a context whose channels have all ended (R46, R57): missing rows are concealed within the limit, or the frame closes
with cause 7. -/
def frameEndReached (d : Dev) (c : Nat) : Dev :=
  match openFrame d c with
  | none => d
  | some f =>
    if missingRows f = 0 then endFrame d c
    else if f.concealed + missingRows f ≤ concealLimit f then
      endFrame ((List.range f.exps.length).foldl (fun d e => concealAll d c e (missingIn f e)) d) c
    else closeFrame d c 7

/-! ### Frame start -/

/-- A frame of a context is dropped whole (R77): counted, its sets squashed. -/
def dropWhole (d : Dev) (c epoch bit : Nat) : Dev :=
  let d1 := addSat (if bit = 0 then d else stat d .ctx c 0x14 bit) .ctx c 0x20 31 16 1
  squashDueSets (report (onCtx d1 c (fun x => { x with phase := .dropped })) (16 + c)) c epoch

/-- The global curve is used: by the colour planes, or by an IR plane that is made (R119, R123). -/
def curveUsed (p : Params) : Bool := flag (pw p 0x550) 0 || (flag (pw p 0x120) 24 && flag (pw p 0x5E0) 16)

/-- The pan ranges of the tables that are copied whole (R67, R118, R120). -/
def tableRanges (p : Params) : List (Nat × Nat) :=
  let lin := pw p 0x100
  let luts := ((List.range 4).filter (fun e => decide (fld lin (2 * e + 1) (2 * e) = 2))).map (fun e => (lutBase p e, 0x4000))
  let curve := if curveUsed p then [(fld (pw p 0x550) 24 12 * 0x1000, 4100)] else []
  let oetf := if fld (pw p 0x5C4) 1 0 = 3 then [(fld (pw p 0x5C4) 24 12 * 0x1000, 2050)] else []
  luts ++ curve ++ oetf

/-- Some copied table whose failure has a fallback of R92 was unreadable. -/
def tableFailed (p : Params) (t : Tables) : Bool :=
  let lin := pw p 0x100
  (List.range (fld (pw p 0) 9 8 + 1)).any (fun e => decide (fld lin (2 * e + 1) (2 * e) = 2) && tabBad t (lutBase p e) 0x4000) ||
  (curveUsed p && tabBad t (fld (pw p 0x550) 24 12 * 0x1000) 4100) ||
  (decide (fld (pw p 0x5C4) 1 0 = 3) && tabBad t (fld (pw p 0x5C4) 24 12 * 0x1000) 2050)

/-- The LUTs, the curve and the OETF table of a frame are copied from the pan, or act as absent where they could not be read (R67, R92,
R112, R504). The copy is used from the frame's next item on; grid nodes read in error stay absent (R92). -/
def loadTables (d : Dev) (c seq : Nat) : Dev :=
  match (framesOf d c).find? (fun f => decide (f.seq = seq)) with
  | none => d
  | some f =>
    let rs := tableRanges f.params
    let served := ownerServed d (0x10 + f.pipe)
    let t := if served then copyTables d rs
      else { copyTables d [] with bad := rs.flatMap (fun r => (List.range (ceilDiv r.2 64 + 1)).map (fun i => (r.1 / 64 + i) * 64)) }
    let t1 := { t with lost := (tabFor f.copies f.items).lost }
    let d1 := onFrame d c seq (fun f => { f with
      copies := (f.items, t1) :: f.copies, tableErr := f.tableErr || tableFailed f.params t })
    let d2 := if tableFailed f.params t then stat d1 .ctx c 0x164 16 else d1
    if served then reportBanks d2 t.bad else d2

/-- The grid rows that shading reads when item i of a frame is processed (R95): rows j and j + 1 of the row that stands at stage 5, those
that the row before it had not read since the last copy. -/
def gridRowsDue (f : Frame) (i : Nat) : List Nat :=
  let y := i - 2
  let j := lscRow (frameHeight f) y
  let k := lscRow (frameHeight f) (y - 1)
  if i < 2 ∨ completeRows f ≤ y then []
  else if y = 0 ∨ (f.copies.headD (0, {})).1 = i then [j, j + 1]
  else [j, j + 1].filter (fun r => decide (r ≠ k) && decide (r ≠ k + 1))

/-- Shading reads its grid rows for item i of a frame, of every enabled class; a node read in error is absent until the next frame start
(R92, R95, R504). -/
def readGrid (d : Dev) (c seq i : Nat) : Dev :=
  match (framesOf d c).find? (fun f => decide (f.seq = seq)) with
  | none => d
  | some f =>
    let served := ownerServed d (0x10 + f.pipe)
    let ranges := (gridRowsDue f i).flatMap (fun r =>
      ((List.range 8).filter (fun k => flag (pw f.params 0x150) k)).map (fun k => (lscNodeAt f.params k 0 r, 130)))
    if ranges = [] then d
    else
      let t := copyTables d ranges
      let nodes := ranges.flatMap (fun r => (List.range 65).map (fun i => r.1 + 2 * i))
      let lost := nodes.filter (fun a => !served || tabBad t a 2)
      let d1 := onFrame d c seq (fun f => { f with copies := match f.copies with
        | q :: l => (q.1, { q.2 with cells := t.cells ++ q.2.cells, lost := lost ++ q.2.lost }) :: l
        | [] => [(i, { cells := t.cells, lost := lost })] })
      if lost = [] then d1
      else if served then reportBanks (stat d1 .ctx c 0x164 8) t.bad else stat d1 .ctx c 0x164 8

/-- The frames of a context that hold ring stripes and whose first stripe the pipe has not begun (R152). -/
def unbegun (d : Dev) (c : Nat) : List Frame :=
  (framesOf d c).filter (fun f => f.memfed && !f.begun && !(f.ended && decide (completeRows f = 0)))

/-- The frame start of frame f + 2 comes while the pipe has not begun the first stripe of frame f (R152). So does one that finds two such
frames behind a frame that was dropped whole, since the rule keeps a ring to two frames (DEDUCED, log 124). -/
def ringBehind (d : Dev) (c seq : Nat) : Bool :=
  (unbegun d c).any (fun g => decide ((g.seq + 2) % 2 ^ 32 = seq)) || decide (2 ≤ (unbegun d c).length)

/-- A frame of a context begins in its pipe: the armed tap channels of that context and pipe may take it
(spec/06_views_taps_convoys.md R194). -/
def tapsBegin (d : Dev) (c pipe seq : Nat) : Dev :=
  (List.range 4).foldl (fun d k =>
    let cfg := get d .tap 0 (k * 0x40)
    if (vget d.taps k).active && decide (fld cfg 11 8 = c) && decide (fld cfg 5 4 = pipe) then
      onTap d k (fun t => { t with cands := t.cands ++ [seq] })
    else d) d

/-- A frame of a context opens at a frame start (R52, R60, R150, R152). -/
def openNewFrame (d : Dev) (c : Nat) (f : Frame) : Dev :=
  let behind := f.memfed && ringBehind d c f.seq
  let d1 := onCtx d c (fun x => { x with phase := .open, frames := x.frames ++ [f] })
  let d2 := raise (putF d1 .ctx c 0x1C 31 31 1) c
  let d3 := if f.straggler then stat d2 .ctx c 0x14 4 else d2
  if behind then closeFrame d3 c 2 else if f.memfed then d3 else loadTables (tapsBegin d3 c f.pipe f.seq) c f.seq

/-- A frame start is counted for a context (R45, R47, R52, R58, R61, R77, R140, R200): the previous frame ends, the staged set applies,
the epoch and the convoy are assigned, due sets apply, and the frame opens or is dropped whole. -/
def ctxFrameStart (e : Env) (d : Dev) (c : Nat) : Dev :=
  let d0 := match openFrame d c with
    | some f => if missingRows f = 0 then endFrame d c else closeFrame d c 4
    | none => d
  let d1 := applyCtxSet d0 c
  if getB d1 .ctx c 0 0 = false then onCtx d1 c (fun x => { x with phase := .noFrame })
  else
    let seq := ((get d1 .ctx c 0x18).toNat + 1) % 2 ^ 32
    let d2 := put d1 .ctx c 0x18 (BitVec.ofNat 32 seq)
    let (epoch, amb, d3) := assignEpoch e d2 c seq
    let cv := judgeConvoy d3 c e.now
    let id := match cv with
      | .tick k => convoyId k
      | _ => 0xFFFFFFFF
    let wasAbandoned := (vget d3.ctxs c).abandoned
    let d3 := onHead d3 c (fun h => { h with policy := getF d3 .head 0 (c * 0x40) 25 24 })
    let d4 := onCtx (put d3 .ctx c 0x768 (BitVec.ofNat 32 id)) c (fun x => { x with
      abandoned := false, lastStart := some e.cycles,
      period := (match x.lastStart with
        | some l => some (e.cycles - l)
        | none => x.period),
      embedded := [], edTop := 0, edBottom := 0, endedVcs := [],
      lastTick := frameTick d3 c e.now })
    let cfg := get d4 .ctx c 0
    let strag := decide (cv = .straggler)
    let pipe := fld cfg 3 2
    if strag && flag cfg 12 then dropWhole d4 c epoch 8
    else if decide (e.mode = .idle) || e.sys.drain || fenced d4 .ctx c || fenced d4 .pipe pipe || headRefuses d4 c then
      dropWhole d4 c epoch 0
    else
      let d5 := if wasAbandoned then squashDueSets d4 c epoch else applyDueSets d4 c epoch
      let cfg := get d5 .ctx c 0
      openNewFrame d5 c
        { seq := seq, epoch := epoch, ambiguous := amb, convoy := id, straggler := strag, holdover := e.hold, stamp := e.now,
          profile := profileEff d5, emit := decide (e.mode = .run) || decide (e.mode = .degraded), pipe := fld cfg 3 2,
          memfed := flag cfg 1, params := ctxParams d5 c, exps := List.replicate (fld cfg 9 8 + 1) [],
          widths := expWidths d5 (fld cfg 6 4) c (fld cfg 9 8 + 1), firstSlot := (vget d5.ctxs c).ringNext }

/-- An orphan line of a context (R56): one frame is counted and dropped whole, once. Such a frame has no frame start, so it is judged against
no convoy window and belongs to no convoy; it is the first counted frame after an abandonment (R200, R203; DEDUCED, log 125). -/
def orphanLine (e : Env) (d : Dev) (c : Nat) : Dev :=
  let seq := ((get d .ctx c 0x18).toNat + 1) % 2 ^ 32
  let (epoch, _, d1) := assignEpoch e (put d .ctx c 0x18 (BitVec.ofNat 32 seq)) c seq
  let d2 := onCtx (put d1 .ctx c 0x768 0xFFFFFFFF#32) c (fun x => { x with abandoned := false, lastTick := none })
  onCtx (dropWhole d2 c epoch 0x10) c (fun x => { x with phase := .orphan })

/-- The port a context is bound to. -/
def ctxPort (d : Dev) (c : Nat) : Nat := getF d .ctx c 0 6 4

/-- The port receives: enabled, not in reset, not fenced, its domain on (R36, R40, R42). -/
def portLive (d : Dev) (p : Nat) : Bool :=
  getB d .csi p 0 0 && !(vget d.ports p).resetting && !(fenced d .csi p) && domainOn d (p + 1)

/-- A context of the port that takes part: enabled and bound to it. -/
def ctxOn (d : Dev) (p c : Nat) : Bool := getB d .ctx c 0 0 && decide (ctxPort d c = p)

/-- The contexts of a port with a valid image route on a channel (R45). -/
def ctxsOnVc (d : Dev) (p v : Nat) : List Nat :=
  (List.range 16).filter (fun c => ctxOn d p c && (routes d p).any (fun r =>
    r.valid && decide (r.ctx = c) && decide (r.vc = v) && (decide (r.role = 0) || decide (r.role = 2))))

/-- The channel carries exposure 0 of the context (R46). -/
def carriesExp0 (d : Dev) (p v c : Nat) : Bool :=
  (routes d p).any (fun r => r.valid && decide (r.ctx = c) && decide (r.vc = v) &&
    ((decide (r.role = 0) && decide (r.exposure = 0)) || decide (r.role = 2)))

/-- The channels that carry some exposure of the context (R46). -/
def exposureVcs (d : Dev) (p c : Nat) : List Nat :=
  ((routes d p).filter (fun r => r.valid && decide (r.ctx = c) && (decide (r.role = 0) || decide (r.role = 2)) &&
    (decide (r.role = 2) || decide (r.exposure ≤ getF d .ctx c 0 9 8)))).map Route.vc

/-- The port's account of a header (R39). -/
def headerSeen (d : Dev) (p : Nat) (h : Header) : Dev :=
  match h with
  | .good => d
  | .corrected => addSat (stat d .csi p 4 2) .csi p 8 15 0 1
  | .bad => addSat (stat d .csi p 4 4) .csi p 8 31 16 1

/-- A packet that matched no route entry (R38, R44). -/
def unrouted (d : Dev) (p : Nat) : Dev := addSat (stat d .csi p 4 0x10) .csi p 0xC 15 0 1

/-- A packet whose route entry names a context of another port, or one that is not enabled (R44). -/
def misroute (d : Dev) (p : Nat) : Dev := addSat (stat d .csi p 4 0x20) .csi p 0xC 15 0 1

/-- The channels the port decodes (CSI_CFG.vcx as latched, R42). -/
def vcSeen (d : Dev) (p v : Nat) : Bool := flag (vget d.ports p).latched 4 || decide (v < 4)

/-- Every context of a port closes its open frame (R40, R42). -/
def closePort (d : Dev) (p : Nat) : Dev :=
  (List.range 16).foldl (fun d c => if ctxPort d c = p then closeFrame d c 5 else d) d

end Sys2Proof.Machine
end

