-- ==== Sys2Proof/Machine/Views.lean ====
section
/-! DEFINITION. View engines: the frames they take, scaling, formats, staging and shedding (spec/06_views_taps_convoys.md R177–R192). -/

namespace Sys2Proof.Machine

/-! ### Scaling (R180–R184) -/

/-- One component of a back-end row as a view sees it: 0 luma or R', 1 Cb or G', 2 Cr or B'; the IR plane as luma with neutral chroma
(R106, R123). -/
def viewComp (irPlane irOn narrow : Bool) (comp : Nat) (p : Px) : Nat :=
  if irPlane then
    if comp = 0 then (if irOn then p.ir else if narrow then 4096 else 0) else 32768
  else if comp = 0 then p.a else if comp = 1 then p.b else p.c

/-- Pre-decimation (R180). -/
def preDec (vp : Params) (s : Nat → Nat → Nat) (m r : Nat) : Nat :=
  let kh := preOf (vw vp 0x0C)
  let kv := preOf (vw vp 0x10)
  let x0 := fld (vw vp 4) 13 0
  let y0 := fld (vw vp 4) 29 16
  rdivN (sumTo kv (fun j => sumTo kh (fun i => s (x0 + m * kh + i) (y0 + r * kv + j)))) (kh * kv)

/-- 1,024 × 64³ × K(n/64) of the Catmull–Rom kernel, doubled to stay whole (R183). -/
def kernel2 (n : Nat) : Int :=
  let x : Int := n
  if n ≤ 64 then 1024 * (3 * x ^ 3 - 5 * 64 * x ^ 2 + 2 * 64 ^ 3)
  else if n < 128 then 1024 * (-(x ^ 3) + 5 * 64 * x ^ 2 - 8 * 64 ^ 2 * x + 4 * 64 ^ 3)
  else 0

/-- round(1,024 × K(d/64)) for a distance d in 64ths (R183). -/
def kernelTap (n : Nat) : Int := rdiv (kernel2 n) (2 * 64 ^ 3)

/-- A built-in horizontal coefficient (R183). -/
def builtinH (phase t : Nat) : Int :=
  let tap := fun (t : Int) => kernelTap ((t - 3) * 64 - phase).natAbs
  if t = 2 ∨ t = 4 ∨ t = 5 then tap t
  else if t = 3 then 1024 - tap 2 - tap 4 - tap 5 else 0

/-- A built-in vertical coefficient (R183). -/
def builtinV (phase t : Nat) : Int :=
  let tap := fun (t : Int) => kernelTap ((t - 1) * 64 - phase).natAbs
  if t = 1 then 1024 - tap 0 - tap 2 - tap 3 else tap t

/-- The view uses the user table it copied (R183). -/
def userTable (vp : Params) (t : Tables) : Bool :=
  flag (vw vp 0x20) 31 && !(tabBad t (fld (vw vp 0x20) 24 12 * 0x1000) 1536)

/-- A horizontal coefficient in force. -/
def coefH (vp : Params) (t : Tables) (phase i : Nat) : Int :=
  if userTable vp t then sInt 16 (tabVal t 2 (fld (vw vp 0x20) 24 12 * 0x1000 + (phase * 8 + i) * 2)) else builtinH phase i

/-- A vertical coefficient in force. -/
def coefV (vp : Params) (t : Tables) (phase i : Nat) : Int :=
  if userTable vp t then sInt 16 (tabVal t 2 (fld (vw vp 0x20) 24 12 * 0x1000 + 1024 + (phase * 4 + i) * 2)) else builtinV phase i

/-- The position of an output column or line: integer part and phase (R181, R182). -/
def posOf (init step i : Nat) : Nat × Nat := ((init + i * step) / 65536, (init + i * step) / 1024 % 64)

/-- The horizontal filter (R181). -/
def filterH (vp : Params) (t : Tables) (s : Nat → Nat → Nat) (i r : Nat) : Nat :=
  let wd := fld (vw vp 8) 13 0 / preOf (vw vp 0x0C)
  let (n, ph) := posOf (fld (vw vp 0x14) 15 0) (fld (vw vp 0x0C) 20 0) i
  let sum := (List.range 8).foldl (fun (a : Int) k =>
    a + coefH vp t ph k * (preDec vp s (clampI ((n : Int) - 3 + k) 0 (wd - 1 : Int)).toNat r : Nat)) 0
  (clampI (rdiv sum 1024) 0 65535).toNat

/-- The vertical filter over hd effective rows (R182). -/
def filterV (vp : Params) (t : Tables) (hd : Nat) (s : Nat → Nat → Nat) (i j : Nat) : Nat :=
  let (n, ph) := posOf (fld (vw vp 0x14) 31 16) (fld (vw vp 0x10) 20 0) j
  let sum := (List.range 4).foldl (fun (a : Int) k =>
    a + coefV vp t ph k * (filterH vp t s i (clampI ((n : Int) - 1 + k) 0 (hd - 1 : Int)).toNat : Nat)) 0
  (clampI (rdiv sum 1024) 0 65535).toNat

/-- Chroma subsampled to even columns (R184). -/
def subsample (w : Nat) (c : Nat → Nat) (m : Nat) : Nat :=
  rdivN (c (2 * m - 1) + 2 * c (2 * m) + c (min (2 * m + 1) (w - 1))) 4

/-- A code in 8 bits (R185). -/
def to8 (v : Nat) : Nat := min 255 ((v + 128) / 256)

/-- A code in 10 bits (R185). -/
def to10 (v : Nat) : Nat := min 1023 ((v + 32) / 64)

/-- One byte. -/
def byteOf (v : Nat) : Byte := BitVec.ofNat 8 v

/-- The packed bytes of an output line from its three components, and those of the line before for 4:2:0 (R184, R185). -/
def packLine (format w j : Nat) (a b c b0 c0 : Nat → Nat) : List Byte :=
  let xs := List.range w
  let even := List.range (w / 2)
  match format with
  | 1 => even.flatMap (fun m => [byteOf (to8 (subsample w b m)), byteOf (to8 (a (2 * m))), byteOf (to8 (subsample w c m)),
      byteOf (to8 (a (2 * m + 1)))])
  | 2 => even.flatMap (fun m => leBytes 5 (to10 (subsample w b m) + to10 (a (2 * m)) * 2 ^ 10 + to10 (subsample w c m) * 2 ^ 20
      + to10 (a (2 * m + 1)) * 2 ^ 30))
  | 3 => xs.map (fun x => byteOf (to8 (a x))) ++
      (if j % 2 = 1 then even.flatMap (fun m =>
        [byteOf (to8 (rdivN (subsample w b0 m + subsample w b m) 2)), byteOf (to8 (rdivN (subsample w c0 m + subsample w c m) 2))])
       else [])
  | 4 => xs.map (fun x => byteOf (to8 (a x)))
  | 5 => (List.range (w / 4)).flatMap (fun m => leBytes 5 (to10 (a (4 * m)) + to10 (a (4 * m + 1)) * 2 ^ 10
      + to10 (a (4 * m + 2)) * 2 ^ 20 + to10 (a (4 * m + 3)) * 2 ^ 30))
  | 6 => xs.flatMap (fun x => leBytes 2 (a x))
  | 7 => xs.flatMap (fun x => [byteOf (to8 (a x)), byteOf (to8 (b x)), byteOf (to8 (c x))])
  | 8 => xs.flatMap (fun x => leBytes 4 (to10 (c x) + to10 (b x) * 2 ^ 10 + to10 (a x) * 2 ^ 20))
  | 9 => xs.flatMap (fun x => [byteOf (to8 (a x)), byteOf (to8 (b x)), byteOf (to8 (c x))])
  | _ => []

/-- The effective decimated rows of a frame for a view (R182). -/
def hdEff (vp : Params) (f : Frame) : Nat :=
  let kv := preOf (vw vp 0x10)
  let hd := fld (vw vp 8) 29 16 / kv
  if f.truncated then min hd ((completeRows f - fld (vw vp 4) 29 16) / kv) else hd

/-- Output line j of a view from the rows that have left the back end (R177–R185). -/
def viewLine (vp : Params) (t : Tables) (f : Frame) (j : Nat) : List Byte :=
  let cfg := vw vp 0
  let irOn := flag (pw f.params 0x120) 24
  let narrow := flag (pw f.params 0x5C4) 4
  let w := fld (vw vp 0x18) 13 0
  let hd := hdEff vp f
  let comp := fun k x y => viewComp (flag cfg 4) irOn narrow k (pxAt f.out x y)
  let at' := fun k j x => filterV vp t hd (comp k) x j
  packLine (fld cfg 23 16) w j (at' 0 j) (at' 1 j) (at' 2 j) (at' 1 (j - 1)) (at' 2 (j - 1))

/-- The input row that completes output line j (R187). -/
def lineNeeds (vp : Params) (f : Frame) (j : Nat) : Nat :=
  let need := fun j =>
    let n := (posOf (fld (vw vp 0x14) 31 16) (fld (vw vp 0x10) 20 0) j).1
    fld (vw vp 4) 29 16 + preOf (vw vp 0x10) * (min (n + 2) (hdEff vp f - 1) + 1) - 1
  if fld (vw vp 0) 23 16 = 3 ∧ j % 2 = 0 then max (need j) (need (j + 1)) else need j

/-- The view sends output line j: every line of its set, and of a truncated frame none where no decimated row was accepted whole (R182,
R187, R190). -/
def lineExists (vp : Params) (f : Frame) (j : Nat) : Bool :=
  decide (j < fld (vw vp 0x18) 29 16) && (!f.truncated || decide (0 < hdEff vp f))

/-! ### Frames of a view -/

/-- The view engine's domain is on and it is not fenced (R191, spec/16_power_and_modes.md). -/
def viewLive (d : Dev) (v : Nat) : Bool := !(fenced d .view v) && domainOn d (if v < 16 then 43 else 44)

/-- Views and the harvest emit in this mode (spec/02_intake.md R61). -/
def emits (m : Mode) : Bool := decide (m = .run) || decide (m = .degraded)

/-- The view takes a frame of this sequence and convoy (R186). -/
def viewTakes (vp : Params) (f : Frame) : Bool :=
  let dec := vw vp 0x1C
  let n := fld dec 3 0 + 1
  if flag dec 31 then decide (f.convoy ≠ 0xFFFFFFFF) && decide (f.convoy % n = fld dec 11 8)
  else decide (f.seq % n = fld dec 11 8)

/-- A packet joins a view's queue. -/
def viewPush (d : Dev) (v : Nat) (p : Packet) : Dev := onView d v (fun x => { x with queue := x.queue ++ [p] })

/-- The flag bits of a packet of a view: the frame's, and concealed where its coefficient copy failed (R183). -/
def viewMan (d : Dev) (v c : Nat) (f : Frame) (ctype line length format : Nat) : Manifest :=
  let m := frameManifest d c f ctype 0 v line length format
  if (vget d.views v).coefErr && !(f.concealSeen || f.tableErr) then { m with flags := m.flags + 2 } else m

/-- The view copies its user coefficient table; a copy that fails makes the built-in kernel stand in (R183). -/
def viewCopy (d : Dev) (v : Nat) : Dev :=
  let vp := viewParams d v
  let base := fld (vw vp 0x20) 24 12 * 0x1000
  let rng := if flag (vw vp 0x20) 31 then [(base, 1536)] else []
  let t := copyTables d rng
  let bad := decide (rng ≠ []) && tabBad t base 1536
  let d1 := onView d v (fun x => { x with coefs := t, coefErr := bad })
  if bad then reportBanks (stat d1 .view v 0x30 0x10) t.bad else d1

/-- The view opens a frame: its coefficient table is copied and the frame start packet queued (R178, R183, R188). -/
def viewOpen (d : Dev) (v c : Nat) (f : Frame) : Dev :=
  let vp := viewParams d v
  let d1 := onView (viewCopy d v) v (fun x => { x with
    frameOpen := true, ctx := c, seq := f.seq, line := 0, sent := 0, params := vp, cut := false })
  let d2 := put d1 .view v 0x3C (BitVec.ofNat 32 f.seq)
  viewPush (putF (putF d2 .view v 0x38 31 31 1) .view v 0x38 13 0 0) v
    { man := viewMan d2 v c f 0x41 0 0 (fld (vw vp 0) 23 16) }

/-- The view takes a frame of a context: its set in force names the context, and nothing keeps it from emitting (R186, R192). -/
def viewMay (m : Mode) (d : Dev) (v c : Nat) (f : Frame) : Bool :=
  let vp := viewParams d v
  flag (vw vp 0) 0 && decide (fld (vw vp 0) 11 8 = c) && emits m && viewLive d v && !(vget d.views v).shed && viewTakes vp f

/-- A view with no frame open meets a frame start of a context: its staged set applies or is refused, and it opens the frame `f` of that start
if it takes it; none where the frame was dropped whole. Where a set applies and no frame opens, the coefficient table is copied too (R178,
R183, R186). -/
def viewStart (m : Mode) (d : Dev) (v c : Nat) (f : Option Frame) : Dev :=
  let due := decide (stagedIn d (unitBase .view v) 0x2000 ≠ []) && decide (fld (vw (viewCandidate d v) 0) 11 8 = c)
  let applies := due && viewSetFits d v
  let d1 := if due then applyViewSet d v else d
  match f with
  | some f => if viewMay m d1 v c f then viewOpen d1 v c f else if applies then viewCopy d1 v else d1
  | none => if applies then viewCopy d1 v else d1

/-- The frame that a context has just counted, if it was not dropped whole: one that closed at its own start stands too (R152, R190). -/
def countedFrame (d : Dev) (c : Nat) : Option Frame :=
  let x := vget d.ctxs c
  match x.frames.getLast? with
  | none => none
  | some f => if (decide (x.phase = .open) || decide (x.phase = .closed)) && decide (f.seq = (get d .ctx c 0x18).toNat) then some f else none

/-- A frame start of a context reaches the views: a view with a frame still open keeps this one for afterwards, under the set it has
(R178). -/
def viewsFrameStart (m : Mode) (d : Dev) (c : Nat) : Dev :=
  if (vget d.ctxs c).phase = .noFrame then d
  else
    let f := countedFrame d c
    (List.range 32).foldl (fun d v =>
      let x := vget d.views v
      if x.frameOpen then
        (match f with
         | some f => if x.ctx = c then onView d v (fun x => { x with nexts := x.nexts ++ [f.seq] }) else d
         | none => d)
      else viewStart m d v c f) d

/-- The frames that a view kept for afterwards, in turn: the first that it takes begins, and the later ones stay kept (R178, R186). -/
def viewNexts (m : Mode) (d : Dev) (v c : Nat) : List Nat → Dev
  | [] => d
  | s :: rest =>
    let d1 := onView d v (fun x => { x with nexts := rest })
    match (framesOf d1 c).find? (fun g => decide (g.seq = s)) with
    | none => viewNexts m d1 v c rest
    | some g => if viewMay m d1 v c g then viewOpen d1 v c g else viewNexts m d1 v c rest

/-- The view's open frame ends: the frame end packet is queued, and the next frame kept for afterwards that the view takes begins (R186, R188,
R189). -/
def viewEnd (m : Mode) (d : Dev) (v : Nat) (f : Frame) (cut : Bool) : Dev :=
  let x := vget d.views v
  let man := viewMan d v x.ctx f 0x42 x.sent 0 (fld (vw x.params 0) 23 16)
  let man' := if cut && man.flags % 2 = 0 then { man with flags := man.flags + 1 } else man
  let d1 := viewPush d v { man := man' }
  let d2 := incWrap (if cut || f.truncated then stat d1 .view v 0x30 (8 + 4 * bnat cut) else d1) .view v 0x34 15 0
  viewNexts m (putF (onView d2 v (fun x => { x with frameOpen := false })) .view v 0x38 31 31 0) v x.ctx x.nexts

/-- The pipe has put out every row the frame will have (flush included). -/
def frameDone (f : Frame) : Bool :=
  f.ended && (decide (completeRows f = 0) || decide (f.items = completeRows f + delayRows f.profile))

/-- One complete output line of a view is written to staging, or the view cuts its frame (R187, R189); where no line is complete and none
can follow, the frame ends. -/
def viewStep (m : Mode) (d : Dev) (v : Nat) : Dev :=
  let x := vget d.views v
  if x.frameOpen && viewLive d v then
    match (framesOf d x.ctx).find? (fun f => decide (f.seq = x.seq)) with
    | none => d
    | some f =>
      if lineExists x.params f x.line then
        if lineNeeds x.params f x.line < f.out.length then
          let lines := fld (vw x.params 0x24) 7 0
          if x.used < lines && ownerServed d (0x18 + v / 8) then
            let bytes := viewLine x.params x.coefs f x.line
            let off := fld (vw x.params 0x24) 24 12 * 0x1000 + x.nextSlot % lines * slotBytes x.params
            let d1 := panWrite d off (bytes ++ List.replicate (slotBytes x.params - bytes.length) 0)
            let pkt : Packet := {
              man := viewMan d v x.ctx f 0x40 x.line (ceilDiv bytes.length 32) (fld (vw x.params 0) 23 16),
              inPan := some (off, bytes.length), kind := .viewLine v (x.nextSlot % lines) }
            let d2 := onView (viewPush d1 v pkt) v (fun x => { x with
              line := x.line + 1, sent := x.sent + 1, used := x.used + 1, nextSlot := x.nextSlot + 1 })
            let d3 := putF d2 .view v 0x38 13 0 (x.line + 1)
            if lineExists x.params f (x.line + 1) then d3 else viewEnd m d3 v f false
          else
            viewEnd m (report (addSat d .view v 0x34 31 16 1) (69 + v)) v f true
        else d
      else if f.ended then viewEnd m d v f false else d
  else d

/-! ### Shedding (R192) -/

/-- The views that shedding has not reached: enabled, unshed, of a priority below 7. -/
def shedable (d : Dev) : List Nat :=
  (List.range 32).filter (fun v => getB d .view v 0 0 && !(vget d.views v).shed && decide (getF d .view v 0 26 24 < 7))

/-- One shedding step: the unshed enabled views of the lowest priority present are shed (R192). -/
def shedStep (d : Dev) : Dev :=
  let vs := shedable d
  let low := (vs.map (fun v => getF d .view v 0 26 24)).foldl min 7
  let d1 := (vs.filter (fun v => decide (getF d .view v 0 26 24 = low))).foldl (fun d v =>
    putF (stat (onView d v (fun x => { x with shed := true })) .view v 0x30 1) .view v 0x38 30 30 1) d
  report (raise d1 46) 3

/-- Shedding ends: every shed view takes part again (R192). -/
def unshed (d : Dev) : Dev :=
  (List.range 32).foldl (fun d v =>
    if (vget d.views v).shed then putF (onView d v (fun x => { x with shed := false })) .view v 0x38 30 30 0 else d) d

end Sys2Proof.Machine
end

