-- ==== Sys2Proof/Machine/Harvest.lean ====
section
/-! DEFINITION. The harvest: a frame's statistics, its record and the record's slots (spec/04_colour_and_harvest.md R126–R136). -/

namespace Sys2Proof.Machine

/-- The histogram bin of a value (R127). -/
def histBin (p : Params) (v : Nat) : Nat :=
  let w := pw p 0x608
  min 255 ((l2 v - fld w 12 0) / 2 ^ min 5 (fld w 18 16))

/-- The values of the sites of one channel, row by row. -/
def chanValues (m : Mosaic) (im : Img) (k : Nat) : List Nat :=
  ((im.zipIdx).map (fun (q : List Nat × Nat) =>
    ((q.1.zipIdx).filter (fun (s : Nat × Nat) => decide (chanAt m s.2 q.2 = k))).map Prod.fst)).flatten

/-- A sum and count of one channel in a zone: sites at or above clip left out, and nothing more taken once the count is full (R128). The
Bool says that the count was full. -/
def zoneSum (clip : Nat) (vs : List Nat) : Nat × Nat × Bool :=
  vs.foldl (fun (a : Nat × Nat × Bool) v =>
    if clip ≤ v then a else if a.2.1 = 65535 then (a.1, a.2.1, true) else (a.1 + v, a.2.1 + 1, a.2.2)) (0, 0, false)

/-- The X channel of the zone grid: C, or Y, or none (R128). -/
def xChan (m : Mosaic) : Option Nat := if hasChan m 3 then some 3 else if hasChan m 5 then some 5 else none

/-- The code of the reference channel of grey-world (R129, R132): G, else X; a free value where the mosaic has neither. -/
def refCode (m : Mosaic) (seq : Nat) : Byte :=
  if hasChan m 1 then 1
  else match xChan m with
    | some k => BitVec.ofNat 8 k
    | none => Config.noRefCode seq

/-- One zone of the zone grid: sums and counts of R, G, B, X (R128). -/
structure Zone where
  sums   : List Nat
  counts : List Nat
  full   : Bool
deriving DecidableEq, Repr, Inhabited

/-- Zone (i, j) of a shaded image of h accepted rows (R115, R128). -/
def zoneAt (p : Params) (w height h i j : Nat) (im : Img) : Zone :=
  let m := mosaicOf p
  let clip := fld (pw p 0x60C) 23 0
  let xs := (List.range w).filter (fun x => decide (i * w / 32 ≤ x) && decide (x < (i + 1) * w / 32))
  let ys := (List.range h).filter (fun y => decide (j * height / 24 ≤ y) && decide (y < (j + 1) * height / 24))
  let vals := fun (k : Option Nat) =>
    match k with
    | none => []
    | some k => ys.flatMap (fun (y : Nat) => (xs.filter (fun (x : Nat) => decide (chanAt m x y = k))).map (fun x => imgAt im x y))
  let zs := [some 0, some 1, some 2, xChan m].map (fun k => zoneSum clip (vals k))
  { sums := zs.map (fun z => z.1), counts := zs.map (fun z => z.2.1), full := zs.any (fun z => z.2.2) }

/-- The place of the reference channel in a zone's lists. -/
def refPlace (m : Mosaic) : Nat := if hasChan m 1 then 1 else 3

/-- A zone is grey, with its means of R, ref and B (R129). -/
def greyZone (p : Params) (z : Zone) : Option (Nat × Nat × Nat) :=
  let r := refPlace (mosaicOf p)
  let cnt := fun k => z.counts.getD k 0
  let minc := fld (pw p 0x618) 15 0
  if cnt 0 = 0 ∨ cnt r = 0 ∨ cnt 2 = 0 then none
  else
    let mean := fun k => rdivN (z.sums.getD k 0) (cnt k)
    if mean r = 0 then none
    else
      let rg := rdivN (4096 * mean 0) (mean r)
      let bg := rdivN (4096 * mean 2) (mean r)
      let g0 := pw p 0x610
      let g1 := pw p 0x614
      if minc ≤ cnt 0 ∧ minc ≤ cnt r ∧ minc ≤ cnt 2 ∧ fld g0 15 0 ≤ rg ∧ rg ≤ fld g0 31 16 ∧ fld g1 15 0 ≤ bg ∧ bg ≤ fld g1 31 16
      then some (mean 0, mean r, mean 2) else none

/-- A sharpness window: sum and pixels counted (R130), over the luma of stage 12. -/
def sharpness (p : Params) (w h : Nat) (im : List (List Px)) (k : Nat) : Nat × Nat :=
  let a := pw p (0x620 + 8 * k)
  let b := pw p (0x624 + 8 * k)
  let csc := flag (pw p 0x5C4) 5
  let y := fun x r => if csc then (pxAt im x r).b else (pxAt im x r).a
  let core := fld (pw p 0x61C) 15 0
  let xs := (List.range w).filter (fun x => decide (fld a 13 0 ≤ x) && decide (x ≤ fld b 13 0) && decide (0 < x) && decide (x + 1 < w))
  let ys := (List.range h).filter (fun r => decide (fld a 29 16 ≤ r) && decide (r ≤ fld b 29 16) && decide (0 < r) && decide (r + 1 < h))
  let hs := ys.flatMap (fun r => xs.map (fun x =>
    dist (2 * y x r) (y (x - 1) r + y (x + 1) r) + dist (2 * y x r) (y x (r - 1) + y x (r + 1))))
  ((hs.filter (fun v => decide (core ≤ v))).foldl (· + ·) 0, hs.length)

/-- The IR ratio (R131). -/
def irRatio (irSum irCnt gSum gCnt : Nat) : Nat :=
  if irCnt = 0 ∨ gCnt = 0 then 0
  else if gSum = 0 then (if irSum = 0 then 0 else 65535)
  else min 65535 (rdivN (4096 * irSum * gCnt) (gSum * irCnt))

/-- The bytes of a record (R132), its header with the seal given. -/
def harvestRecord (f : Frame) (sealed : Nat) : List Byte :=
  let p := f.params
  let m := mosaicOf p
  let h := completeRows f
  let w := frameWidth f
  let merged := f.merged
  let shaded := shadedRows (pipeIn f) h merged
  let guide := chanValues m merged (guideOf p)
  let ir := chanValues m merged 4
  let bins := guide.map (histBin p)
  let zones := (List.range 768).map (fun k => zoneAt p w (frameHeight f) h (k % 32) (k / 32) shaded)
  let greys := zones.filterMap (greyZone p)
  let sum := fun (l : List Nat) => l.foldl (· + ·) 0
  let flags := bnat f.truncated + 2 * bnat (f.concealSeen || f.tableErr) + 4 * bnat f.truncated + 8 * bnat f.straggler
    + 16 * bnat (decide (f.confirm = 1)) + 32 * bnat (decide (f.confirm = 2)) + 64 * bnat f.ambiguous
    + 128 * bnat (zones.any Zone.full)
  let header := leBytes 4 f.seq ++ leBytes 2 f.epoch ++ leBytes 1 flags ++ leBytes 1 sealed ++ leBytes 2 h
    ++ leBytes 2 (frameHeight f) ++ leBytes 4 f.convoy
    ++ leBytes 4 (match f.mark with
        | some v => 2 ^ 31 + v
        | none => 0)
    ++ leBytes 2 (fld (pw p 0x608) 12 0) ++ leBytes 1 (fld (pw p 0x608) 18 16) ++ leBytes 1 (guideOf p)
    ++ leBytes 4 guide.length ++ leBytes 4 0
  let hist := (List.range 256).flatMap (fun b => leBytes 4 (bins.count b))
  let grey := leBytes 6 (sum (greys.map (fun g => g.1))) ++ leBytes 6 (sum (greys.map (fun g => g.2.1)))
    ++ leBytes 6 (sum (greys.map (fun g => g.2.2))) ++ leBytes 2 greys.length ++ [refCode m f.seq] ++ leBytes 11 0
  let irb := leBytes 8 (sum ir) ++ leBytes 4 ir.length ++ leBytes 8 (sum guide) ++ leBytes 4 guide.length
    ++ leBytes 2 (irRatio (sum ir) ir.length (sum guide) guide.length) ++ leBytes 6 0
  let sharp := (List.range 8).flatMap (fun k =>
    let s := sharpness p w h f.luma k
    leBytes 8 s.1 ++ leBytes 4 s.2 ++ leBytes 4 0)
  let zoneBytes := zones.flatMap (fun z => z.sums.flatMap (leBytes 6) ++ z.counts.flatMap (leBytes 2))
  header ++ hist ++ grey ++ irb ++ sharp ++ zoneBytes

/-- The pan offset of a frame's record slot (R133). -/
def recordOffset (p : Params) (seq : Nat) : Nat := fld (pw p 0x604) 24 16 * 0x10000 + seq % 2 * 0x8000

/-- The harvest may produce records: its domain on, not fenced, the mode one in which it emits (R61, R136). -/
def harvestLive (m : Mode) (d : Dev) : Bool := emits m && domainOn d 45 && !(fenced d .harv 0)

/-- A frame whose last accepted row has left stage 12 (R133). -/
def recordDue (f : Frame) : Bool :=
  f.ended && !f.harvested && decide (completeRows f + delayStage11 f.profile ≤ f.items ∨ completeRows f = 0)

/-- The frames of a context that the pipe, the harvest and the views are done with leave the state. -/
def pruneFrames (d : Dev) (c : Nat) : Dev :=
  onCtx d c (fun x => { x with frames := x.frames.filter (fun f =>
    !(frameDone f && f.harvested && (List.range 32).all (fun v =>
      let y := vget d.views v
      !((decide (y.ctx = c)) && ((y.frameOpen && decide (y.seq = f.seq)) || y.nexts.contains f.seq))))) })

/-- The harvest's manifest flags from a frame (R134, R275). -/
def harvestFlags (f : Frame) : Nat := frameFlags f + 8 * bnat f.truncated

/-- The record of a context's oldest due frame is written, its header with the seal open, its blocks, and its header sealed; then the doorbell
is rung and the packet queued; or it is discarded (R133–R136, R504). A record that would go neither to the pan nor to the trunk counts as dropped
too while its slot is busy (DESIGN CHOICE, log 135). -/
def harvestWrite (m : Mode) (d : Dev) (c : Nat) : Dev :=
  match (framesOf d c).find? recordDue with
  | none => d
  | some f =>
    let cfg := pw f.params 0x600
    let done := onFrame d c f.seq (fun g => { g with harvested := true })
    if flag cfg 0 = false || harvestLive m d = false || f.emit = false then pruneFrames done c
    else if (vget d.ctxs c).harvBusy.contains (f.seq % 2) || !(ownerServed d 2) then
      pruneFrames (addSat (stat done .harv 0 0 1) .harv 0 4 15 0 1) c
    else if flag cfg 1 = false && flag cfg 2 = false then pruneFrames done c
    else
      let off := recordOffset f.params f.seq
      let rec0 := harvestRecord f 0
      let d1 := panWrite (panWrite (panWrite done off ((harvestRecord f 1).take 32)) (off + 32) (rec0.drop 32)) off (rec0.take 32)
      let bell := fld cfg 13 8
      let d2 := if flag cfg 2 && decide (47 ≤ bell) then raise d1 bell else d1
      let man : Manifest := { frameManifest d c f 0x43 0 0 0 807 0 with flags := harvestFlags f }
      let d3 := if flag cfg 1 then
          onCtx { d2 with bestEff := d2.bestEff ++ [{ man := man, inPan := some (off, 25824), kind := .harvest c (f.seq % 2) (flag cfg 2) }] } c
            (fun x => { x with harvBusy := x.harvBusy ++ [f.seq % 2] })
        else d2
      pruneFrames d3 c

end Sys2Proof.Machine
end

