-- ==== Sys2Proof/Machine/Taps.lean ====
section
/-! DEFINITION. Brine taps: arming, the rows they copy, their frames and their stop (spec/06_views_taps_convoys.md R193–R197). -/

namespace Sys2Proof.Machine

/-- Taps operate in this mode (spec/01_architecture.md R32). -/
def tapMode (m : Mode) : Bool := decide (m = .ready) || decide (m = .diag) || decide (m = .rescue)

/-- An arm of channel c by a write: armed, or refused (R194). -/
def tapArm (m : Mode) (d : Dev) (c : Nat) (x : Access) : Dev :=
  let cfg := tapReg d c 0
  let buf := tapReg d c 8
  let point := fld cfg 2 0
  let bad := !(tapMode m) || decide (5 < point) ||
    (decide (point ≤ 1) && decide (getF d .ctx (fld cfg 11 8) 0 9 8 < fld cfg 13 12)) ||
    decide (fld buf 8 0 = 0) || decide (panSize < (fld buf 24 12 + fld buf 8 0) * 0x1000)
  if bad then reportAcc (tapStat d c 4) 101 x.master x.kind x.addr
  else tapActive (onTap d c (fun t => { t with
    armed := true, active := true, frame := none, left := fld cfg 23 16, lost := false, stop := false, modeStop := false, cands := [] })) c true

/-- A channel asked to stop: at once where it has no frame, else at its next row boundary (R194, R197). -/
def tapStop (d : Dev) (c : Nat) (modeStop : Bool) : Dev :=
  let t := vget d.taps c
  if t.active then
    let d1 := if modeStop then tapStat d c 0x10 else d
    match t.frame with
    | none => tapOff d1 c
    | some _ => onTap d1 c (fun t => { t with stop := true })
  else d

/-- Every active channel stops because the mode no longer allows taps (R197). -/
def tapModeStop (d : Dev) : Dev := (List.range 4).foldl (fun d c => tapStop d c true) d

/-- Rows of delay of a tap point behind the row that enters the pipe. -/
def tapDelay (profile point : Nat) : Nat :=
  if point ≤ 2 then 0 else if point = 3 then delayStage8 profile
  else if point = 4 then delayStage11 profile else delayRows profile

/-- The bytes of a tapped row (R193); the samples of T0 have the width of the exposure's route. R73 gives a row concealed to black no codes:
T0 sends code 0 for it (DESIGN CHOICE, log 131). -/
def tapBytes (cfg : Word) (f : Frame) (n r : Nat) : List Byte :=
  let point := fld cfg 2 0
  let e := fld cfg 13 12
  let row := (f.exps.getD e []).getD r default
  let merged := f.merged.take n
  let w := frameWidth f
  if point = 0 then
    let k := if 16 < f.widths.getD e 0 then 3 else 2
    (List.range w).flatMap (fun x => leBytes k (row.codes.getD x 0))
  else if point = 1 then (stageRow f.params (tabFor f.copies r) e r w row).flatMap (leBytes 3)
  else if point = 2 then (merged.getD r []).flatMap (leBytes 3)
  else if point = 3 then ((rawRows (pipeIn f) n merged).getD r []).flatMap (leBytes 3)
  else if point = 4 then
    ((planeRows (pipeIn f) n merged).getD r []).flatMap (fun v =>
      ([(24, v.r), (25, v.g), (26, v.b), (27, v.c), (28, v.ir)].filter (fun q => flag cfg q.1)).flatMap (fun q => leBytes 3 q.2))
  else (f.out.getD r []).flatMap (fun v => leBytes 2 v.a ++ leBytes 2 v.b ++ leBytes 2 v.c)

/-- The offset in its buffer, of `len` bytes at pan offset `base`, at which a row of `size` bytes goes: after the last, or at the base where
the end is too near; none where it would reach a row that has not been sent (R195). -/
def tapPlace (t : Tap) (base len size : Nat) : Option Nat :=
  let o := if len < t.next + size then 0 else t.next
  if size ≤ len && t.rows.all (fun r => decide (base + o + size ≤ r.1) || decide (r.1 + r.2 ≤ base + o)) then some o else none

/-- One row of a frame reaches a channel's tap point: copied to the buffer, or the tap frame is cut for want of space (R195, R504). -/
def tapRow (d : Dev) (c ctx : Nat) (f : Frame) (n r : Nat) : Dev :=
  let t := vget d.taps c
  let rows := tapReg d c 4
  if fld rows 13 0 ≤ r ∧ r ≤ fld rows 29 16 then
    if t.lost then addSat d .tap 0 (c * 0x40 + 0x14) 31 16 1 else
    let buf := tapReg d c 8
    let bytes := tapBytes (tapReg d c 0) f n r
    let size := ceilDiv bytes.length 64 * 64
    match (if ownerServed d 3 then tapPlace t (fld buf 24 12 * 0x1000) (fld buf 8 0 * 0x1000) size else none) with
    | some o =>
      let off := fld buf 24 12 * 0x1000 + o
      let d1 := onTap (panWrite d off bytes) c (fun t => { t with rows := t.rows ++ [(off, size)], next := o + size })
      tapPush d1 { man := tapMan d c ctx f r (ceilDiv bytes.length 32), inPan := some (off, bytes.length), kind := .tapRow c size }
    | none =>
      let d1 := report (addSat (tapStat d c 8) .tap 0 (c * 0x40 + 0x14) 31 16 1) 101
      onTap (tapFrameEnd d1 c ctx f true) c (fun t => { t with lost := true, frame := some f.seq })
  else d

/-- The channels at a row boundary of a frame's pipe: item i of the frame (rows first, then flush rows) with n rows so far (R194–R197). -/
def tapsAtItem (d : Dev) (ctx : Nat) (f : Frame) (n i : Nat) : Dev :=
  (List.range 4).foldl (fun d c =>
    let t := vget d.taps c
    let cfg := tapReg d c 0
    if t.active && decide (fld cfg 11 8 = ctx) && decide (fld cfg 5 4 = f.pipe) then
      if t.stop then
        (match t.frame with
         | some _ => tapOff (if t.lost then d else tapFrameEnd d c ctx f true) c
         | none => tapOff d c)
      else
        let d1 := if decide (i = 0) && decide (t.frame = none) && t.cands.contains f.seq then
            tapFrameStart d c ctx f
          else d
        if (vget d1.taps c).frame = some f.seq then
          let dl := tapDelay f.profile (fld cfg 2 0)
          let r := i - dl
          let d2 := if dl ≤ i ∧ r < n then tapRow d1 c ctx f n r else d1
          let last := (f.ended || decide (frameHeight f ≤ completeRows f)) && decide (i + 1 = completeRows f + delayRows f.profile)
          if last then tapsEmpty (tapFrameDone d2 c ctx f) ctx else d2
        else d1
    else d) d

end Sys2Proof.Machine
end

