-- ==== Sys2Proof/Machine/Pipes.lean ====
section
/-! DEFINITION. Pipes: rows, stripes, timetable slots, run-ahead, swaps and waystations (spec/05_pipe_sharing.md R146–R168). -/

namespace Sys2Proof.Machine

/-! ### Rows -/

/-- Rows of a frame that have entered or may enter the pipe when item i is processed. -/
def rowsAtItem (f : Frame) (i : Nat) : Nat := min (completeRows f) (i + 1)

/-- A complete grid comes into use as the first row of the context's next counted frame reaches stage 11 (spec/04_colour_and_harvest.md
R116): the grid under construction starts anew. A grid that waits stays for the frame after where the next counted frame is dropped whole
(DESIGN CHOICE, log 101). -/
def takeGrid (d : Dev) (c seq : Nat) : Dev :=
  let x := vget d.ctxs c
  let g := match x.built with
    | some (s, e) => some { z := zoneValues x.sums, seq := s, epoch := e }
    | none => x.grid
  let d1 := onFrame (onCtx d c (fun x => { x with grid := g, sums := [], built := none })) c seq (fun f => { f with grid := g })
  match g with
  | none => d1
  | some g => put (put d1 .ctx c 0x5E4 (BitVec.ofNat 32 g.seq)) .ctx c 0x5E8 (BitVec.ofNat 32 (2 ^ 31 + g.epoch))

/-- The map reader's part of item i of a frame (R89): entries of the rows so far; after a truncated frame's last row nothing more is read. -/
def mapAtItem (d : Dev) (c : Nat) (f : Frame) (i : Nat) : Dev :=
  let rows := completeRows f
  if i < rows then readMap d c f.seq i f.truncated false
  else if f.ended && !f.truncated then readMap d c f.seq 0x4000 false true
  else d

/-- What row processing adds to a frame's record at item i: the merged row, the row that leaves stage 12 and the row that leaves the back end
(R12, R71, R126, R147). With every stage on, a row that has not entered yet is taken as below the frame's bottom (DESIGN CHOICE, log 102). -/
def itemRows (f : Frame) (i : Nat) : Frame :=
  let t := tabFor f.copies i
  let f1 := if i < completeRows f then
      { f with merged := f.merged ++ [mergeRow f.params t (frameWidth f) i (f.exps.map (fun l => l.getD i default))] }
    else f
  let dl := delayRows f.profile
  let ds := delayStage11 f.profile
  let luma := if ds ≤ i ∧ i - ds < completeRows f then [(stage12Rows (pipeIn f1) (rowsAtItem f i) f1.merged).getD (i - ds) []] else []
  let out := if dl ≤ i then [(backRows (pipeIn f1) (rowsAtItem f i) f1.merged).getD (i - dl) []] else []
  { f1 with items := i + 1, begun := true, luma := f1.luma ++ luma, out := f1.out ++ out }

/-- The row that reaches stage 11 at item i enters the grid under construction (R115). -/
def gridAtItem (d : Dev) (c : Nat) (f : Frame) (i : Nat) : Dev :=
  let dl := delayStage11 f.profile
  if i < dl ∨ completeRows f ≤ i - dl then d
  else
    let row := (planeRows (pipeIn f) (rowsAtItem f i) f.merged).getD (i - dl) []
    onCtx d c (fun x => { x with sums := addZones f.params (frameWidth f) (frameHeight f) (i - dl) row x.sums })

/-- The ring stripe whose last row is item i has been fetched: its slot is released (R151). -/
def releaseAt (f : Frame) (i : Nat) : Frame :=
  let h := stripeRows f.profile
  if f.memfed && decide (i < completeRows f) &&
    (decide ((i + 1) % h = 0) || decide (i + 1 = frameHeight f) || (f.ended && decide (i + 1 = completeRows f)))
  then { f with released := f.released + 1 } else f

/-- Item i of a frame is processed: the map and the grid are read, the row enters, and the row D before it leaves the back end (R12, R85,
R95, R147, R151). -/
def finishItem (d : Dev) (c seq : Nat) : Dev :=
  match (framesOf d c).find? (fun f => decide (f.seq = seq)) with
  | none => d
  | some f =>
    let i := f.items
    let n := rowsAtItem f i
    let d1 := readGrid (mapAtItem d c f i) c seq i
    let d2 := if i = delayStage11 f.profile then takeGrid d1 c seq else d1
    match (framesOf d2 c).find? (fun f => decide (f.seq = seq)) with
    | none => d2
    | some f2 =>
      let f3 := releaseAt (itemRows f2 i) i
      let d3 := gridAtItem (onFrame d2 c seq (fun _ => f3)) c f3 i
      let d4 := tapsAtItem d3 c f3 n i
      if f3.ended && decide (f3.items = completeRows f3 + delayRows f3.profile) then pruneFrames (pipeDone d4 c seq) c else d4

/-! ### In-line work -/

/-- The items an in-line frame has ready (R148). -/
def readyItems (f : Frame) : Nat :=
  if f.ended then (if completeRows f = 0 then 0 else completeRows f + delayRows f.profile) else completeRows f

/-- The oldest in-line frame of a context on pipe p whose items are not all processed. -/
def oldestI (d : Dev) (p c : Nat) : Option Frame :=
  (framesOf d c).find? (fun f => !f.memfed && decide (f.pipe = p) && !(frameDone f))

/-- The context whose in-line frame has a row ready on pipe p, with the frame: the oldest such frame of the context (R148). -/
def inlineReady (d : Dev) (p : Nat) : Option (Nat × Nat) :=
  (List.range 16).findSome? (fun c =>
    match oldestI d p c with
    | some f => if f.items < readyItems f then some (c, f.seq) else none
    | none => none)

/-- The cost of a Bank M row in pipe clocks (R147). -/
def rowCost (w : Nat) : Nat := 128 + ceilDiv w 2

/-- A row of pipe p begins: an in-line row of context c. -/
def startInline (d : Dev) (p c : Nat) : Dev :=
  onPipe d p (fun x => { x with row := some { ctx := c, inline := true }, waiting := false })

/-- An in-line row has become ready: it starts at once, or waits for the end of the pixel phase in progress (R148). -/
def inlineRowReady (d : Dev) (p : Nat) (turnaround : Bool) : Dev :=
  match inlineReady d p with
  | none => d
  | some (c, _) =>
    let x := vget d.pipes p
    match x.row with
    | none => startInline d p c
    | some j =>
      if j.inline then d
      else if turnaround then startInline (onPipe d p (fun x => { x with suspended := true })) p c
      else onPipe d p (fun x => { x with waiting := true })

/-! ### Stripes -/

/-- The oldest frame of a memory-fed context whose items are not all processed. -/
def oldestM (d : Dev) (c : Nat) : Option Frame := (framesOf d c).find? (fun f => f.memfed && !(frameDone f))

/-- The item at which the stripe of a frame that starts at row y ends, when that stripe is complete (R151, R160): the flush rows follow the
last one. -/
def stripeStop (f : Frame) (y : Nat) : Option Nat :=
  let h := stripeRows f.profile
  let rows := completeRows f
  let e := (y / h + 1) * h
  if f.ended then
    if rows = 0 then none else if rows ≤ e then some (rows + delayRows f.profile) else some e
  else if e ≤ rows then
    if frameHeight f ≤ e then some (frameHeight f + delayRows f.profile) else some e
  else none

/-- The item at which a frame's next stripe ends, when that stripe is complete. -/
def workEnd (f : Frame) : Option Nat := stripeStop f f.items

/-- A slot register of a pipe's timetable in force: start, stripes, context. -/
def ttSlot (d : Dev) (p k : Nat) : Word := get d .pipe p (0x100 + 4 * k)

/-- The ring of a context holds a stripe written for the pipe at its head (R155, R159). -/
def ringBound (d : Dev) (p c : Nat) : Bool :=
  match oldestM d c with
  | some f => decide (f.pipe = p) && decide (f.released < stripesBegun f ∨ f.ended)
  | none => false

/-- The ring of a context holds a stripe written for the pipe, at its head or behind it (R159). -/
def ringHolds (d : Dev) (p c : Nat) : Bool :=
  (framesOf d c).any (fun f => f.memfed && !(frameDone f) && decide (f.pipe = p) && decide (f.released < stripesBegun f ∨ f.ended))

/-- The slot idles for its whole window (R155, R159, R504). -/
def slotIdles (d : Dev) (p k : Nat) : Bool :=
  let w := ttSlot d p k
  let c := fld w 3 0
  decide (fld w 13 8 = 0) || !(getB d .ctx c 0 0) || fenced d .ctx c || fenced d .pipe p || !(ringBound d p c) ||
  !(ownerServed d (0x10 + p))

/-- The number of slots of the timetable in force. -/
def ttCount (d : Dev) (p : Nat) : Nat := getF d .pipe p 0 22 16

/-- The frame of a context's oldest stripe that pipe p has not started, with the row it starts at: the running stripe and its flush rows are
passed over. -/
def nextWork (d : Dev) (p c : Nat) : Option (Frame × Nat) :=
  let x := vget d.pipes p
  match oldestM d c with
  | none => none
  | some f =>
    if x.stripe && decide (x.slotCtx = c) then
      if frameHeight f ≤ x.stripeEnd ∨ (f.ended ∧ completeRows f ≤ x.stripeEnd) then
        ((framesOf d c).find? (fun g => g.memfed && !(frameDone g) && decide (g.seq ≠ f.seq))).map (fun g => (g, 0))
      else some (f, x.stripeEnd)
    else some (f, f.items)

/-- Run-ahead for the slot after k starts: the frame plan of its context's oldest stripe is set aside and the restore begins (R165, R166),
whether or not the slot will idle (R167); a slot that continues the active half needs no restore. -/
def runAhead (d : Dev) (p k : Nat) : Dev :=
  let n := if k + 1 < ttCount d p then k + 1 else 0
  let c := fld (ttSlot d p n) 3 0
  let x := vget d.pipes p
  if x.ahead ≠ none then d
  else
    match nextWork d p c with
    | none => d
    | some (f, y) =>
      let same := decide (x.active = some c)
      onPipe d p (fun x => { x with
        ahead := some { slot := n, ctx := c, seq := f.seq, row := y, endedThen := f.ended, same := same, restored := same } })

/-- The pipe starts its next Bank M row, if a stripe runs and no row is in progress: an in-line row that runs goes first (R147, R148,
R169). -/
def startMRow (d : Dev) (p : Nat) : Dev :=
  let x := vget d.pipes p
  if x.stripe && decide (x.row = none) then
    onPipe d p (fun x => { x with row := some { ctx := x.slotCtx, inline := false }, suspended := false })
  else d

/-- Row q.2 of exposure q.1 of a frame is replaced as R73 says. -/
def concealAt (g : Frame) (q : Nat × Nat) : Frame :=
  let pv := (mosaicOf g.params).pv
  { g with
    exps := lmod g.exps q.1 (fun l => lmod l q.2 (fun _ =>
      if pv ≤ q.2 then l.getD (q.2 - pv) default else { bits := 0, codes := [], black := true })),
    concealed := g.concealed + 1, concealSeen := true }

/-- The pan lines of a stripe's rows that cannot be read: those rows are concealed in the frame (R156), one that was concealed at intake once
more (DESIGN CHOICE, log 126). In a frame that is still open the row beyond the conceal limit is not used, and the frame closes with the rows
before it (R72; what lies behind it is not used either, DESIGN CHOICE, log 126). -/
def concealUnread (d : Dev) (c : Nat) (f : Frame) (first last : Nat) : Dev :=
  let b := fun e => rowBytes (frameWidth f) (f.widths.getD e 0)
  let bad := (List.range (last - first)).flatMap (fun i => (List.range f.exps.length).filterMap (fun e =>
    if panBad d (ringOffset d c f e (first + i)) (b e) then some (e, first + i) else none))
  let lines := (d.badLines.map (fun l => l - panBase)).filter (fun l => bad.any (fun q =>
    let o := ringOffset d c f q.1 q.2
    decide (l < o + b q.1) && decide (o < l + 64)))
  if bad = [] then d
  else
    let room := if (openFrame d c).any (fun g => decide (g.seq = f.seq)) then concealLimit f - f.concealed else bad.length
    let d1 := reportBanks d lines
    let d2 := if bad.take room = [] then d1 else onFrame (stat d1 .ctx c 0x14 2) c f.seq (fun g => (bad.take room).foldl concealAt g)
    match bad[room]? with
    | some (e, y) => closeFrame (onFrame d2 c f.seq (fun g => { g with exps := lmod g.exps e (fun l => l.take y) })) c 1
    | none => d2

/-- The frame whose stripe the running slot of pipe p can start next, with the item at which that stripe ends: complete, fewer than the
slot's stripes started, and the pipe's fetch owner served (R160, R504). -/
def stripeReady (d : Dev) (p k : Nat) : Option (Frame × Nat) :=
  let x := vget d.pipes p
  if x.slotRuns && decide (x.started < fld (ttSlot d p k) 13 8) && ownerServed d (0x10 + p) then
    match oldestM d x.slotCtx with
    | some f => if f.pipe = p then (workEnd f).map (fun e => (f, e)) else none
    | none => none
  else none

/-- A stripe of frame f starts in slot k of pipe p, to end at item e (R153, R160, R165). -/
def beginStripe (d : Dev) (p k : Nat) (f : Frame) (e : Nat) : Dev :=
  let c := (vget d.pipes p).slotCtx
  let d0 := if f.begun then d else tapsBegin (if f.copies = [] then loadTables d c f.seq else d) c p f.seq
  let d1 := onPipe d0 p (fun x => { x with stripe := true, stripeEnd := e, started := x.started + 1 })
  let d2 := startMRow (onFrame d1 c f.seq (fun g => { g with begun := true })) p
  if (vget d2.pipes p).started = fld (ttSlot d p k) 13 8 then runAhead d2 p k else d2

/-- The search for a further stripe of slot k: the rows of the stripe found are fetched; where their loss closes the frame with no row left, the
search goes on. -/
def seekStripe (p k : Nat) : Nat → Dev → Dev
  | 0, d => d
  | n + 1, d =>
    match stripeReady d p k with
    | none => runAhead d p k
    | some (f, e) =>
      let c := (vget d.pipes p).slotCtx
      let d1 := concealUnread d c f f.items (min e (completeRows f))
      match (framesOf d1 c).find? (fun g => decide (g.seq = f.seq)) with
      | none => seekStripe p k n d1
      | some g =>
        match workEnd g with
        | none => seekStripe p k n d1
        | some e' => beginStripe d1 p k g e'

/-- A further stripe starts in the running slot when one is complete and fewer than the slot's stripes have started; otherwise run-ahead
for the next slot may start (R160, R165). A stripe that has started when the pipe's fetch owner loses its positions is finished (DESIGN CHOICE,
log 127). -/
def nextStripe (d : Dev) (p : Nat) : Dev :=
  match (vget d.pipes p).slot with
  | none => d
  | some k => seekStripe p k ((framesOf d (vget d.pipes p).slotCtx).length + 1) d

/-- PIPE_NOW follows the slot (R161): m_active while the slot swaps or a stripe runs. -/
def showNow (d : Dev) (p : Nat) : Dev :=
  let x := vget d.pipes p
  let row := match oldestM d x.slotCtx with
    | some f => f.items
    | none => 0
  put d .pipe p 0x14 (BitVec.ofNat 32 (match x.slot with
    | some k => bnat (x.slotRuns && (x.stripe || decide (x.swap ≠ .none))) * 2 ^ 31 + k * 2 ^ 24 + x.slotCtx * 2 ^ 16 + row % 2 ^ 14
    | none => 0x7F * 2 ^ 24))

/-- The slot idles: counted, the state in the active half saved behind any that waits, and run-ahead for the slot after it starts (R159, R165,
R168). -/
def idleSlot (d : Dev) (p k : Nat) : Dev :=
  let d1 := addSat (onPipe d p (fun x => { x with
    slot := some k, slotCtx := fld (ttSlot d p k) 3 0, slotRuns := false, started := 0, stripe := false, ahead := none, swap := .none,
    saving := x.saving ++ x.active.toList, active := none, due := none })) .pipe p 0xC 15 0 1
  runAhead d1 p k

/-- A run-ahead is squashed (R168): it is dropped and counted. -/
def squashAhead (d : Dev) (p : Nat) : Dev :=
  if (vget d.pipes p).ahead = none then d
  else addSat (onPipe d p (fun x => { x with ahead := none })) .pipe p 0xC 31 16 1

/-- The stripe a run-ahead chose is complete, and its frame has not ended since (R167). -/
def aheadHolds (d : Dev) (a : Ahead) : Bool :=
  match (framesOf d a.ctx).find? (fun f => decide (f.seq = a.seq)) with
  | none => false
  | some f => decide (f.items = a.row) && decide (workEnd f ≠ none) && (decide (f.ended = a.endedThen))

/-- The slot of the running timetable begins in the active half. -/
def slotBegins (d : Dev) (p k c : Nat) (swap : Swap) (ahead : Option Ahead) : Dev :=
  onPipe d p (fun x => { x with
    slot := some k, slotCtx := c, slotRuns := true, started := 0, stripe := false, due := none, ahead := ahead, swap := swap,
    saving := x.saving ++ (if x.active = some c then [] else x.active.toList), active := some c })

/-- The boundary check of slot k of pipe p: the halves swap, the slot continues, or the run-ahead is squashed (R159, R166–R168); then the
slot boundary event (R161). -/
def boundary (d : Dev) (p k : Nat) : Dev :=
  let x := vget d.pipes p
  let c := fld (ttSlot d p k) 3 0
  let unbound := decide (fld (ttSlot d p k) 13 8 ≠ 0) && getB d .ctx c 0 0 && !(fenced d .ctx c) && !(ringHolds d p c)
  let d0 := if unbound then stat d .pipe p 8 2 else d
  let d1 := match x.ahead with
    | none => idleSlot d0 p k
    | some a =>
      let same := a.same && decide (x.active = some c)
      if slotIdles d p k || !(decide (a.slot = k) && decide (a.ctx = c) && aheadHolds d0 a && (same || ownerServed d0 (0x14 + p))) then
        idleSlot (squashAhead d0 p) p k
      else if same then nextStripe (slotBegins d0 p k c .none none) p
      else if a.restored then slotBegins d0 p k c .swapping none
      else slotBegins (addSat (stat d0 .pipe p 8 8) .pipe p 0x10 15 0 1) p k c .waitRestore (some a)
  showNow (raise d1 (32 + p)) p

/-- The window of a slot that an outlasting stripe has kept from beginning is over: the slot has idled, its run-ahead is squashed, and its
boundary event is raised (R159–R161, R168). -/
def swallowDue (d : Dev) (p : Nat) : Dev :=
  match (vget d.pipes p).due with
  | none => d
  | some k =>
    let d1 := addSat (onPipe (squashAhead d p) p (fun x => { x with due := none })) .pipe p 0xC 15 0 1
    raise (runAhead d1 p k) (32 + p)

/-- The slot whose window opens next. -/
def nextSlot (x : Pipe) : Nat :=
  match x.slot with
  | some k => k + 1
  | none => 0

/-- A slot window opens on pipe p (R160, R167): the check is made now, or when the running stripe ends, which is then an overrun, counted
once for that stripe. -/
def slotOpens (d : Dev) (p : Nat) : Dev :=
  let x := vget d.pipes p
  let k := match x.due with
    | some k => k + 1
    | none => nextSlot x
  if x.running = false ∨ ttCount d p ≤ k then d
  else if x.stripe then
    if x.late then onPipe (swallowDue d p) p (fun x => { x with due := some k })
    else
      report (addSat (stat (onPipe d p (fun x => { x with due := some k, late := true })) .pipe p 8 4) .pipe p 0x10 31 16 1) (64 + p)
  else boundary d p k

/-- The swap of pipe p ends: the first row of the slot starts (R167). Its 512 clocks count as busy (R149). -/
def swapDone (d : Dev) (p : Nat) : Dev :=
  let x := vget d.pipes p
  if x.swap = .swapping then
    showNow (nextStripe (onPipe d p (fun x => { x with swap := .none, busyClk := x.busyClk + 512 })) p) p
  else d

/-- The stated bytes of a waystation for a context (R162): the header, the grid in use and the grid under construction. The shading grid row
is that of the next row to reach stage 5 (DESIGN CHOICE, log 103). -/
def waystationHead (d : Dev) (c : Nat) : List Byte :=
  let x := vget d.ctxs c
  let f := (oldestM d c).getD { seq := (get d .ctx c 0x18).toNat }
  let g := x.grid
  leBytes 4 f.seq ++ leBytes 2 f.items ++ leBytes 2 (min f.items (delayRows f.profile)) ++ leBytes 2 f.scan.cursor
    ++ leBytes 1 (lscRow (frameHeight f) (f.items - 2)) ++ leBytes 1 (profileEff d)
    ++ leBytes 4 (match g with
        | some g => g.seq
        | none => 0)
    ++ leBytes 2 (match g with
        | some g => g.epoch
        | none => 0)
    ++ leBytes 1 (bnat (decide (g ≠ none)) + 2 * bnat (decide (x.sums ≠ [])) + 4 * bnat f.truncated + 8 * bnat f.concealSeen)
    ++ leBytes 237 0
    ++ (List.range 768).flatMap (fun k => leBytes 2 (match g with
        | some g => g.z.getD k 0
        | none => 0))
    ++ (List.range 768).flatMap (fun k =>
        let s := x.sums.getD k (0, 0)
        leBytes 5 s.1 ++ leBytes 3 s.2)

/-- The oldest save of pipe p that waits completes: the waystation's stated bytes are written, its reserved bytes and its row store are free
(R162, R167). Without a waystation owner nothing is saved (R504). -/
def saveDone (d : Dev) (p : Nat) : Dev :=
  match (vget d.pipes p).saving with
  | [] => d
  | c :: rest =>
    let d0 := onPipe d p (fun x => { x with saving := rest })
    if ownerServed d (0x14 + p) then
      let head := waystationHead d c
      let len := wsSize (profileEff d) (getF d .ctx c 4 13 0)
      let (k, d1) := drawFree d0
      let store := (List.range (len - head.length)).map (fun i => Config.waystationByte k i)
      panWrite (onCtx d1 c (fun x => { x with saved := true })) (getF d .ctx c 0x748 24 12 * 0x1000) (head ++ store)
    else d0

/-- Every save of pipe p that waits completes: a restore into the landing half follows it (R165). -/
def savesDone (d : Dev) (p : Nat) : Dev := (vget d.pipes p).saving.foldl (fun d _ => saveDone d p) d

/-- One byte of a waystation as a restore reads it: 0 in a line that could not be read (R164). -/
def wsByte (d : Dev) (off : Nat) : Nat := if lineBad d off then 0 else (memByte d (panBase + off)).toNat

/-- A little-endian value of n bytes of a waystation as a restore reads it. -/
def wsVal (d : Dev) (off n : Nat) : Nat := leVal ((List.range n).map (fun i => BitVec.ofNat 8 (wsByte d (off + i))))

/-- A context's vertical state as a restore reads it from the waystation at pan offset `base` (R162, R164): the tone grids of the context,
and of the frame in progress the next row, the map cursor and its flags; where the header is not that frame's, or names a later row than the
frame has reached, the frame starts again at row 0. A row store line that could not be read leaves the history open (DESIGN CHOICE, log
104). -/
def readBack (d : Dev) (c seq base len : Nat) : Dev :=
  let flags := wsByte d (base + 0x12)
  let zs := (List.range 768).map (fun k => wsVal d (base + 0x100 + 2 * k) 2)
  let sums := (List.range 768).map (fun k => (wsVal d (base + 0x700 + 8 * k) 5, wsVal d (base + 0x705 + 8 * k) 3))
  let d1 := onCtx d c (fun x => { x with
    grid := (if x.grid = none ∨ flags % 2 = 0 then none
      else some { z := zs, seq := wsVal d (base + 0xC) 4, epoch := wsVal d (base + 0x10) 2 }),
    sums := (if x.sums = [] ∨ flags / 2 % 2 = 0 then [] else sums) })
  let g := (vget d1.ctxs c).grid
  let d1 := if g = none then putF d1 .ctx c 0x5E8 31 31 0 else d1
  let own := decide (wsVal d base 4 = seq)
  let row := if own then wsVal d (base + 4) 2 else 0
  let lost := decide (row ≠ 0) && panBad d (base + 0x2000) (len - 0x2000)
  let (k, d2) := if lost then drawFree d1 else (0, d1)
  onFrame d2 c seq (fun f =>
    let n := min row f.items
    { f with
      items := n, merged := f.merged.take n, luma := f.luma.take (n - delayStage11 f.profile),
      out := f.out.take (n - delayRows f.profile),
      scan := (if own then { f.scan with cursor := wsVal d (base + 8) 2 } else {}),
      grid := (if delayStage11 f.profile < n then g else none), lost := (if lost then f.lost ++ [(n, k)] else f.lost) })

/-- A waystation restore of pipe p completes (R164, R165): the state of a frame in progress, and the tone grids, are read back; failed lines
read 0, are reported and mark the frame's packets; the tables are copied; a swap that waited proceeds. -/
def restoreDone (d : Dev) (p : Nat) : Dev :=
  let x := vget d.pipes p
  match x.ahead with
  | none => d
  | some a =>
    if a.restored || !(ownerServed d (0x14 + p)) then d
    else
      let d0 := savesDone d p
      let base := getF d .ctx a.ctx 0x748 24 12 * 0x1000
      let len := wsSize (profileEff d) (getF d .ctx a.ctx 4 13 0)
      let lines := (d0.badLines.map (fun l => l - panBase)).filter (fun l => decide (l < base + len) && decide (base < l + 64))
      let held := (vget d0.ctxs a.ctx).saved
      let d1 := if held then readBack d0 a.ctx a.seq base len else d0
      let d2 := if lines = [] then d1
        else onFrame (stat (reportBanks d1 lines) .pipe p 8 0x10) a.ctx a.seq (fun f => { f with concealSeen := true })
      let d3 := loadTables d2 a.ctx a.seq
      let d4 := onPipe d3 p (fun x => { x with ahead := some { a with
        restored := true, row := (((framesOf d3 a.ctx).find? (fun f => decide (f.seq = a.seq))).map (fun f => f.items)).getD a.row } })
      if x.swap = .waitRestore then onPipe d4 p (fun x => { x with ahead := none, swap := .swapping }) else d4

/-- The stripe of the running slot ends: the next stripe starts, or the slot that is due opens (R160). -/
def stripeDone (d : Dev) (p : Nat) : Dev :=
  let x := vget d.pipes p
  match (if x.stripe then oldestM d x.slotCtx else none) with
  | none => d
  | some f =>
    if f.items < x.stripeEnd ∧ ¬ frameDone f then d
    else
      let d1 := onPipe d p (fun x => { x with stripe := false, late := false })
      match x.due with
      | some k => boundary d1 p k
      | none => showNow (nextStripe d1 p) p

/-- The stripe in progress has processed its last item. -/
def stripeOver (d : Dev) (p : Nat) : Bool :=
  let x := vget d.pipes p
  match (framesOf d x.slotCtx).find? (fun f => f.memfed && f.begun && !(frameDone f)) with
  | some f => decide (x.stripeEnd ≤ f.items)
  | none => true

/-- Pipe p finishes the row in progress and starts the next one: an in-line row first, then Bank M (R147, R148). -/
def rowDone (d : Dev) (p : Nat) : Dev :=
  let x := vget d.pipes p
  match x.row with
  | none => d
  | some j =>
    let frame := if j.inline then oldestI d p j.ctx else oldestM d j.ctx
    let cost := rowCost ((frame.map frameWidth).getD 0) + (if j.inline then 32 else 0)
    let d1 := onPipe d p (fun x => { x with
      row := none, clock := profileEff d, busyClk := x.busyClk + cost,
      inlineClk := x.inlineClk + (if j.inline then cost else 0) })
    let d2 := match frame with
      | some f => finishItem d1 j.ctx f.seq
      | none => d1
    let d3 := if j.inline then d2 else showNow d2 p
    match inlineReady d3 p with
    | some (c, _) => startInline d3 p c
    | none =>
      let y := vget d3.pipes p
      if y.stripe && !(stripeOver d3 p) then startMRow d3 p else d3

/-! ### The timetable -/

/-- The staged timetable of pipe p breaks no limit (R158). -/
def ttOk (d : Dev) (p : Nat) : Bool :=
  let a := unitBase .pipe p
  let cfg := stagedAt d a
  let n := fld cfg 22 16
  let start := fun k => fld (stagedAt d (a + 0x100 + 4 * k)) 31 20
  decide (100 ≤ fld cfg 11 0) && decide (fld cfg 11 0 ≤ 4000) && decide (n ≤ 64) &&
  decide (start 0 = 0) && (List.range (n - 1)).all (fun k => decide (start k < start (k + 1))) &&
  (List.range 64).all (fun k => decide (start k < fld cfg 11 0))

/-- The staged timetable applies, or is refused whole (R157, R158, R366). -/
def applyTt (d : Dev) (p : Nat) : Dev :=
  if getB d .pipe p 4 0 ∨ stagedIn d (unitBase .pipe p) 0x2000 = [] then d
  else if ttOk d p then
    let d1 := applyStaged d (unitBase .pipe p) 0x2000
    if getB d1 .pipe p 0 31 then d1
    else showNow (onPipe d1 p (fun x => { x with running := false, slot := none, slotRuns := false, due := none, late := false, ahead := none, swap := .none })) p
  else report (stat (dropStaged d (unitBase .pipe p) 0x2000) .pipe p 8 1) (64 + p)

/-- A fraction of a period's pipe clocks, U0.10, rounded to nearest (spec/00_scope.md R4). -/
def clockShare (v clk : Nat) : Nat := min 1023 (rdivN (v * 1024) (max 1 clk))

/-- A timetable period of pipe p starts: a slot that is still due has idled, the shares of the period that ends are shown, the staged timetable
applies, and slot 0 comes next (R149, R157). -/
def periodStart (d : Dev) (p : Nat) : Dev :=
  let d0 := swallowDue d p
  let x := vget d0.pipes p
  let clk := getF d .pipe p 0 11 0 * (if x.clock = 3 then 800 else 1200)
  let d1 := if x.running then
      put d0 .pipe p 0x18 (BitVec.ofNat 32 (clockShare x.inlineClk clk * 2 ^ 16 + clockShare x.busyClk clk)) else d0
  let d2 := applyTt (onPipe d1 p (fun x => { x with inlineClk := 0, busyClk := 0 })) p
  if getB d2 .pipe p 0 31 then
    onPipe d2 p (fun x => { x with running := true, slot := none, due := none })
  else d2

end Sys2Proof.Machine
end

