-- ==== Sys2Proof/Machine/Time.lean ====
section
/-! DEFINITION. Network time: the time base, clock state and steps, snapshots, timestamp queues, compares and control cycles, triggers and
captures (spec/11_time.md R326–R351; spec/07_jorran_isa.md R241, R242; spec/06_views_taps_convoys.md R198). -/

namespace Sys2Proof.Machine

/-! ### The time base -/

/-- The addend that a written value acts as (R327). -/
def addendOf (n : Nat) : Nat := max 0x7FEF9DB2 (min 0x8010624E n)

/-- The linear time at which the 48-bit seconds count wraps, in 2^-30 ns. -/
def timeTop : Nat := 2 ^ 48 * 1000000000 * 2 ^ 30

/-- n cycles from cycle count c on: the addends that come into force on the way are used from their cycle (R326, R327). -/
def clockGo : List (Nat × Nat) → Nat → Nat → Nat → Nat → Nat × Nat × List (Nat × Nat)
  | [], _, now, a, n => (now + n * a, a, [])
  | (b, k) :: t, c, now, a, n =>
    if c + n ≤ k then (now + n * a, a, (b, k) :: t) else clockGo t (max c k) (now + (k - c) * a) b (n - (k - c))

/-- n time-base cycles pass (R326). -/
def clockRun (c : Clock) (n : Nat) : Clock :=
  let (now, a, l) := clockGo c.coming c.cycles c.now c.addend n
  { c with now := now % timeTop, cycles := c.cycles + n, addend := a, coming := l }

/-- What the cycle that begins now adds to the time: an addend that comes into force with it counts already (R326, R327). -/
def cycleStep (c : Clock) : Nat := (clockGo c.coming c.cycles 0 c.addend 1).1

/-- A write of TIME_ADDEND: it counts from the fourth cycle after it (R327). -/
def clockAddend (c : Clock) (w : Nat) : Clock := { c with coming := c.coming ++ [(addendOf w, c.cycles + 3)] }

/-- What the registers say of a step now. -/
def stepArgs (d : Dev) : StepArgs := { limit := get d .time 0 0xC, sec := get d .time 0 0x10, ns := get d .time 0 0x14 }

/-- The step S, in ns (R332). -/
def stepSize (a : StepArgs) : Int := sInt 32 a.sec.toNat * 1000000000 + a.ns.toNat

/-- The whole nanoseconds of a linear time after the step. -/
def stepTarget (a : StepArgs) (now : Nat) : Int := (now / 2 ^ 30 : Nat) + stepSize a

/-- The step is not malformed (R332). -/
def stepOk (a : StepArgs) (now : Nat) : Bool :=
  decide (a.ns.toNat ≤ 999999999) && decide (0 ≤ stepTarget a now) && decide (stepTarget a now < (2 ^ 48 * 1000000000 : Nat))

/-- The clock with the step applied: the fraction is unchanged (R332). -/
def stepClock (a : StepArgs) (c : Clock) : Clock :=
  { c with now := (stepTarget a c.now).toNat * 2 ^ 30 + c.now % 2 ^ 30, stepped := some c.cycles }

/-- A step has been applied on this very cycle: an instant up to the new time is passed over, and is not made up (R334). -/
def justStepped (e : Env) : Bool := decide (e.clk.stepped = some e.cycles)

/-- A refused step: step_refused, and the time fault source (R332). -/
def stepRefused (d : Dev) : Dev := report (stat d .time 0 4 2) 118

/-- What a forced step leaves beside the time: step_applied and forced, and abandoned convoys where any are open (R203, R332, R333). -/
def stepForced (d : Dev) : Dev :=
  let d1 := stat d .time 0 4 5
  if getB d1 .time 0 0x400 0 then abandonConvoys d1 else d1

/-- A step request is decided, by the registers as they stood at the write (R331, R332). -/
def stepRequest (a : StepArgs) (d : Dev) (c : Clock) : Dev × Clock :=
  if stepOk a c.now = false then (stepRefused d, c)
  else if c.state = .free then (stepForced d, { stepClock a c with state := .holdover })
  else if (stepSize a).natAbs ≤ a.limit.toNat then (stat d .time 0 4 1, stepClock a c)
  else (stepRefused d, { c with state := .holdover })

/-- A forced step is decided (R331, R333). -/
def stepForce (a : StepArgs) (d : Dev) (c : Clock) : Dev × Clock :=
  if stepOk a c.now = false then (stepRefused d, c) else (stepForced d, { stepClock a c with state := .holdover })

/-- TIME_CTRL.holdover_set (R331). -/
def clockHold (c : Clock) : Clock := { c with state := if c.state = .tracking then .holdover else c.state }

/-- TIME_CTRL.holdover_clear (R331). -/
def clockTrack (c : Clock) : Clock := { c with state := if c.state = .holdover then .tracking else c.state }

/-- The code of TIME_STATUS.state. -/
def clockCode : ClockState → Nat
  | .free => 0
  | .tracking => 1
  | .holdover => 2

/-! ### Snapshots and pop registers -/

/-- A master's snapshot is taken (R330). -/
def takeSnap (e : Env) (d : Dev) (master : Nat) : Dev := { d with snaps := sPut 0 d.snaps master e.now }

/-- The key of a master's latched time of timestamp queue q (R342). -/
def tsqKey (master q : Nat) : Nat := master * 16 + q

/-- The key of a master's latched time of capture input n, in half nanoseconds (R349). -/
def capKey (master n : Nat) : Nat := 256 + master * 16 + n

/-- The header word of a timestamp entry. -/
def tsqHeader (t : TsEntry) : Word := BitVec.ofNat 32 (2 ^ 31 + t.kind % 16 * 2 ^ 24 + t.id % 2 ^ 16)

/-- The header word of a capture entry (R351). -/
def capHeader (t : CapEntry) : Word :=
  BitVec.ofNat 32 (2 ^ 31 + bnat t.rising * 2 ^ 30 + t.time % 2 * 2 ^ 16 + t.discarded % 2 ^ 16)

/-- A read of TIME_TSQq_HDR by a master (R342). -/
def tsqPop (d : Dev) (master q : Nat) : Word × Dev :=
  match vget d.tsq q with
  | [] => (0, { d with latches := sPut 0 d.latches (tsqKey master q) 0 })
  | t :: r => (tsqHeader t, { d with tsq := vmod d.tsq q (fun _ => r), latches := sPut 0 d.latches (tsqKey master q) t.time })

/-- A read of TIME_CAPn_HDR by a master (R349). -/
def capPop (d : Dev) (master n : Nat) : Word × Dev :=
  match (vget d.caps n).fifo with
  | [] => (0, { d with latches := sPut 0 d.latches (capKey master n) 0 })
  | t :: r =>
    (capHeader t, { onCap d n (fun c => { c with fifo := r }) with latches := sPut 0 d.latches (capKey master n) t.time })

/-! ### Compares and control cycles -/

/-- The control cycle of a compare unit runs. -/
def cycleOn (d : Dev) (u : Nat) : Bool := getB d .time 0 (0x100 + 16 * u) 0

/-- The compare unit has reached its target (R242). -/
def compareDue (e : Env) (d : Dev) (u : Nat) : Bool :=
  (vget d.compares u).armed && !(cycleOn d u) &&
  decide ((e.now / 2 ^ 30 % 2 ^ 40 + 2 ^ 40 - (vget d.compares u).target % 2 ^ 40) % 2 ^ 40 < 2 ^ 39)

/-- A compare unit matches: event 36 + u, and it disarms itself (R242). -/
def compareMatch (e : Env) (d : Dev) (u : Nat) : Dev :=
  if compareDue e d u then raise (onCompare d u (fun c => { c with armed := false })) (36 + u) else d

/-- The staged set of control cycle u applies unless its period or phase is out of range (R343). -/
def applyCycle (d : Dev) (u : Nat) : Dev :=
  let a := unitBase .time 0 + 0x100 + 16 * u
  let p := (stagedAt d (a + 4)).toNat
  if 10000 ≤ p ∧ p ≤ 1000000000 ∧ (stagedAt d (a + 8)).toNat < p then applyStaged d a 0xC else dropStaged d a 0xC

/-- An instant of control cycle u falls on this time-base cycle, and no step has passed over it (R334, R343). -/
def cycleDue (e : Env) (d : Dev) (u : Nat) : Bool :=
  let p : Nat := (get d .time 0 (0x104 + 16 * u)).toNat * 2 ^ 30
  let phi : Nat := (get d .time 0 (0x108 + 16 * u)).toNat * 2 ^ 30
  cycleOn d u && !(justStepped e) && decide (0 < p) && decide (((e.now : Int) - phi) % p < cycleStep e.clk)

/-- Less than 3/4 of a period of p (2^-24 ns) has passed, in time-base cycles, since the last firing (R334). -/
def tooSoon (e : Env) (last : Option Nat) (p : Nat) : Bool :=
  match last with
  | some c => decide ((e.cycles - c) * 2 * 2 ^ 24 * 4 < 3 * p)
  | none => false

/-- An instant of control cycle u: event 36 + u, or the firing is skipped and counted (R334, R343). -/
def cycleEvent (e : Env) (d : Dev) (u : Nat) : Dev :=
  if cycleDue e d u then
    if tooSoon e (vget d.compares u).last ((get d .time 0 (0x104 + 16 * u)).toNat * 2 ^ 24) then
      onCompare (stat d .time 0 4 8) u (fun c => { c with skips := c.skips + 1 })
    else applyCycle (raise (onCompare d u (fun c => { c with last := some e.cycles })) (36 + u)) u
  else d

/-! ### Trigger outputs -/

/-- A register of trigger n. -/
def trigReg (d : Dev) (n off : Nat) : Word := get d .time 0 (0x600 + 16 * n + off)

/-- A trigger output may drive its active level (R345). -/
def trigActive (m : Mode) (d : Dev) (n : Nat) : Bool :=
  (decide (m = .ready) || decide (m = .run) || decide (m = .degraded) || decide (m = .diag)) &&
  getB d .glob 0 0x10 31 && getB d .time 0 0x400 0 && flag (trigReg d n 0) 31

/-- The level of trigger output n at its pad (R344, R345). -/
def trigLevel (m : Mode) (d : Dev) (n : Nat) : Bool :=
  ((vget d.trigs n).pulse && trigActive m d n) != flag (trigReg d n 0) 30

/-- Pulses whose conditions have ended are cut short (R345). -/
def cutPulses (m : Mode) (d : Dev) : Dev :=
  forN 16 (fun d n => if (vget d.trigs n).pulse && !(trigActive m d n) then onTrig d n (fun t => { t with pulse := false }) else d) d

/-! ### The convoy unit -/

/-- The staged convoy set applies, or is refused (R198); a set that changes enable, period or phase abandons the convoys that are open (R203),
and one that disables the series cuts the pulses in progress (R345). -/
def applyConvoy (e : Env) (d : Dev) : Dev :=
  let a := unitBase .time 0 + 0x400
  let p := (stagedAt d (a + 4)).toNat
  if stagedIn d a 0x10 = [] then d
  else if 1000000 ≤ p ∧ p ≤ 1000000000 ∧ (stagedAt d (a + 12)).toNat < p then
    let d1 := cutPulses e.mode (applyStaged d a 0x10)
    let changed := [0, 4, 8, 12].any (fun o => decide (get d .time 0 (0x400 + o) ≠ get d1 .time 0 (0x400 + o)))
    if getB d .time 0 0x400 0 && changed then abandonConvoys d1 else d1
  else stat (dropStaged d a 0x10) .time 0 0x414 4

/-! ### Firings -/

/-- The instant of convoy tick k, in 2^-30 ns (R198). -/
def tickTime (d : Dev) (k : Int) : Int :=
  (get d .time 0 0x40C).toNat * ((2 ^ 30 : Nat) : Int) + k * ((max 1 (convoyPeriod d) * 64 : Nat) : Int)

/-- The tick whose firing falls on this time-base cycle: its instant lies in the cycle that begins now, and after the new time where a step
has been applied on this cycle (R334, R344). -/
def trigTick (e : Env) (d : Dev) (n : Nat) : Option Int :=
  let p : Nat := max 1 (convoyPeriod d) * 64
  let off : Int := sInt 32 (trigReg d n 8).toNat * ((2 ^ 30 : Nat) : Int)
  let k : Int := ((e.now : Int) + cycleStep e.clk - 1 - off - tickTime d 0) / p
  if (e.now : Int) + bnat (justStepped e) ≤ tickTime d k + off then some k else none

/-- Tick k comes at least 1 µs after the trigger was enabled: the local time that has passed and the way from now to the tick, together
(R345; DEDUCED, log entry 114). -/
def tickLate (e : Env) (d : Dev) (n : Nat) (k : Int) : Bool :=
  decide ((((vget d.trigs n).since * 2 ^ 31 : Nat) : Int) ≤ (e.cycles * 2 ^ 31 : Nat) + (tickTime d k - e.now))

/-- The divisor m of a trigger. -/
def trigDiv (d : Dev) (n : Nat) : Nat := fld (trigReg d n 4) 7 0 + 1

/-- The staged set of trigger n applies unless r ≥ m (R344–R346). -/
def applyTrig (e : Env) (d : Dev) (n : Nat) : Dev :=
  let a := unitBase .time 0 + 0x600 + 16 * n
  let sel := stagedAt d (a + 4)
  if fld sel 7 0 + 1 ≤ fld sel 23 16 then dropStaged d a 0xC
  else
    let was := flag (trigReg d n 0) 31
    let d1 := applyStaged d a 0xC
    let on := flag (trigReg d1 n 0) 31
    onTrig d1 n (fun t => { t with
      since := (if on && !was then e.cycles + 500 else t.since), pulse := t.pulse && on })

/-- The length of a pulse of trigger n in 2^-24 ns: width × 8 ns, where 0 acts as 1, or half of m × P if that is shorter (R344). -/
def pulseLength (d : Dev) (n : Nat) : Nat :=
  min (max 1 (fld (trigReg d n 0) 23 12) * 8 * 2 ^ 24) (trigDiv d n * convoyPeriod d / 2)

/-- A convoy tick reaches trigger n: it starts its pulse, is skipped, or is not selected (R334, R344–R346). -/
def trigFire (e : Env) (d : Dev) (n : Nat) : Dev :=
  if trigActive e.mode d n then
    match trigTick e d n with
    | none => d
    | some k =>
      if tickLate e d n k = false then d
      else if convoyId k % trigDiv d n ≠ fld (trigReg d n 4) 23 16 then d
      else if tooSoon e (vget d.trigs n).last (trigDiv d n * convoyPeriod d) then
        report (addSat (stat d .time 0 4 8) .time 0 (0x60C + 16 * n) 31 16 1) 120
      else
        applyTrig e (incWrap (onTrig d n (fun t => { t with last := some e.cycles, pulse := true, len := pulseLength d n })) .time 0 (0x60C + 16 * n) 15 0) n
  else d

/-- The pulse of trigger n ends, its length over (R344; log 8). -/
def trigEnd (d : Dev) (n : Nat) : Dev := onTrig d n (fun t => { t with pulse := false })

/-! ### Capture inputs -/

/-- A register of capture input n. -/
def capReg (d : Dev) (n off : Nat) : Word := get d .time 0 (0x800 + 32 * n + off)

/-- The minimum interval of an input in half nanoseconds (R347). -/
def capMin (d : Dev) (n : Nat) : Nat := 2 * max 20 (fld (capReg d n 4) 19 0)

/-- The edge's direction is enabled. -/
def capKind (d : Dev) (n : Nat) (rising : Bool) : Bool := flag (capReg d n 0) (if rising then 0 else 1)

/-- An edge of an enabled input that is not stuck: accepted into the FIFO, or discarded (R347). -/
def capAccept (e : Env) (d : Dev) (n sub : Nat) (rising : Bool) : Dev :=
  let t := 4 * e.cycles + sub
  let c := vget d.caps n
  let soon := match c.lastEdge with
    | some l => decide (t < l + capMin d n)
    | none => false
  if soon then
    addSat (onCap d n (fun c => { c with discarded := satInc 65535 c.discarded })) .time 0 (0x81C + 32 * n) 31 16 1
  else
    let d1 := onCap d n (fun c => { c with lastEdge := some t, discarded := 0 })
    if c.fifo.length < 4 then
      ringBell (onCap d1 n (fun x => { x with fifo := x.fifo ++
        [{ rising := rising, discarded := c.discarded, time := (e.now + sub * 2 ^ 29) / 2 ^ 29 }] })) (fld (capReg d n 0) 13 8)
    else addSat d1 .time 0 (0x81C + 32 * n) 15 0 1

/-- The input is at its active level, by the polarity that stands now (R348). -/
def capActive (d : Dev) (n : Nat) : Bool := (vget d.caps n).level != flag (capReg d n 0) 2

/-- A stuck input changes between active and inactive at time t: one that becomes active after at least the minimum interval is stuck no more
(R348). -/
def capTurn (d : Dev) (n t : Nat) : Dev :=
  let rested := (vget d.caps n).idleAt.any (fun i => decide (i + capMin d n ≤ t))
  if (vget d.caps n).stuck then
    if capActive d n then onCap d n (fun c => { c with stuck := !rested, idleAt := none }) else onCap d n (fun c => { c with idleAt := some t })
  else d

/-- TIME_CAPn_CFG has been written from `old`: a new polarity changes whether the input is active (R348). -/
def capWritten (e : Env) (d : Dev) (n : Nat) (old : Word) : Dev :=
  if flag old 2 ≠ flag (capReg d n 0) 2 then capTurn d n (4 * e.cycles) else d

/-- An edge arrives at capture input n, in phase sub of the time-base cycle (R347, R348): the edge that makes a stuck input inactive is not
accepted, nor is one that comes while it is still stuck. -/
def capEdge (e : Env) (d : Dev) (n sub : Nat) (rising : Bool) : Dev :=
  let was := capActive d n
  let d1 := onCap d n (fun c => { c with level := rising })
  let d2 := if capActive d1 n = was then d1 else capTurn d1 n (4 * e.cycles + sub)
  if flag (capReg d n 0) 31 && !(vget d2.caps n).stuck && capKind d n rising then capAccept e d2 n sub rising else d2

/-- Capture input n has been active beyond its limit (R348). -/
def capStuck (d : Dev) (n : Nat) : Dev :=
  let c := vget d.caps n
  if flag (capReg d n 0) 31 && capActive d n && !c.stuck && decide (fld (capReg d n 8) 19 0 ≠ 0) then
    report (stat (onCap d n (fun c => { c with stuck := true, idleAt := none })) .time 0 4 0x20) (121 + n)
  else d

end Sys2Proof.Machine
end

