-- ==== Sys2Proof/Machine/Coding.lean ====
section
/-! DEFINITION. The codes on the wire: CRCs, 8b/10b, the scrambler, RS(544,516) with its decoder, the PAM4 mapping and precoder, transmit
taps and test patterns (spec/09_caravan_link.md R263–R274; spec/10_lanes.md R297–R323; spec/14_two_wire.md R418). -/

namespace Sys2Proof.Machine

/-! ### CRCs -/

/-- A function applied n times. -/
def times {α : Type} (f : α → α) : Nat → α → α
  | 0, a => a
  | n + 1, a => times f n (f a)

/-- One bit of CRC-16/CCITT, most significant bit first (R273). -/
def crc16Bit (c : BitVec 16) : BitVec 16 := if c.getLsbD 15 then (c <<< 1) ^^^ 0x1021#16 else c <<< 1

/-- CRC-16/CCITT of a list of bytes (R273). -/
def crc16 (l : List Byte) : Nat :=
  (l.foldl (fun (c : BitVec 16) (b : Byte) => times crc16Bit 8 (c ^^^ (b ++ 0#8))) 0xFFFF#16).toNat

/-- One bit of CRC-32C, reflected (R274). -/
def crc32Bit (c : BitVec 32) : BitVec 32 := if c.getLsbD 0 then (c >>> 1) ^^^ 0x82F63B78#32 else c >>> 1

/-- The running CRC-32C after more bytes; it starts at all ones and is inverted at the end (R274). -/
def crc32Run (c : Nat) (l : List Byte) : Nat :=
  (l.foldl (fun (c : BitVec 32) (b : Byte) => times crc32Bit 8 (c ^^^ b.setWidth 32)) (BitVec.ofNat 32 c)).toNat

/-- The start of a running CRC-32C. -/
def crc32Init : Nat := 0xFFFFFFFF

/-- The CRC-32C that a running value stands for. -/
def crc32End (c : Nat) : Nat := 0xFFFFFFFF - c % 2 ^ 32

/-- CRC-32C of a list of bytes (R274). -/
def crc32c (l : List Byte) : Nat := crc32End (crc32Run crc32Init l)

/-- One bit of CRC-8 (spec/14_two_wire.md R418). -/
def crc8Bit (c : BitVec 8) : BitVec 8 := if c.getLsbD 7 then (c <<< 1) ^^^ 0x07#8 else c <<< 1

/-- CRC-8 of a list of bytes, the PEC (R418). -/
def crc8 (l : List Byte) : Nat := (l.foldl (fun (c : BitVec 8) (b : Byte) => times crc8Bit 8 (c ^^^ b)) 0#8).toNat

/-- A control block from its first 30 bytes: the CRC-16 follows, low byte first (R272, R273). -/
def sealBlock (l : List Byte) : List Byte :=
  let b := (l ++ List.replicate 30 0).take 30
  b ++ leBytes 2 (crc16 b)

/-- A control block's CRC-16 is right (R273). -/
def sealOk (l : List Byte) : Bool := decide (l.length = 32) && decide (leVal (l.drop 30) = crc16 (l.take 30))

/-! ### Scrambler and block bits -/

/-- The bits of a byte, bit 0 first. -/
def bitsOfByte (b : Byte) : List Bool := (List.range 8).map (fun i => b.getLsbD i)

/-- The self-synchronising scrambler, 1 + x^39 + x^58; the history's first entry is the previous transmitted bit (R264). -/
def scramble : List Bool → List Bool → List Bool × List Bool
  | h, [] => ([], h)
  | h, d :: t =>
    let s := xor d (xor (h.getD 38 false) (h.getD 57 false))
    let r := scramble ((s :: h).take 58) t
    (s :: r.1, r.2)

/-- The descrambler (R264). -/
def descramble : List Bool → List Bool → List Bool × List Bool
  | h, [] => ([], h)
  | h, s :: t =>
    let r := descramble ((s :: h).take 58) t
    (xor s (xor (h.getD 38 false) (h.getD 57 false)) :: r.1, r.2)

/-- The scrambler history at the start of a training stream, and both histories after a rake burst (R299). -/
def allOnes58 : List Bool := List.replicate 58 true

/-- The header bits b0, b1 of a block: 0b01 for data, 0b10 for control (R263). -/
def headerBits (ctl : Bool) : List Bool := if ctl then [false, true] else [true, false]

/-- The 258 bits of a block in PAM4, its payload scrambled (R263, R264). -/
def blockBits (h : List Bool) (ctl : Bool) (payload : List Byte) : List Bool × List Bool :=
  let r := scramble h (payload.flatMap bitsOfByte)
  (headerBits ctl ++ r.1, r.2)

/-! ### RS(544,516) -/

/-- Multiplication by the root of x^10 + x^3 + 1 in GF(2^10) (R265). -/
def gfDouble (a : Nat) : Nat := if 512 ≤ a then Nat.xor (2 * a - 1024) 9 else 2 * a

/-- Multiplication in GF(2^10). -/
def gfMul (a b : Nat) : Nat :=
  ((List.range 10).foldl (fun (q : Nat × Nat) i => (if b.testBit i then Nat.xor q.1 q.2 else q.1, gfDouble q.2)) (0, a)).1

/-- α^k. -/
def gfPow (k : Nat) : Nat := times gfDouble k 1

/-- A polynomial, leading coefficient first, times (x − r). -/
def polyTimes (p : List Nat) (r : Nat) : List Nat :=
  (List.range (p.length + 1)).map (fun i => Nat.xor (p.getD i 0) (if i = 0 then 0 else gfMul (p.getD (i - 1) 0) r))

/-- The generator polynomial of the code (R265). -/
def rsGenerator : List Nat := (List.range 28).foldl (fun p k => polyTimes p (gfPow k)) [1]

/-- One step of the division by the generator: the remainder after one more message symbol. -/
def rsStep (g rem : List Nat) (m : Nat) : List Nat :=
  let f := Nat.xor m (rem.headD 0)
  (List.range 28).map (fun i => Nat.xor (rem.getD (i + 1) 0) (gfMul f (g.getD (i + 1) 0)))

/-- The 28 parity symbols of a message, from x^27 down (R265). -/
def rsParity (ms : List Nat) : List Nat := ms.foldl (rsStep rsGenerator) (List.replicate 28 0)

/-- The message symbols of a run of bits: bit k is bit k mod 10 of symbol k / 10 (R265). -/
def symbolsOf (bits : List Bool) : Nat → List Nat
  | 0 => []
  | n + 1 => ((bits.take 10).zipIdx.foldl (fun a q => a + bnat q.1 * 2 ^ q.2) 0) :: symbolsOf (bits.drop 10) n

/-- A codeword from the bits of 20 blocks: 516 message symbols and their parity (R265). -/
def rsCodeword (bits : List Bool) : List Nat :=
  let m := symbolsOf bits 516
  m ++ rsParity m

/-- A codeword is a multiple of the generator: every syndrome is 0 (R265, R266). -/
def rsValid (c : List Nat) : Bool :=
  (List.range 28).all (fun k => decide (c.foldl (fun a s => Nat.xor (gfMul a (gfPow k)) s) 0 = 0))

/-! ### The decoder (R266) -/

/-- A polynomial over GF(2^10), lowest coefficient first, at a point. -/
def gfEval (p : List Nat) (x : Nat) : Nat := p.reverse.foldl (fun a c => Nat.xor (gfMul a x) c) 0

/-- The inverse of a non-zero element: its power 2^10 − 2. -/
def gfInv (a : Nat) : Nat := (times (fun (q : Nat × Nat) => (gfMul q.1 q.1, gfMul q.2 (gfMul q.1 q.1))) 9 (a, 1)).2

/-- The sum of two polynomials, lowest coefficient first. -/
def gfAdd (p q : List Nat) : List Nat := (List.range (max p.length q.length)).map (fun i => Nat.xor (p.getD i 0) (q.getD i 0))

/-- A polynomial times a constant. -/
def gfScale (c : Nat) (p : List Nat) : List Nat := p.map (gfMul c)

/-- The 28 syndromes of a received word (R265). -/
def rsSyndromes (c : List Nat) : List Nat := (List.range 28).map (fun k => c.foldl (fun a s => Nat.xor (gfMul a (gfPow k)) s) 0)

/-- The search for the error locator by Berlekamp and Massey: the locator, the one before its last change, the length, the steps since that
change, and the discrepancy there. -/
structure Locator where
  lam  : List Nat := [1]
  old  : List Nat := [1]
  len  : Nat := 0
  gap  : Nat := 1
  disc : Nat := 1
deriving DecidableEq, Repr, Inhabited

/-- Step n of the search. -/
def locatorStep (syn : List Nat) (s : Locator) (n : Nat) : Locator :=
  let d := (List.range (s.len + 1)).foldl (fun a i => Nat.xor a (gfMul (s.lam.getD i 0) (syn.getD (n - i) 0))) 0
  if d = 0 then { s with gap := s.gap + 1 }
  else
    let lam := gfAdd s.lam (gfScale (gfMul d (gfInv s.disc)) (List.replicate s.gap 0 ++ s.old))
    if 2 * s.len ≤ n then { lam := lam, old := s.lam, len := n + 1 - s.len, gap := 1, disc := d }
    else { s with lam := lam, gap := s.gap + 1 }

/-- The locator of a word's errors. -/
def rsLocator (syn : List Nat) : Locator := (List.range 28).foldl (locatorStep syn) {}

/-- The error values at the powers where the locator vanishes, by Forney's formula: each power of x with its value. -/
def rsErrors (syn lam : List Nat) : List (Nat × Nat) :=
  let omega := (List.range 28).map (fun i => (List.range (i + 1)).foldl (fun a j => Nat.xor a (gfMul (lam.getD j 0) (syn.getD (i - j) 0))) 0)
  let slope := (List.range lam.length).map (fun i => if i % 2 = 0 then lam.getD (i + 1) 0 else 0)
  (List.range 544).filterMap (fun k =>
    let inv := gfInv (gfPow k)
    if gfEval lam inv = 0 then some (k, gfMul (gfPow k) (gfMul (gfEval omega inv) (gfInv (gfEval slope inv)))) else none)

/-- A received word decoded: the codeword within 14 symbols of it and whether anything was corrected, or none (R266). -/
def rsDecode (c : List Nat) : Option (List Nat × Bool) :=
  let syn := rsSyndromes c
  if syn.all (fun s => decide (s = 0)) then some (c, false)
  else
    let l := rsLocator syn
    let errs := rsErrors syn l.lam
    let fixed := errs.foldl (fun c q => lmod c (543 - q.1) (fun s => Nat.xor s q.2)) c
    if l.len ≤ 14 ∧ errs.length = l.len ∧ rsValid fixed then some (fixed, true) else none

/-- The bits of symbols, each least significant bit first (R265). -/
def symbolBits (l : List Nat) : List Bool := l.flatMap (fun s => (List.range 10).map (fun i => s.testBit i))

/-! ### 8b/10b (R267, R297)

The code is that of IEEE 802.3 clause 36, whose tables the spec does not repeat: PRESUMED, log entry 108. -/

/-- The 6-bit sub-blocks abcdei of the values 0–31 at negative disparity, bit a leftmost. -/
def sub6 : List Nat :=
  [0b100111, 0b011101, 0b101101, 0b110001, 0b110101, 0b101001, 0b011001, 0b111000] ++
  [0b111001, 0b100101, 0b010101, 0b110100, 0b001101, 0b101100, 0b011100, 0b010111] ++
  [0b011011, 0b100011, 0b010011, 0b110010, 0b001011, 0b101010, 0b011010, 0b111010] ++
  [0b110011, 0b100110, 0b010110, 0b110110, 0b001110, 0b101110, 0b011110, 0b101011]

/-- The 4-bit sub-blocks fghj of the values 0–7 at negative disparity; 7 in its primary form. -/
def sub4 : List Nat := [0b1011, 0b1001, 0b0101, 0b1100, 0b1101, 0b1010, 0b0110, 0b1110]

/-- The ones among the low n bits of a number. -/
def onesIn (n w : Nat) : Nat := ((List.range n).filter (fun i => w.testBit i)).length

/-- A sub-block of n bits as sent at a running disparity: one with as many ones as zeros has one form, but for 111000 and 1100. -/
def subAt (n w : Nat) (pos : Bool) : Nat :=
  let twoForms := decide (2 * onesIn n w ≠ n) || decide (w = 2 ^ n - 2 ^ (n / 2))
  if pos && twoForms then 2 ^ n - 1 - w else w

/-- The running disparity after a sub-block of n bits: what it has more of, or what its all-equal halves end in, else as before. -/
def subDisparity (n w : Nat) (pos : Bool) : Bool :=
  if 2 * onesIn n w > n ∨ w = 2 ^ (n / 2) - 1 then true
  else if 2 * onesIn n w < n ∨ w = 2 ^ n - 2 ^ (n / 2) then false
  else pos

/-- A code group of ten bits, bit a leftmost. -/
def groupDisparity (w : Nat) (pos : Bool) : Bool := subDisparity 4 (w % 16) (subDisparity 6 (w / 16 % 64) pos)

/-- The data code group of a byte at a running disparity. -/
def dataGroup (b : Nat) (pos : Bool) : Nat :=
  let x := b % 32
  let y := b / 32 % 8
  let s := subAt 6 (sub6.getD x 0) pos
  let mid := subDisparity 6 s pos
  let alt := decide (y = 7) && ((!mid && (decide (x = 17) || decide (x = 18) || decide (x = 20))) ||
    (mid && (decide (x = 11) || decide (x = 13) || decide (x = 14))))
  s * 16 + (if alt then subAt 4 0b0111 mid else subAt 4 (sub4.getD y 0) mid)

/-- A special code group from its form at negative disparity. -/
def specialGroup (w : Nat) (pos : Bool) : Nat := if pos then 1023 - w else w

/-- K28.5, K28.0 and K27.7 at negative disparity. -/
def k28x5 : Nat := 0b0011111010
def k28x0 : Nat := 0b0011110100
def k27x7 : Nat := 0b1101101000

/-- A code group to send: a byte of data, or a special group by its form at negative disparity. -/
inductive CodeGroup where
  | data (b : Byte)
  | special (w : Nat)
deriving DecidableEq, Repr, Inhabited

/-- The ten bits of a code group at a running disparity. -/
def groupWord (pos : Bool) : CodeGroup → Nat
  | .data b => dataGroup b.toNat pos
  | .special w => specialGroup w pos

/-- Code groups encoded one after another, running disparity kept: their words and the disparity after them. -/
def encodeGroups : Bool → List CodeGroup → List Nat × Bool
  | pos, [] => ([], pos)
  | pos, g :: t =>
    let w := groupWord pos g
    let r := encodeGroups (groupDisparity w pos) t
    (w :: r.1, r.2)

/-- The bits of a code group in the order sent, a first. -/
def groupBits (w : Nat) : List Bool := (List.range 10).map (fun i => w.testBit (9 - i))

/-- The 33 code groups of a block: K27.7 heads a data block, K28.0 a control block (R267). -/
def blockGroups (ctl : Bool) (payload : List Byte) : List CodeGroup :=
  .special (if ctl then k28x0 else k27x7) :: payload.map .data

/-- The byte of a received data code group at a running disparity; none for a code-group or running-disparity error. -/
def groupByte (w : Nat) (pos : Bool) : Option Byte := ((List.range 256).find? (fun b => decide (dataGroup b pos = w))).map (BitVec.ofNat 8)

/-- Received data code groups decoded; none among them is an error. -/
def decodeBytes : Bool → List Nat → List (Option Byte) × Bool
  | pos, [] => ([], pos)
  | pos, w :: t =>
    let r := decodeBytes (groupDisparity w pos) t
    (groupByte w pos :: r.1, r.2)

/-- 33 received code groups as a block (R267): whether it is a control block, its payload, whether every group was good, and the running
disparity after it. -/
def decodeGroups (pos : Bool) (l : List Nat) : Bool × List Byte × Bool × Bool :=
  let h := l.headD 0
  let ctl := decide (h = specialGroup k28x0 pos)
  let r := decodeBytes (groupDisparity h pos) (l.drop 1)
  (ctl, r.1.map (fun b => b.getD 0), decide (l.length = 33) && (ctl || decide (h = specialGroup k27x7 pos)) && r.1.all Option.isSome, r.2)

/-! ### PAM4 -/

/-- The Gray symbol of the bits (g0, g1) (R298). -/
def graySymbol (g0 g1 : Bool) : Nat := if g1 then (if g0 then 2 else 3) else (if g0 then 1 else 0)

/-- The precoder: P(n) = (G(n) − P(n − 1)) mod 4 (R298). -/
def precode : Nat → List Nat → List Nat
  | _, [] => []
  | p, g :: t => (g + 4 - p % 4) % 4 :: precode ((g + 4 - p % 4) % 4) t

/-- The receiver's recovery of the Gray symbols (R298). -/
def unprecode : Nat → List Nat → List Nat
  | _, [] => []
  | p, q :: t => (q + p) % 4 :: unprecode q t

/-- The level of a precoded symbol, in units of a third of the full level (R298). -/
def pamLevel (p : Nat) : Int := 2 * (p % 4 : Nat) - 3

/-! ### Transmit taps -/

/-- The taps pre2, pre1, main, post1 of presets P0–P10, in 1/32 (R300). -/
def presetTaps : Nat → List Int
  | 0 => [0, 0, 32, 0]
  | 1 => [0, 0, 28, -4]
  | 2 => [0, 0, 24, -8]
  | 3 => [0, 0, 20, -12]
  | 4 => [0, -2, 26, -4]
  | 5 => [0, -4, 22, -6]
  | 6 => [0, -4, 20, -8]
  | 7 => [0, -6, 18, -8]
  | 8 => [-1, -4, 21, -6]
  | 9 => [-2, -6, 18, -6]
  | 10 => [-2, -4, 20, -6]
  | _ => [0, 0, 32, 0]

/-- The custom taps of a LANE_FFE word. -/
def customTaps (w : Word) : List Int := [sInt 5 (fld w 28 24), sInt 5 (fld w 20 16), fld w 13 8, sInt 5 (fld w 4 0)]

/-- Custom taps that the transmitter refuses (R301). -/
def tapsRefused (t : List Int) : Bool :=
  decide (t.getD 2 0 = 0) || decide (32 < (t.map Int.natAbs).foldl (· + ·) 0)

/-- The preset that auto selects: a configuration of CFG_TRUNK, or 4 for TRET and the feeder returns (R301). -/
def autoPreset (config : Nat) : Nat :=
  match config with
  | 0 => 1
  | 1 => 2
  | 2 => 5
  | 3 => 2
  | _ => 0

/-- The preset in use as a TRAIN block names it: 0–10, or 15 for custom (R301, R309). -/
def presetInUse (cfg ffe : Word) (config : Nat) : Nat :=
  let p := fld cfg 3 0
  if p ≤ 10 then p
  else if p = 15 then (if tapsRefused (customTaps ffe) then 0 else 15)
  else autoPreset config

/-- The transmit taps in force (R300, R301). -/
def txTaps (cfg ffe : Word) (config : Nat) : List Int :=
  let p := presetInUse cfg ffe config
  if p = 15 then customTaps ffe else presetTaps p

/-- The transmitter's output in units of A/32 of the symbols x(n + 2), x(n + 1), x(n), x(n − 1) (R300). -/
def txOut (taps x : List Int) : Int := (List.zipWith (· * ·) taps x).foldl (· + ·) 0

/-! ### Receive equalisation -/

/-- The range of DFE tap k, 1–12 (R303). -/
def tapRange (k : Nat) : Int := if k = 1 then 128 else if k ≤ 4 then 64 else 32

/-- The DFE's correction: Σ c_k d(n − k) (R303). -/
def dfeSum (c d : List Int) : Int := (List.zipWith (· * ·) c d).foldl (· + ·) 0

/-- One sign-sign LMS update of the taps by the slicer error and the twelve decided levels (R304). -/
def dfeUpdate (c : List Int) (e : Int) (d : List Int) : List Int :=
  c.zipIdx.map (fun q => clampI (q.1 + e.sign * (d.getD q.2 0).sign) (-(tapRange (q.2 + 1))) (tapRange (q.2 + 1) - 1))

/-- The figure of merit of a window: level spacing a and error magnitude q (R305). -/
def fomOf (a q : Int) : Nat := (clampI (256 * (a - 2 * q) / (if a ≤ 0 then 1 else a)) 0 255).toNat

/-! ### Test patterns -/

/-- The taps of a pattern's generator (R323): PRBS7, 15, 23, 31, and under PRBS13Q the PRBS13 of IEEE 802.3, x^13 + x^12 + x^2 + x + 1
(PRESUMED, log entry 108). -/
def prbsTaps : Nat → List Nat
  | 0 => [7, 6]
  | 1 => [15, 14]
  | 2 => [23, 18]
  | 4 => [13, 12, 2, 1]
  | _ => [31, 28]

/-- The next bit of a PRBS from the bits before it, the latest first (R323). -/
def prbsNext (pattern : Nat) (h : List Bool) : Bool := (prbsTaps pattern).foldl (fun a k => xor a (h.getD (k - 1) false)) false

/-- The next n bits of a PRBS, and the bits before the one that follows. -/
def prbsRun (pattern : Nat) : Nat → List Bool → List Bool × List Bool
  | 0, h => ([], h)
  | n + 1, h =>
    let b := prbsNext pattern h
    let r := prbsRun pattern n ((b :: h).take 31)
    (b :: r.1, r.2)

/-- PRBS31Q is made of the PRBS31 of IEEE 802.3 (49.2.8), whose generator's output is inverted (PRESUMED, log entry 108). -/
def prbsInverted (pattern : Nat) : Bool := decide (pattern = 5)

/-- The next n bits that a generator sends, and the bits before the one that follows (R323). -/
def prbsSend (pattern n : Nat) (h : List Bool) : List Bool × List Bool :=
  let r := prbsRun pattern n h
  (r.1.map (fun b => xor b (prbsInverted pattern)), r.2)

/-- Bytes of a run of bits, the first bit as bit 0 (R308). -/
def bytesOfBits (bits : List Bool) : Nat → List Byte
  | 0 => []
  | n + 1 => BitVec.ofNat 8 ((bits.take 8).zipIdx.foldl (fun a q => a + bnat q.1 * 2 ^ q.2) 0) :: bytesOfBits (bits.drop 8) n

/-- The Gray symbols of a run of bits, two at a time, the first bit sent as g0 (R298). -/
def grayPairs : List Bool → List Nat
  | g0 :: g1 :: t => graySymbol g0 g1 :: grayPairs t
  | _ => []

/-- The two bits of a Gray symbol, g0 first (R298). -/
def grayBits (s : Nat) : List Bool := [decide (s = 1) || decide (s = 2), decide (2 ≤ s % 4)]

end Sys2Proof.Machine
end

