-- ==== Sys2Proof/Machine/Lanes.lean ====
section
/-! DEFINITION. Lanes and their groups: training, equalisation, idle, LISTEN and test (spec/10_lanes.md R294–R325, R505). -/

namespace Sys2Proof.Machine

/-! ### Which lanes -/

/-- The lanes of a configuration code of CFG_TRUNK (spec/09_caravan_link.md R262). -/
def configLanes (c : Nat) : Nat := if c = 0 then 1 else if c = 1 then 2 else 4

/-- The group of a lane (R294). -/
def laneGroup (n : Nat) : Nat := if n ≤ 4 then 0 else if n ≤ 9 then 1 else 2

/-- The receive lanes in use of a group (R295). -/
def rxLanes (d : Dev) (g : Nat) : List Nat :=
  if g = 0 then [4] else (List.range (configLanes (vget d.groups g).config)).map (· + 5 * g)

/-- The transmit lanes in use of a group (R295). -/
def txLanes (d : Dev) (g : Nat) : List Nat :=
  if g = 0 then List.range (configLanes (vget d.groups g).config) else [4 + 5 * g]

/-- The lanes in use of a group. -/
def useLanes (d : Dev) (g : Nat) : List Nat := txLanes d g ++ rxLanes d g

/-- The power domain of a lane (R294). -/
def laneDomain (n : Nat) : Nat :=
  if n ≤ 4 then n + 9 else if n ≤ 8 then n + 9 else if n = 9 then 22 else if n ≤ 13 then n + 8 else 23

/-- The fault source of a group's entry to LISTEN (R325). -/
def listenSource (g : Nat) : Nat := 114 + g

/-- The events of a lane are reported in LANE_EVENTS. -/
def laneEvent (d : Dev) (n mask : Nat) : Dev := stat d .lane n 0xC mask

/-- An event is reported on every lane in use of a group. -/
def groupEvent (d : Dev) (g mask : Nat) : Dev := (useLanes d g).foldl (fun d n => laneEvent d n mask) d

/-! ### Discarded packets -/

/-- k packets of a group's receive link are discarded: LINK counts the device's own links, a FEEDER block its feeder's
(spec/09_caravan_link.md R278, R293). -/
def countDiscard (d : Dev) (g k : Nat) : Dev :=
  if k = 0 then d
  else if g = 0 then addSat d .link 0 0x10 31 16 k
  else report (addSat (stat d .feeder (g - 1) 8 1) .feeder (g - 1) 0x10 15 0 k) (111 + g)

/-- Every open packet of a group's receive link is discarded. -/
def discardOpens (d : Dev) (g : Nat) : Dev :=
  let k := ((vget d.groups g).opens.filter (fun q => !q.2.drop)).length
  countDiscard (onGroup d g (fun x => { x with opens := [] })) g k

/-! ### Transmitters -/

/-- The transmitters of a group latch LANE_CFG and LANE_FFE; refused custom taps are reported (R301, R302). -/
def latchTx (d : Dev) (g : Nat) : Dev :=
  (txLanes d g).foldl (fun d n =>
    let c := get d .lane n 0
    let f := get d .lane n 4
    let d1 := onLane d n (fun l => { l with cfg := c, ffe := f })
    if fld c 3 0 = 15 ∧ tapsRefused (customTaps f) then reportAt (laneEvent d1 n 0x10) 117 (unitBase .lane n) else d1) d

/-- The configuration that auto presets go by: the trunk's own, or that of TRET and the returns. -/
def txConfig (d : Dev) (g : Nat) : Nat := if g = 0 then (vget d.groups 0).config else 4

/-- The taps a transmit lane drives (R300, R301). -/
def laneTaps (d : Dev) (n : Nat) : List Int :=
  txTaps (vget d.lanes n).cfg (vget d.lanes n).ffe (txConfig d (laneGroup n))

/-! ### What a lane sends -/

/-- A piece of what a lane sends: levels as they are, bits of a test pattern, the two K28.5 of R267, or a block. -/
inductive Piece where
  | levels (l : List Int)
  | pattern (bits : List Bool)
  | commas
  | block (ctl : Bool) (payload : List Byte)
deriving DecidableEq, Repr, Inhabited

/-- The full levels of NRZ bits. -/
def nrzLevels (bits : List Bool) : List Int := bits.map (fun b => if b then 3 else -3)

/-- Code groups sent on an NRZ lane (R297). -/
def sendGroups (t : TxLane) (l : List CodeGroup) : List Int × TxLane :=
  let r := encodeGroups t.rdPos l
  (nrzLevels (r.1.flatMap groupBits), { t with rdPos := r.2 })

/-- Bits sent on a PAM4 lane, Gray coded and precoded (R298). -/
def sendPrecoded (t : TxLane) (bits : List Bool) : List Int × TxLane :=
  let p := precode t.prev (grayPairs bits)
  (p.map pamLevel, { t with prev := p.getLastD t.prev })

/-- A block sent on a PAM4 lane: scrambled, and after the twentieth of its codeword the 28 parity symbols
(spec/09_caravan_link.md R263–R265). -/
def sendPamBlock (t : TxLane) (ctl : Bool) (payload : List Byte) : List Int × TxLane :=
  let r := blockBits t.hist ctl payload
  let w := t.word ++ r.1
  if 5160 ≤ w.length then sendPrecoded { t with hist := r.2, word := [] } (r.1 ++ symbolBits (rsParity (symbolsOf w 516)))
  else sendPrecoded { t with hist := r.2, word := w } r.1

/-- One piece sent on a lane, PAM4 or NRZ. -/
def sendPiece (pam : Bool) (t : TxLane) : Piece → List Int × TxLane
  | .levels l => (l, t)
  | .pattern bits => (if pam then (grayPairs bits).map pamLevel else nrzLevels bits, t)
  | .commas => if pam then ([], t) else sendGroups t [.special k28x5, .special k28x5]
  | .block ctl payload => if pam then sendPamBlock t ctl payload else sendGroups t (blockGroups ctl payload)

/-- Pieces sent one after another. -/
def sendPieces (pam : Bool) : TxLane → List Piece → List Int × TxLane
  | t, [] => ([], t)
  | t, p :: l =>
    let a := sendPiece pam t p
    let b := sendPieces pam a.2 l
    (a.1 ++ b.1, b.2)

/-- The taps run over levels: each level sent completes the look-ahead of the one two before it (R300). -/
def driveLevels (taps : List Int) : List Int → List Int → List Int × List Int
  | h, [] => ([], h)
  | h, z :: l =>
    let r := driveLevels taps (h.drop 1 ++ [z]) l
    (txOut taps [z, h.getD 2 0, h.getD 1 0, h.getD 0 0] :: r.1, r.2)

/-- A of R300 in mV, its sign by LANE_CFG.tx_invert: 2A is 300 + 50 × swing mV (spec/17_pins_and_electrical.md). -/
def swingOf (cfg : Word) : Int := (if flag cfg 4 then -1 else 1) * (150 + 25 * (fld cfg 11 8 : Nat))

/-- A transmit lane sends in PAM4 (spec/09_caravan_link.md R262). -/
def txPam (d : Dev) (n : Nat) : Bool := decide (n ≤ 3) && decide (2 ≤ (vget d.groups 0).config)

/-- The transmitter after levels have been sent through its taps. -/
def txDriven (l : Lane) (taps : List Int) (r : List Int × TxLane) : TxLane :=
  let y := driveLevels taps l.tx.held r.1
  { r.2 with held := y.2, line := r.1, drive := y.1.map (· * swingOf l.cfg) }

/-- Lane n sends pieces: what it sent and drove is kept with its transmitter (R297–R300). -/
def emit (d : Dev) (n : Nat) (l : List Piece) : Dev :=
  let taps := laneTaps d n
  let pam := txPam d n
  onLane d n (fun x => { x with tx := txDriven x taps (sendPieces pam x.tx l) })

/-- A block sent on a lane. -/
def emitBlock (d : Dev) (n : Nat) (b : Block) : Dev := emit d n [.block b.ctl b.bytes]

/-- A lane drives a differential level of 0 from now on. -/
def laneQuiet (d : Dev) (n : Nat) : Dev :=
  onLane d n (fun l => { l with tx := { l.tx with held := [0, 0, 0], rdPos := false } })

/-- The lanes of a group fall silent; running disparity is negative when one sends again (R297). -/
def groupQuiet (d : Dev) (g : Nat) : Dev := (txLanes d g).foldl laneQuiet d

/-- A training stream starts on a group's transmit lanes: a codeword begins, the scrambler's history is all ones and P is 0 (R298, R299,
R308). -/
def startStream (d : Dev) (g : Nat) : Dev :=
  (txLanes d g).foldl (fun d n => onLane d n (fun l => { l with tx := { l.tx with hist := allOnes58, word := [], prev := 0, unit := 0 } })) d

/-! ### Attempts -/

/-- The acquisition steps of R306. -/
def acquireSteps : List Nat := [8, 11, 5, 14, 2]

/-- A receiver hunts for valid headers from none (spec/09_caravan_link.md R268, R269). -/
def huntAgain (d : Dev) (n : Nat) : Dev := onLane d n (fun l => { l with rx := .hunt, rcv := { l.rcv with good := 0, blocks := [] } })

/-- A receiver starts to acquire from the first step (R306). -/
def startAcquire (d : Dev) (n : Nat) : Dev :=
  let fixed := getB d .lane n 0 24
  let step := if fixed then getF d .lane n 0 28 25 else 8
  onLane (huntAgain d n) n (fun l => { l with
    search := .acquire 0, ctle := step, dfe := List.replicate 12 0, matched := false, fomKnown := false, lowRun := 0 })

/-- What follows when a packet has left, or is given up: its staging slot, record slot or buffer space is free. -/
def packetGone (d : Dev) (p : Packet) : Dev :=
  match p.kind with
  | .plain => d
  | .viewLine v _ => onView d v (fun x => { x with used := x.used - 1 })
  | .harvest c slot keep =>
    let d1 := onCtx d c (fun x => { x with harvBusy := x.harvBusy.filter (· ≠ slot) })
    if keep then d1
    else
      match p.inPan with
      | some (off, _) => panWrite d1 (off + 7) [0x01#8]
      | none => d1
  | .tapRow c _ => onTap d c (fun t => { t with rows := t.rows.drop 1 })
  | .through f _ bytes => onTrunk d (fun t => { t with fill := lmod t.fill f (· - bytes) })

/-- The trunk's packets in progress and a change cycle of its map end: the generation does not advance, and the staged map stays staged
(spec/09_caravan_link.md R284). -/
def trunkStops (d : Dev) : Dev :=
  let d1 := if d.trunk.cycle = none then d else put d .tt 0 8 (BitVec.ofNat 32 (getF d .tt 0 8 7 0))
  let d2 := d1.trunk.curs.foldl (fun d q => packetGone d q.2.pkt) d1
  onTrunk d2 (fun t => { t with curs := [], cycle := none, newMap := [], since := [] })

/-- A training attempt of a group begins (R302, R306, R312): transmitters latch and send the training stream, receivers hunt. A stream that
is on goes on through the next attempt. -/
def beginAttempt (d : Dev) (g attempt : Nat) : Dev :=
  let d1 := onGroup (discardOpens d g) g (fun x => { x with
    state := .training, attempt := attempt, tx := .training, trained := [], lockSeen := false, deskewed := false, deskewBad := false,
    entering := false, trains := 0, anchored := false, fallowOn := [], rxStream := true, sending := none, map := none, nextMap := none, pendEnd := none,
    frags := [] })
  let d2 := if g = 0 then trunkStops d1 else d1
  let d3 := if (vget d.groups g).tx = .training then d2 else startStream d2 g
  (rxLanes d3 g).foldl startAcquire (latchTx d3 g)

/-- A group goes to OFF: its lanes turn off (R312). -/
def groupOff (d : Dev) (g : Nat) : Dev :=
  let d1 := (useLanes d g).foldl (fun d n => onLane d n (fun l => { l with rx := .off, signal := false, partner := false })) (discardOpens d g)
  let d2 := groupQuiet (if g = 0 then trunkStops d1 else d1) g
  onGroup d2 g (fun x => { x with
    state := .off, attempt := 0, tx := .silent, hold := false, entering := false, trains := 0, anchored := false, trained := [],
    lockSeen := false, fallowOn := [], rxStream := true, sending := none, map := none, nextMap := none, pendEnd := none, frags := [],
    retQueue := [] })

/-- A group leaves OFF for TRAINING or WAIT_LINE at a configuration: its LISTEN fault may be raised again (R312, R505), and its streams
start afresh. -/
def groupConfig (d : Dev) (g config : Nat) : Dev :=
  onGroup (groupQuiet d g) g (fun x => { x with config := config, faultArm := true, tx := .silent })

/-- A group enters LISTEN (R312, R314, R505); the fault is raised unless a partner's FALLOW_ENTER brought it there. -/
def enterListen (d : Dev) (g : Nat) (fault : Bool) : Dev :=
  let x := vget d.groups g
  let d1 := onGroup (discardOpens d g) g (fun x => { x with
    state := .listen, attempt := 16, tx := (if g = 0 then .silent else .training), trains := 0, anchored := false, faultArm := false,
    trained := [], lockSeen := false, fallowOn := [], rxStream := true, entering := false, sending := none, map := none, nextMap := none,
    pendEnd := none, frags := [] })
  let d2 := if g = 0 then groupQuiet (trunkStops d1) 0 else if x.tx = .training then d1 else startStream d1 g
  let d3 := (rxLanes d2 g).foldl (fun d n => onLane (huntAgain d n) n (fun l => { l with
    ctle := 8, search := .acquire 0, silent := !l.signal })) d2
  let d4 := groupEvent d3 g 4
  if fault && x.faultArm then report d4 (listenSource g) else d4

/-- A feeder's group goes to WAIT_LINE without a fault (R312). -/
def waitLine (d : Dev) (g : Nat) : Dev := onGroup (groupOff d g) g (fun x => { x with state := .waitLine, faultArm := true })

/-- A READY group retrains, and one in LISTEN starts afresh (R313, R505). -/
def retrain (d : Dev) (g : Nat) : Dev := beginAttempt d g 1

/-! ### Readiness -/

/-- A receive lane meets R310. -/
def laneReady (d : Dev) (n : Nat) : Bool :=
  let l := vget d.lanes n
  decide (l.rx = .locked) && decide (l.search = .done) && l.fomKnown && decide (getF d .lane n 0 23 16 ≤ l.fom) && l.matched &&
  (vget d.groups (laneGroup n)).deskewed

/-- Every receive lane in use of a group is LOCKED or in HOLD: the rx_lock bit it sends (R272, R317). -/
def rxLock (d : Dev) (g : Nat) : Bool :=
  (rxLanes d g).all (fun n => decide ((vget d.lanes n).rx = .locked) || decide ((vget d.lanes n).rx = .hold))

/-- The group's receive side is rx_ready (R310). -/
def rxReady (d : Dev) (g : Nat) : Bool := (rxLanes d g).all (laneReady d)

/-- The device may feed IDENTITY to its children: it holds an ID of 0–6 (R24, R25). -/
def hasChildren (d : Dev) : Bool := getB d .glob 0 0x10 31 && decide (getF d .glob 0 0x10 19 16 ≤ 6)

/-- A group becomes READY (R311): the packet hold begins, the receiver's map is unknown while its slots go on from the milestone that anchored
them, packets still open are discarded, a feeder's IDENTITY is due. -/
def becomeReady (d : Dev) (g : Nat) : Dev :=
  let woken := decide ((vget d.groups g).state = .wake)
  let d1 := onGroup (discardOpens d g) g (fun x => { x with
    state := .ready, hold := true, faultArm := true, deskewBad := false, lockNow := true, map := none, nextMap := none, pendEnd := none,
    frags := [], opens := [], fallowOn := [], entering := false, sending := none, trains := 0, anchored := false, tx := (if woken then .blocks else .training) })
  if g = 0 then act (onTrunk (trunkStops d1) (fun t => { t with slot := if woken then t.slot else 0 })) .trunkReady
  else if hasChildren d1 then onGroup d1 g (fun x => { x with idDue := true }) else d1

/-- A group in TRAINING or WAKE becomes READY when R311 holds. -/
def tryReady (d : Dev) (g : Nat) : Dev :=
  let x := vget d.groups g
  if (decide (x.state = .training) || decide (x.state = .wake)) && rxReady d g &&
     (x.lockSeen || (rxLanes d g).all (fun n => x.trained.contains n))
  then becomeReady d g else d

/-- A link is deskewed at lock when it has one lane (R310). -/
def deskewOne (d : Dev) (g : Nat) : Dev :=
  if (rxLanes d g).length = 1 then onGroup d g (fun x => { x with deskewed := true }) else d

/-! ### Receivers -/

/-- A receive lane carries PAM4 under its group's configuration (spec/09_caravan_link.md R262). -/
def rxPam (d : Dev) (n : Nat) : Bool := decide (n ≠ 4) && decide (2 ≤ (vget d.groups (laneGroup n)).config)

/-- The consecutive valid headers that lock a receiver: 160 blocks of 8 codewords in PAM4, 64 in 8b/10b (spec/09_caravan_link.md R268,
R269). -/
def lockCount (d : Dev) (n : Nat) : Nat := if rxPam d n then 160 else 64

/-- A hunting receiver judges headers, one valid or not after the other: in PAM4 a candidate is in VERIFY, and an invalid header slips it by
one symbol (spec/09_caravan_link.md R268, R269). -/
def judgeHeaders (pam : Bool) (need : Nat) : RxState × RxLane → List Bool → RxState × RxLane
  | s, [] => s
  | s, true :: t =>
    if need ≤ s.2.good + 1 then (.locked, { s.2 with good := need })
    else judgeHeaders pam need (if pam then .verify else s.1, { s.2 with good := s.2.good + 1 }) t
  | s, false :: t =>
    judgeHeaders pam need (.hunt, { s.2 with good := 0, slip := (if pam then s.2.slip + 1 else s.2.slip) }) t

/-- Where the search of R306 goes on once a receiver has locked; in LISTEN the CTLE stays at step 8 (R505). -/
def searchLocked (d : Dev) (n : Nat) (l : Lane) : Lane :=
  if getB d .lane n 0 24 then { l with search := .done }
  else if (vget d.groups (laneGroup n)).state = .listen then l
  else match l.search with
    | .acquire _ => { l with search := .measure 0 0 0, ctle := 0 }
    | _ => l

/-- No acquisition step of the attempt has reached LOCKED, so the lane stays unlocked for the rest of it (R306). -/
def searchFailed (d : Dev) (n : Nat) : Bool :=
  decide ((vget d.groups (laneGroup n)).state = .training) && decide ((vget d.lanes n).search = .acquire 5)

/-- A receiver judges the headers of the blocks that have arrived, `hist` being the last payload bits received with them; with enough valid
ones it is LOCKED, and its search goes on (R306; spec/09_caravan_link.md R264, R268, R269). -/
def laneLocked (d : Dev) (n : Nat) (headers hist : List Bool) : Dev :=
  let g := laneGroup n
  let l := vget d.lanes n
  if (decide (l.rx = .hunt) || decide (l.rx = .verify)) && (rxLanes d g).contains n && !(searchFailed d n) then
    let s := judgeHeaders (rxPam d n) (lockCount d n) (l.rx, l.rcv) headers
    let rcv := { s.2 with hist := (hist ++ l.rcv.hist).take 58 }
    let d1 := onLane d n (fun l => { l with rx := s.1, rcv := rcv })
    if s.1 = .locked then tryReady (deskewOne (onLane d1 n (searchLocked d n)) g) g else d1
  else d

/-- The link source of the device's own links for a loss of lock or a codeword error: reported in READY (R314, R325). -/
def linkFault (d : Dev) : Dev := if (vget d.groups 0).state = .ready then report d 109 else d

/-- A LOCKED receiver has lost lock: HUNT, and its link's open packets are discarded (R268, R269). -/
def lockLost (d : Dev) (n : Nat) : Dev :=
  let g := laneGroup n
  if (vget d.lanes n).rx = .locked then
    let d1 := discardOpens (huntAgain d n) g
    let d2 := if (vget d.groups g).state = .ready then laneEvent d1 n 1 else d1
    if g = 0 then linkFault (stat d2 .link 0 4 8) else d2
  else d

/-- A step of the acquisition sequence has passed without lock (R306). -/
def ctleTimeout (d : Dev) (n : Nat) : Dev :=
  let l := vget d.lanes n
  if decide ((vget d.groups (laneGroup n)).state = .training) && l.signal && !(getB d .lane n 0 24) && decide (l.rx ≠ .locked) then
    match l.search with
    | .acquire k => if k < 5 then onLane d n (fun l => { l with
        search := .acquire (k + 1), ctle := acquireSteps.getD (k + 1) l.ctle, rx := .hunt, rcv := { l.rcv with good := 0 } }) else d
    | _ => d
  else d

/-- The search after a window at the step it measures: the best step so far, and at the end the choice (R306). -/
def searchNext (l : Lane) (fom : Nat) : Lane :=
  match l.search with
  | .measure k best bestFom =>
    let b := if k = 0 ∨ bestFom < fom then k else best
    let f := if k = 0 ∨ bestFom < fom then fom else bestFom
    if k < 15 then { l with search := .measure (k + 1) b f, ctle := k + 1 } else { l with search := .done, ctle := b }
  | _ => l

/-- The updates that a window of 2^20 UI makes: one every 2^μ × 64 UI, μ by the figure of merit (R304). -/
def updatesDue (d : Dev) (n : Nat) : Nat :=
  2 ^ (14 - (if (vget d.lanes n).fom < 128 then getF d .lane n 0x1C 2 0 else getF d .lane n 0x1C 6 4))

/-- Nothing of a lane adapts: LANE_ADAPT.freeze, or HOLD (R304). -/
def adaptOff (d : Dev) (n : Nat) : Bool := getB d .lane n 0x1C 8 || decide ((vget d.lanes n).rx = .hold)

/-- The low check of a READY group's lane after a window; any good window re-arms its report (R307). -/
def fomLow (d : Dev) (n : Nat) (fom : Nat) : Dev :=
  let l := vget d.lanes n
  if getF d .lane n 0 23 16 ≤ fom then onLane d n (fun l => { l with lowRun := 0, lowSent := false })
  else if (vget d.groups (laneGroup n)).state ≠ .ready then d
  else if l.lowRun = 3 ∧ l.lowSent = false then
    reportAt (laneEvent (onLane d n (fun l => { l with lowRun := 4, lowSent := true })) n 8) 117 (unitBase .lane n)
  else onLane d n (fun l => { l with lowRun := min 4 (l.lowRun + 1) })

/-- An FOM window of a receiver completes (R304–R307), with the level spacing a and the error magnitude q measured, the errors and decided
levels of its updates, and the thresholds and reference level it ends with: the taps adapted, the figure shown, the search and the low check
go on. A receiver in OFF has no window. -/
def fomWindow (d : Dev) (n : Nat) (a q : Int) (ups : List (Int × List Int)) (slicer : List Int) : Dev :=
  let l := vget d.lanes n
  if l.rx = .off then d
  else
    let fom := fomOf a q
    let l1 := { l with fom := fom, fomKnown := true }
    let l2 := if adaptOff d n then l1
      else { l1 with dfe := (ups.take (updatesDue d n)).foldl (fun c u => dfeUpdate c u.1 u.2) l.dfe, rcv := { l.rcv with slicer := slicer } }
    let d1 := onLane d n (fun _ => if l.rx = .locked then searchNext l2 fom else l2)
    tryReady (if (rxLanes d (laneGroup n)).contains n then fomLow d1 n fom else d1) (laneGroup n)

/-- A signal appears on a receive lane (R306, R505). -/
def signalDetect (d : Dev) (n : Nat) : Dev :=
  let g := laneGroup n
  let l := vget d.lanes n
  if (rxLanes d g).contains n && !l.signal then
    let d1 := onLane d n (fun l => { l with signal := true, silent := false })
    if decide ((vget d.groups g).state = .listen) && l.silent then beginAttempt d1 g 1
    else if decide ((vget d.groups g).state = .training) && decide (l.rx ≠ .locked) then
      onLane (startAcquire d1 n) n (fun l => { l with signal := true })
    else d1
  else d

/-- The signal of a receive lane is lost for 1 µs (R306, R505). -/
def signalLost (d : Dev) (n : Nat) : Dev :=
  let g := laneGroup n
  let l := vget d.lanes n
  if l.signal then
    let d1 := onLane d n (fun l => { l with signal := false, silent := decide ((vget d.groups g).state = .listen) || l.silent })
    if decide ((vget d.groups g).state = .training) && decide (l.rx ≠ .locked) then startAcquire d1 n else d1
  else d

/-- Byte 2 of a TRAIN or MILESTONE block that the group expects on its receive lane n (R272, R310). -/
def expectByte2 (d : Dev) (n : Nat) : Nat :=
  let g := laneGroup n
  if g = 0 then 0
  else
    let c := (vget d.groups g).config
    (n - 5 * g) + (configLanes c - 1) * 4 + c * 16

/-- Byte 2 of a block on a receive lane is checked (R310). -/
def checkByte2 (d : Dev) (n b : Nat) : Dev :=
  if b = expectByte2 d n then onLane d n (fun l => { l with matched := true })
  else laneEvent (onLane d n (fun l => { l with matched := false })) n 0x20

/-- The status byte of a block that arrived on a group's receive link (R272, R311, R396). -/
def statusByte (d : Dev) (g b : Nat) : Dev :=
  let lock := decide (b % 2 = 1)
  let d1 := onGroup d g (fun x => { x with lockNow := lock, lockSeen := x.lockSeen || lock, forcedIn := decide (b / 2 % 2 = 1) })
  tryReady ((useLanes d1 g).foldl (fun d n => onLane d n (fun l => { l with partner := lock })) d1) g

/-- A control block whose CRC-16 fails: counted and reported on the device's own links, in every state (spec/09_caravan_link.md R272,
R293). -/
def badSeal (d : Dev) (g : Nat) : Dev :=
  if g = 0 then report (addSat (stat d .link 0 4 2) .link 0 0xC 15 0 1) 109 else d

/-- A TRAIN block with phase TRAINING on lane n of a group: attempt number and rx_ready (R311, R313, R319, R505); it is of a training stream
(R308). -/
def trainPhase (d0 : Dev) (g n attempt : Nat) (ready : Bool) : Dev :=
  let d := onGroup d0 g (fun x => { x with rxStream := true })
  let x := vget d.groups g
  let held := decide ((vget d.lanes n).rx = .hold)
  match x.state with
  | .ready => if !ready || held then retrain d g else d
  | .eidle => if held then retrain d g else d
  | .listen => if attempt = 1 then beginAttempt d g 1 else d
  | .training | .wake =>
    if held then retrain d g
    else tryReady (onGroup d g (fun x => { x with
      trained := (if ready then (if x.trained.contains n then x.trained else x.trained ++ [n]) else x.trained.filter (· ≠ n)) })) g
  | _ => d

/-- A TRAIN block with phase FALLOW_ENTER on lane n of a group: with one on every lane in use the group goes to LISTEN, without a fault, from
every state but OFF (R312). -/
def fallowPhase (d : Dev) (g n : Nat) : Dev :=
  let d1 := onGroup d g (fun x => { x with fallowOn := (if x.fallowOn.contains n then x.fallowOn else x.fallowOn ++ [n]) })
  if (rxLanes d1 g).all (fun m => (vget d1.groups g).fallowOn.contains m) then enterListen d1 g false else d1

/-- A TRAIN block arrives on a receive lane (R309–R313, R317, R319, R505). -/
def trainBlock (d : Dev) (n : Nat) (bs : List Byte) : Dev :=
  let g := laneGroup n
  let x := vget d.groups g
  let byte := fun i => (bs.getD i 0).toNat
  let phase := byte 3 % 16
  let ready := decide (byte 3 / 16 % 2 = 1)
  if x.state = .off ∨ ¬ (rxLanes d g).contains n then d
  else if !(sealOk bs) then badSeal d g
  else if phase = 3 then fallowPhase d g n
  else if x.state = .waitLine ∨ x.state = .test then d
  else if phase = 1 then trainPhase (onLane (checkByte2 d n (byte 2)) n (fun l => { l with partner := ready })) g n (byte 4) ready
  else if phase = 2 then onLane d n (fun l => { l with rx := .hold })
  else d

/-! ### Test modes -/

/-- The domains of a group's lanes in use are on. -/
def groupPowered (d : Dev) (g : Nat) : Bool := (useLanes d g).all (fun n => domainOn d (laneDomain n))

/-- A lane is PAM4 under its group's configuration (R262). -/
def lanePam4 (d : Dev) (n : Nat) : Bool :=
  let c := if n ≤ 3 then (vget d.groups 0).config else if 5 ≤ n ∧ n ≤ 8 then getF d .feeder 0 0 2 1
    else if 10 ≤ n ∧ n ≤ 13 then getF d .feeder 1 0 2 1 else 0
  decide (2 ≤ c)

/-- The domains of feeder f's lanes in use, as FEED_CFG configures it, and of lane n are on. -/
def feederLit (d : Dev) (f n : Nat) : Bool :=
  domainOn d (laneDomain n) && domainOn d (laneDomain (9 + 5 * f)) &&
  (List.range (configLanes (getF d .feeder f 0 2 1))).all (fun i => domainOn d (laneDomain (5 + 5 * f + i)))

/-- The pattern that a write of LANE_TEST names is not one of the other coding (R323); codes 6 and 7 name none. -/
def patternFits (d : Dev) (n : Nat) (w : Word) : Bool := decide (6 ≤ fld w 6 4) || (decide (4 ≤ fld w 6 4) == lanePam4 d n)

/-- A write of LANE_TEST is accepted (R322, R323): whatever its mode, a pattern of the other coding is rejected. -/
def laneTestOk (m : Mode) (d : Dev) (n : Nat) (w : Word) : Bool :=
  let mode := fld w 2 0
  let pat := fld w 6 4
  let g := laneGroup n
  let transmit := decide (n ≤ 3) || decide (n = 9) || decide (n = 14)
  if !(patternFits d n w) then false
  else if mode = 0 then true
  else if 5 ≤ mode ∨ 6 ≤ pat then false
  else
    (decide (m = .diag) || (decide (0 < g) && !(getB d .feeder (g - 1) 0 0) && feederLit d (g - 1) n)) &&
    (if mode = 1 ∨ mode = 2 then transmit else if mode = 3 then decide (n = 4) else true)

/-- The test mode of a lane. -/
def testMode (d : Dev) (n : Nat) : Nat := getF d .lane n 0x20 2 0

/-- The pattern of a lane. -/
def testPattern (d : Dev) (n : Nat) : Nat := getF d .lane n 0x20 6 4

/-- Some lane of a group is in a test mode. -/
def testing (d : Dev) (g : Nat) : Bool := (List.range 15).any (fun n => decide (laneGroup n = g) && decide (testMode d n ≠ 0))

/-- Traffic of a group stops for a test (R312). -/
def groupTests (d : Dev) (g : Nat) (t : TxDrive) : Dev :=
  let d1 := groupQuiet (discardOpens d g) g
  let d2 := onGroup d1 g (fun x => { x with state := .test, tx := t, entering := false, sending := none })
  if g = 0 then trunkStops d2 else d2

/-- The checker of a lane seeds itself afresh. -/
def reseed (l : Lane) : Lane := { l with checkLock := false, rcv := { l.rcv with seed := [], right := 0, wrong := [] } }

/-- LANE_TEST.mode or pattern of a lane has been written, the mode from `old` (R312, R322): no test mode takes a group out of OFF, and the
far-end loop waits for its 1 ms (R324). -/
def laneTestApply (d : Dev) (n old : Nat) : Dev :=
  let g := laneGroup n
  let mode := testMode d n
  let state := (vget d.groups g).state
  if mode = 3 then d
  else if mode ≠ 0 then
    let d1 := onLane d n (fun l => { reseed l with rx := (if mode ≤ 2 then .monitor else l.rx) })
    if state = .off then d1 else groupTests d1 g .pattern
  else if old ≠ 0 then
    let d1 := laneQuiet (onLane d n (fun l => { reseed l with rx := (if l.rx = .monitor then .off else l.rx) })) n
    if state = .test ∧ ¬ testing d1 g then beginAttempt d1 g 1 else d1
  else d

/-! ### The pattern generator and checker (R323) -/

/-- One received bit at a lane's checker: before lock it seeds itself and counts correct bits, 64 of which lock it; locked it counts bits and
errors, and 32 wrong bits of 64 take its lock. -/
def checkBit (pattern : Nat) (l : Lane) (received : Bool) : Lane :=
  let r := l.rcv
  let b := xor received (prbsInverted pattern)
  let p := prbsNext pattern r.seed
  if l.checkLock then
    let w := (xor p b :: r.wrong).take 64
    let l1 := { l with
      bits := (l.bits + 1) % 2 ^ 48, errs := (l.errs + bnat (xor p b)) % 2 ^ 48, rcv := { r with seed := (p :: r.seed).take 31, wrong := w } }
    if 32 ≤ (w.filter id).length then { reseed l1 with relocks := min 0xFFFF (l1.relocks + 1) } else l1
  else
    let k := if r.seed.length < (prbsTaps pattern).headD 31 ∨ p ≠ b then 0 else r.right + 1
    { l with checkLock := decide (64 ≤ k), rcv := { r with seed := (b :: r.seed).take 31, right := k, wrong := [] } }

/-- Bits that a lane in a test mode receives: its checker takes them when enabled, and the far-end loop sends those of TRET on TF0 as NRZ
(R323, R324). -/
def checkBits (d : Dev) (n : Nat) (bits : List Bool) : Dev :=
  let pat := testPattern d n
  let d1 := if getB d .lane n 0x20 8 && decide (testMode d n ≠ 0) then onLane d n (fun l => bits.foldl (checkBit pat) l) else d
  if n = 4 ∧ (vget d.groups 0).tx = .loop then emit d1 0 [.levels (nrzLevels bits)] else d1

/-- A Gray symbol moved to an adjacent level; where it has two the spec names neither, and `up` decides. -/
def nextLevel (s : Nat) (up : Bool) : Nat := if s = 0 then 1 else if s = 3 then 2 else if up then s + 1 else s - 1

/-- Bits of the generator with one error injected: a bit inverted, or in PAM4 a symbol at an adjacent level (R323). -/
def injectError (pam up : Bool) (bits : List Bool) : List Bool :=
  match bits with
  | a :: b :: t => if pam then grayBits (nextLevel (graySymbol a b) up) ++ t else (!a) :: b :: t
  | l => l

/-- A lane's generator runs for as many UI as a block takes, 129 symbols in PAM4 and 330 bits in NRZ (DESIGN CHOICE, log entry 109): it
drives the pad in modes 1 and 4, and in modes 1 and 2 its bits reach the lane's own checker through the monitor (R322, R323). Which of two
adjacent levels an injected error takes is a free value. -/
def patternStep (d : Dev) (n : Nat) : Dev :=
  let mode := testMode d n
  if mode = 1 ∨ mode = 2 ∨ mode = 4 then
    let pam := txPam d n
    let t := (vget d.lanes n).tx
    let r := prbsSend (testPattern d n) (if pam then 258 else 330) t.prbs
    let up := if t.inject = 0 then (0, d) else drawFree d
    let bits := if t.inject = 0 then r.1 else injectError pam (Config.injectUp up.1) r.1
    let d1 := onLane up.2 n (fun l => { l with tx := { l.tx with prbs := r.2, inject := l.tx.inject - 1 } })
    let d2 := if mode = 2 then d1 else emit d1 n [.pattern bits]
    if mode = 4 then d2 else checkBits d2 n bits
  else d

/-- Both counters are copied in one cycle (R323). -/
def checkSnap (d : Dev) (n : Nat) : Dev :=
  let l := vget d.lanes n
  put (put (put d .lane n 0x28 (BitVec.ofNat 32 l.bits)) .lane n 0x2C (BitVec.ofNat 32 l.errs)) .lane n 0x30
    (BitVec.ofNat 32 (l.errs / 2 ^ 32 * 2 ^ 16 + l.bits / 2 ^ 32))

/-- The counters are zeroed (R323). -/
def checkClear (d : Dev) (n : Nat) : Dev := onLane d n (fun l => { l with bits := 0, errs := 0, relocks := 0 })

end Sys2Proof.Machine
end

