-- ==== Sys2Proof/Machine/Wire.lean ====
section
/-! DEFINITION. What the lanes of a group send and receive block by block: the training stream, milestones, electrical idle and the rake burst,
and the decoding of arriving blocks (spec/09_caravan_link.md R263–R273; spec/10_lanes.md R297–R299, R308–R320). -/

namespace Sys2Proof.Machine

/-! ### Flags -/

/-- The device's own subtree flag (spec/13_fault_collector.md R396). -/
def subtreeFlag (d : Dev) : Bool :=
  d.flt.forced || d.flt.unlocked ||
  [1, 2].any (fun g => decide ((vget d.groups g).state = .ready) && (vget d.groups g).forcedIn)

/-- The tree flag (R396). -/
def treeFlag (e : Env) (d : Dev) : Bool :=
  if e.straps.role = 0 then subtreeFlag d
  else decide ((vget d.groups 0).state = .ready) && (vget d.groups 0).forcedIn

/-- The status byte a group's transmitters send (R272). -/
def statusOut (e : Env) (d : Dev) (g : Nat) : Nat :=
  bnat (rxLock d g) + 2 * bnat (if g = 0 then subtreeFlag d else treeFlag e d)

/-! ### Control blocks that lanes send -/

/-- The IDLE block that a group sends (R272). -/
def idleBlock (e : Env) (d : Dev) (g : Nat) : Block := { ctl := true, bytes := sealBlock (leBytes 1 1 ++ leBytes 1 (statusOut e d g)) }

/-- Byte 2 of a MILESTONE or TRAIN block sent on transmit lane n: lane index, lanes in use minus 1, configuration (R272, R309). -/
def sendByte2 (d : Dev) (n : Nat) : Nat :=
  if n ≤ 3 then
    let c := (vget d.groups 0).config
    n + (configLanes c - 1) * 4 + c * 16
  else 0

/-- The FOM of the receive lane with transmit lane n's index in its link, or 0 (R309). -/
def fomBeside (d : Dev) (n : Nat) : Nat :=
  match (rxLanes d (laneGroup n))[if n ≤ 3 then n else 0]? with
  | some m => (vget d.lanes m).fom
  | none => 0

/-- A TRAIN block of transmit lane n with a phase (R309, R310). -/
def trainBytes (e : Env) (d : Dev) (n phase : Nat) : List Byte :=
  let g := laneGroup n
  let l := vget d.lanes n
  sealBlock (leBytes 1 3 ++ leBytes 1 (statusOut e d g) ++ leBytes 1 (sendByte2 d n) ++ leBytes 1 (phase + 16 * bnat (rxReady d g))
    ++ leBytes 1 (vget d.groups g).attempt ++ leBytes 1 (presetInUse l.cfg l.ffe (txConfig d g)) ++ leBytes 1 (fomBeside d n))

/-- The generation that milestones name: of the map in force on the trunk, 0 on a return (R272). -/
def milestoneGen (d : Dev) (g : Nat) : Nat := if g = 0 then getF d .tt 0 8 7 0 else 0

/-- A MILESTONE block of transmit lane n with a count (R272). -/
def milestoneBlock (e : Env) (d : Dev) (n count : Nat) : Block :=
  let g := laneGroup n
  { ctl := true, bytes := sealBlock (leBytes 1 2 ++ leBytes 1 (statusOut e d g) ++ leBytes 1 (sendByte2 d n) ++ leBytes 1 (milestoneGen d g)
      ++ leBytes 4 count) }

/-- A milestone as a lane sends it: on an NRZ lane two K28.5 go before it (R267). -/
def milestonePieces (e : Env) (d : Dev) (n count : Nat) : List Piece :=
  let b := milestoneBlock e d n count
  [.commas, .block b.ctl b.bytes]

/-! ### The training stream (R308) -/

/-- The next block of a lane's training stream is its TRAIN block. -/
def trainNext (d : Dev) (n : Nat) : Bool :=
  let t := (vget d.lanes n).tx
  if txPam d n then decide (t.word = []) else decide (t.unit = 0)

/-- The next block of lane n's training stream: in PAM4 TRAIN as block 0 of a codeword and zeros after it, in 8b/10b two K28.5 with TRAIN and
then 7 blocks of PRBS15. A codeword whose block 0 is a milestone has no TRAIN (DESIGN CHOICE, log 120). -/
def trainStep (e : Env) (d : Dev) (n : Nat) : Dev :=
  let t := (vget d.lanes n).tx
  let b := trainBytes e d n 1
  if txPam d n then emit d n [if trainNext d n then .block true b else .block false (List.replicate 32 0)]
  else
    let r := prbsRun 1 256 t.prbs
    let d1 := onLane d n (fun l => { l with tx := { l.tx with unit := (t.unit + 1) % 8, prbs := (if t.unit = 0 then t.prbs else r.2) } })
    emit d1 n (if t.unit = 0 then [.commas, .block true b] else [.block false (bytesOfBits r.1 32)])

/-- Every transmit lane of a group sends the next block of its training stream; a READY group counts its TRAIN blocks with rx_ready (R311). -/
def streamStep (e : Env) (d : Dev) (g : Nat) : Dev :=
  let counts := decide ((vget d.groups g).state = .ready) && rxReady d g && (txLanes d g).all (trainNext d)
  let d1 := (txLanes d g).foldl (trainStep e) d
  if counts then onGroup d1 g (fun x => { x with trains := x.trains + 1 }) else d1

/-- A READY group has sent 4 TRAIN blocks with rx_ready on each lane (R311). -/
def trainsDone (d : Dev) (g : Nat) : Bool := decide (4 ≤ (vget d.groups g).trains)

/-! ### Milestones (R270, R272) -/

/-- The transmitters of a group send blocks. -/
def sendsBlocks (d : Dev) (g : Nat) : Bool := decide ((vget d.groups g).tx = .training) || decide ((vget d.groups g).tx = .blocks)

/-- A milestone leaves on every lane of a group's transmit link, all with one count: the trunk's next block opportunity is slot 0, and a
parent's IDENTITY follows on a return. -/
def milestoneSend (e : Env) (d : Dev) (g : Nat) : Dev :=
  if sendsBlocks d g then
    let n := ((vget d.groups g).txCount + 1) % 2 ^ 32
    let d1 := (txLanes d g).foldl (fun d n' => emit d n' (milestonePieces e d n' n)) d
    let b := milestoneBlock e d ((txLanes d g).headD 0) n
    let d2 := onGroup d1 g (fun x => { x with
      txCount := n, last := (if g = 0 then x.last else some b), idDue := x.idDue || (decide (0 < g) && hasChildren d),
      anchored := x.anchored || (decide (x.state = .ready) && trainsDone d g) })
    if g = 0 then onTrunk d2 (fun t => { t with last := some b, slot := 0 }) else d2
  else d

/-! ### Electrical idle, the rake burst and FALLOW (R316–R320) -/

/-- EI_ENTER is sent on every transmit lane in use, the lanes then drive 0, and the group is in EIDLE (R316); a change cycle of the trunk's
map is cancelled (spec/09_caravan_link.md R284). -/
def enterEidle (e : Env) (d : Dev) (g : Nat) : Dev :=
  let d1 := (txLanes d g).foldl (fun d n => emit d n [.block true (trainBytes e d n 2)]) d
  onGroup (groupQuiet (if g = 0 then trunkStops d1 else d1) g) g (fun x => { x with state := .eidle, entering := false, tx := .silent, sending := none })

/-- Levels that alternate, n pairs of full levels of which the first is positive. -/
def alternate : Nat → List Int
  | 0 => []
  | n + 1 => 3 :: -3 :: alternate n

/-- The training burst of a rake, with the marker of a PAM4 lane (R318). -/
def rakeLevels (pam : Bool) : List Int :=
  if pam then alternate 112 ++ List.replicate 8 3 ++ List.replicate 8 (-3) ++ List.replicate 8 3 ++ List.replicate 8 (-3) else alternate 128

/-- A rake burst on every transmit lane of a group (R299, R302, R318): taps latched, the burst, and a MILESTONE that begins a codeword or a
block group, its count one more than the last; `more` follows on each lane. -/
def sendRake (e : Env) (d : Dev) (g : Nat) (more : Dev → Nat → List Piece) : Dev :=
  let n := ((vget d.groups g).txCount + 1) % 2 ^ 32
  let d1 := startStream (latchTx d g) g
  let d2 := (txLanes d1 g).foldl (fun d m => emit d m (.levels (rakeLevels (txPam d m)) :: milestonePieces e d m n ++ more d m)) d1
  let d3 := onGroup d2 g (fun x => { x with txCount := n })
  if g = 0 then onTrunk d3 (fun t => { t with slot := 0 }) else d3

/-- A READY group starts towards EIDLE when the device enters IDLE (R316). -/
def startIdle (d : Dev) (g : Nat) : Dev :=
  if (vget d.groups g).state = .ready then onGroup d g (fun x => { x with entering := true }) else d

/-- An exit trigger: a group in EIDLE wakes with a rake burst (R317, R318), and an entry in progress is cancelled (R319). -/
def wakeGroup (e : Env) (d : Dev) (g : Nat) : Dev :=
  let x := vget d.groups g
  if x.state = .eidle then
    sendRake e (onGroup d g (fun x => { x with state := .wake, tx := .blocks, trained := [], lockSeen := false, hold := true })) g
      (fun _ _ => [])
  else if x.entering then onGroup d g (fun x => { x with entering := false })
  else d

/-- What follows the MILESTONE of FALLOW's rake burst on transmit lane n (R320): in PAM4 the milestone's codeword is completed with IDLE, and
FALLOW_ENTER is block 0 of a codeword of the training stream's form; on an NRZ lane FALLOW_ENTER follows at once (DESIGN CHOICE, log 137). -/
def fallowPieces (e : Env) (d : Dev) (n : Nat) : List Piece :=
  let b := trainBytes e d n 3
  if txPam d n then
    List.replicate 19 (.block true (idleBlock e d (laneGroup n)).bytes) ++
      .block true b :: List.replicate 19 (.block false (List.replicate 32 0))
  else [.block true b]

/-- A group as FALLOW begins: in EIDLE it sends a rake burst with its milestone and FALLOW_ENTER on every transmit lane, and then every group
is in OFF (R320). -/
def fallowGroup (e : Env) (d : Dev) (g : Nat) : Dev :=
  let d1 := if (vget d.groups g).state = .eidle then sendRake e d g (fallowPieces e) else d
  groupOff d1 g

/-! ### Arriving blocks (R264–R267) -/

/-- The lane on which a group's receive link brings its next block (R270). -/
def rxLaneNow (d : Dev) (g : Nat) : Nat :=
  let l := rxLanes d g
  l.getD ((vget d.groups g).slot % max 1 l.length) 4

/-- Blocks of 258 decoded bits, their payload descrambled; one with an invalid header is errored (R263, R264). -/
def splitBlocks (bad : Bool) : Nat → List Bool → List Bool → List RxBlock × List Bool
  | 0, h, _ => ([], h)
  | n + 1, h, bits =>
    let x := descramble h ((bits.drop 2).take 256)
    let r := splitBlocks bad n x.2 (bits.drop 258)
    let ctl := decide (bits.take 2 = headerBits true)
    ({ ctl := ctl, bytes := bytesOfBits x.1 32, errored := bad || !(ctl || decide (bits.take 2 = headerBits false)) } :: r.1, r.2)

/-- A counter of codewords in LINK_CNT_FEC: feeders' codewords count there too, for their block has no such counter (DEDUCED, log entry
110). -/
def countFec (d : Dev) (uncorrectable : Bool) : Dev :=
  if uncorrectable then addSat d .link 0 8 31 16 1 else putF d .link 0 8 15 0 ((getF d .link 0 8 15 0 + 1) % 65536)

/-- An uncorrectable codeword, or an errored block in 8b/10b: counted, and reported on the device's own links (R266, R267, R293). -/
def uncorrectable (d : Dev) (g : Nat) : Dev :=
  let d1 := countFec d true
  if g = 0 then linkFault (stat d1 .link 0 4 1) else d1

/-- The 544 symbols of a codeword from the PAM4 symbols P in which it is received after `prev` (R265; spec/10_lanes.md R298). -/
def rxSymbols (prev : Nat) (ps : List Nat) : List Nat := symbolsOf ((unprecode prev ps).flatMap grayBits) 544

/-- A codeword of 2,720 PAM4 symbols arrives on a PAM4 lane: corrected and counted, or its 20 blocks marked errored (R265, R266;
spec/10_lanes.md R298). -/
def rxCodeword (d : Dev) (n : Nat) (ps : List Nat) : Dev :=
  let symbols := rxSymbols (vget d.lanes n).rcv.prev ps
  let r := rsDecode symbols
  let x := splitBlocks r.isNone 20 (vget d.lanes n).rcv.hist (symbolBits (((r.map Prod.fst).getD symbols).take 516))
  let d1 := onLane d n (fun l => { l with rcv := { l.rcv with hist := x.2, blocks := x.1, prev := ps.getLastD l.rcv.prev } })
  match r with
  | none => uncorrectable d1 (laneGroup n)
  | some (_, corrected) => if corrected then countFec d1 false else d1

/-- The next decoded block of a lane. -/
def popBlock (d : Dev) (n : Nat) : Option RxBlock × Dev :=
  ((vget d.lanes n).rcv.blocks.head?, onLane d n (fun l => { l with rcv := { l.rcv with blocks := l.rcv.blocks.drop 1 } }))

/-- The code groups in which a block arrives on an NRZ lane. -/
def arrivingGroups (d : Dev) (n : Nat) (ctl : Bool) (bs : List Byte) (a : Arrival) : List Nat × Bool :=
  let pos := (vget d.lanes n).rcv.rdPos
  match a with
  | .groups ws => (ws, ws.foldl (fun p w => groupDisparity w p) pos)
  | _ => encodeGroups pos (blockGroups ctl bs)

/-- A block arrives on lane n; none where the lane's coding cannot bring it so. Running disparity is kept across an NRZ lane, and in the
far-end loop TRET's bits leave on TF0 at once (R266, R267; spec/10_lanes.md R324). -/
def arrive (d : Dev) (n : Nat) (ctl : Bool) (bs : List Byte) (a : Arrival) : Option RxBlock × Dev :=
  if rxPam d n then
    match a with
    | .clean => (some { ctl := ctl, bytes := bs }, d)
    | .errored => (some { ctl := ctl, bytes := bs, errored := true }, d)
    | .groups _ => (none, d)
    | .codeword symbols => if symbols.length = 2720 then popBlock (rxCodeword d n symbols) n else (none, d)
    | .follow => popBlock d n
  else
    let ws := arrivingGroups d n ctl bs a
    let r := decodeGroups (vget d.lanes n).rcv.rdPos ws.1
    let d1 := onLane d n (fun l => { l with rcv := { l.rcv with rdPos := ws.2 } })
    let d2 := if n = 4 ∧ (vget d.groups 0).tx = .loop then emit d1 0 [.levels (nrzLevels (ws.1.flatMap groupBits))] else d1
    match a with
    | .clean => (some { ctl := ctl, bytes := bs }, d2)
    | .errored => (some { ctl := ctl, bytes := bs, errored := true }, uncorrectable d2 (laneGroup n))
    | .groups _ =>
      (some { ctl := r.1, bytes := r.2.1, errored := !r.2.2.1 }, if r.2.2.1 then d2 else uncorrectable d2 (laneGroup n))
    | _ => (none, d)

/-- The two K28.5 before a block of TRET, in the far-end loop sent on TF0 as its other bits are (R267; spec/10_lanes.md R324). -/
def loopCommas (d : Dev) : Dev :=
  if (vget d.groups 0).tx = .loop then
    emit d 0 [.levels (nrzLevels ((encodeGroups (vget d.lanes 4).rcv.rdPos [.special k28x5, .special k28x5]).1.flatMap groupBits))]
  else d

/-- A block arrives on TRET while the far-end loop runs: it reaches TF0 and nothing else (spec/10_lanes.md R324). -/
def looped (d : Dev) (g : Nat) (ctl : Bool) (bs : List Byte) (a : Arrival) : Dev :=
  if g = 0 ∧ (vget d.groups 0).tx = .loop then (arrive d 4 ctl bs a).2 else d

/-- A block of a command arrives on lane n and is taken by f, which is told whether it was errored; a block of another kind than the command's
is not the command's (DESIGN CHOICE, log 122), and an errored control block is discarded, which `gone` says (R266). -/
def receive (d : Dev) (n : Nat) (ctl : Bool) (bs : List Byte) (a : Arrival) (mine : List Byte → Bool) (gone : Dev → Dev)
    (f : Dev → List Byte → Bool → Dev) : Dev :=
  match arrive d n ctl bs a with
  | (none, _) => d
  | (some b, d1) =>
    if b.ctl ≠ ctl then d
    else if b.ctl && b.errored then gone d1
    else if mine b.bytes then f d1 b.bytes b.errored
    else d

/-- Whether a control block's type satisfies a test. -/
def typeIs (p : Nat → Bool) (bs : List Byte) : Bool := p (bs.getD 0 0).toNat

end Sys2Proof.Machine
end

