-- ==== Sys2Proof/Machine/Link.lean ====
section
/-! DEFINITION. The Caravan link: blocks, packets, the trunk timetable, best-effort queues, requests' way in, feeders
(spec/09_caravan_link.md R262–R293; spec/11_time.md R339–R342 for time packets). -/

namespace Sys2Proof.Machine

/-! ### Identity -/

/-- The device's ID, none while unassigned (spec/01_architecture.md R25). -/
def deviceId (d : Dev) : Option Nat := if getB d .glob 0 0x10 31 then some (getF d .glob 0 0x10 19 16) else none

/-- The tree ID in force. -/
def treeId (d : Dev) : Nat := getF d .glob 0 0x10 15 8

/-- The tree level of a device ID (GLOBAL_TREE.level). -/
def levelOf (id : Nat) : Nat := if id = 0 then 0 else if id ≤ 2 then 1 else if id ≤ 6 then 2 else 3

/-- The device takes an ID and a tree ID: GLOBAL_TREE follows, a change sends identity blocks to the children, and with an ID of 7–14 the
feeders' domains go off (R23, R24, R272). -/
def takeId (d : Dev) (id tree : Nat) : Dev :=
  let old := get d .glob 0 0x10
  let new := setFld (setFld (setFld (setBit old 31) 21 20 (levelOf id)) 19 16 id) 15 8 tree
  let d1 := put d .glob 0 0x10 new
  if 7 ≤ id then act d1 .leaf
  else if new = old then d1
  else [1, 2].foldl (fun d g =>
    if (vget d.groups g).state = .ready then onGroup d g (fun x => { x with idDue := true }) else d) d1

/-! ### Heads -/

/-- The end-of-life state of a frame of context c: a frame that was in progress when its head took a new entry keeps the old entry's
(spec/15_boot_identity_heads.md R457, R459). -/
def frameEol (d : Dev) (c seq : Nat) : Bool :=
  let h := vget d.heads c
  match h.keep with
  | some (n, old) => if (n + 2 ^ 32 - seq) % 2 ^ 32 < 2 ^ 31 then old else h.eol
  | none => h.eol

/-- The 30 bytes of a video, harvest or tap head (R275); bits 4–6 of the flags take their state now. -/
def manifestHead (e : Env) (d : Dev) (m : Manifest) : List Byte :=
  let eol := decide (m.ctype ≤ 0x44) && frameEol d (m.source / 2 ^ 8 % 16) m.seq
  let hold := decide (m.flags / 64 % 2 = 1) || e.hold
  let flags := m.flags % 16 + 16 * bnat eol + 32 * bnat (treeFlag e d) + 64 * bnat hold
  leBytes 1 m.ctype ++ leBytes 3 m.source ++ leBytes 4 m.seq ++ leBytes 2 m.line ++ leBytes 2 m.length ++ leBytes 2 m.epoch
    ++ leBytes 4 m.convoy ++ leBytes 6 (secOf m.stamp) ++ leBytes 4 (nsOf m.stamp) ++ leBytes 1 flags ++ leBytes 1 m.format

/-- The source field of a packet of types 0x45–0x4B (R275). -/
def ownSource (d : Dev) : List Byte := leBytes 3 (sourceOf d 0 0 0)

/-- A byte list with byte i replaced. -/
def setByte (l : List Byte) (i v : Nat) : List Byte := l.set i (BitVec.ofNat 8 v)

/-- A byte list with bytes from i replaced. -/
def setBytes (l : List Byte) (i : Nat) (v : List Byte) : List Byte := l.take i ++ v ++ l.drop (i + v.length)

/-- The context that a head of types 0x45–0x4B speaks of is at its end of life: a head report names one, the others none (DEDUCED, log entry
111). -/
def headEol (d : Dev) (h : List Byte) : Bool :=
  decide ((h.getD 0 0).toNat = 0x49) && (vget d.heads ((h.getD 4 0).toNat % 16)).eol

/-- The 30 bytes of another head: the flag bits 4–6 take their state now (R275). -/
def rawHead (e : Env) (d : Dev) (h : List Byte) : List Byte :=
  setByte ((h ++ List.replicate 30 0).take 30) 28 (16 * bnat (headEol d h) + 32 * bnat (treeFlag e d) + 64 * bnat e.hold)

/-- A register response (R275, R289): tag and type of the request's head, status, address, word count, value, burst data. -/
def responsePacket (d : Dev) (req : List Byte) (status addr count value : Nat) (data : List Byte) : Packet :=
  { head := leBytes 1 0x45 ++ ownSource d ++ leBytes 4 addr ++ leBytes 2 count ++ leBytes 2 (ceilDiv data.length 32)
      ++ leBytes 4 value ++ [req.getD 3 0] ++ leBytes 1 status ++ [req.getD 0 0] ++ leBytes 9 0 ++ leBytes 2 0
    bytes := data }

/-- The packet of a message on a port (R275, R276). -/
def messagePacket (d : Dev) (p : Nat) (m : List Byte) : Packet :=
  { head := (if p = 0 then leBytes 1 0x47 else [m.getD 0 0]) ++ ownSource d ++ leBytes 4 (d.trunk.seqs.getD p 0) ++ leBytes 2 0
      ++ leBytes 2 1 ++ leBytes 4 0 ++ leBytes 1 m.length ++ leBytes 13 0
    bytes := (m ++ List.replicate 32 0).take 32 }

/-- Class H has room (R286). -/
def roomH (d : Dev) : Bool := decide (d.trunk.classH.length < 256)

/-- A packet joins class H. -/
def pushH (d : Dev) (p : Packet) : Dev := onTrunk d (fun t => { t with classH := t.classH ++ [p] })

/-- The oldest outbound message of a port as a packet, taken from the port. -/
def takePort (d : Dev) (p : Nat) : Option (Packet × Dev) :=
  match (vget d.boxes p).outbox with
  | [] => none
  | m :: _ =>
    some (messagePacket d p m, onTrunk (onBox d p (fun b => { b with outbox := b.outbox.drop 1 })) (fun t => { t with
      seqs := lmod t.seqs p (fun n => (n + 1) % 2 ^ 32) }))

/-- The oldest outbound message of port 0 or 2 joins class H while it has room. -/
def pullPort (d : Dev) (p : Nat) : Dev :=
  match (if roomH d then takePort d p else none) with
  | some (pkt, d1) => pushH d1 pkt
  | none => d

/-- The collector's oldest packet joins class H while it has room. -/
def pullReport (d : Dev) : Dev :=
  match (if roomH d then d.flt.packets else []) with
  | p :: t => pushH (onFlt d (fun f => { f with packets := t })) p
  | [] => d

/-- The request at the front of the queue is answered with the status it has, while class H has room (R286, R289). -/
def pullAnswer (d : Dev) : Dev :=
  match (if roomH d then d.trunk.requests else []) with
  | r :: t =>
    if r.status = 0 then d
    else pushH (onTrunk d (fun x => { x with requests := t })) (responsePacket d r.head r.status 0 0 0 [])
  | [] => d

/-- Producers that held their packets move them into class H while it has room (R286): the drover ports, the collector, the request queue. -/
def refill (d : Dev) : Dev :=
  let d1 := [0, 2].foldl (fun d p => times (fun d => pullPort d p) 8 d) d
  let d2 := times pullReport d1.flt.packets.length d1
  times pullAnswer d2.trunk.requests.length d2

/-- A packet of the fault collector or of a head: it joins class H, or waits with its unit while class H is full (R286). -/
def queueReport (d : Dev) (p : Packet) : Dev := refill (onFlt d (fun f => { f with packets := f.packets ++ [p] }))

/-! ### Time packets (spec/11_time.md R340–R342) -/

/-- An entry enters a timestamp queue, or is discarded when it is full (R342). -/
def tsqPush (d : Dev) (q : Nat) (t : TsEntry) : Dev :=
  if (vget d.tsq q).length < 16 then
    let d1 := { d with tsq := vmod d.tsq q (fun l => l ++ [t]) }
    if q ≤ 2 then ringBell d1 (getF d1 .time 0 0x30 13 8) else d1
  else report (stat d .time 0 4 0x10) 119

/-- The messageType of a time message. -/
def timeType (m : List Byte) : Nat := (m.getD 1 0).toNat % 16

/-- The sequenceId of a time message. -/
def timeSeq (m : List Byte) : Nat := leVal ((m.drop 2).take 2)

/-- A time as it stands in a message: 48-bit seconds and 32-bit nanoseconds (R338). -/
def timeBytes (t : Nat) : List Byte := leBytes 6 (secOf t) ++ leBytes 4 (nsOf t)

/-- A time packet of port p departs (R340): the head's time, Timestamp B and the correction, or an entry in the transmit queue. -/
def departTime (e : Env) (d : Dev) (p : Nat) (pkt : Packet) : Packet × Dev :=
  let m := pkt.bytes
  let ty := timeType m
  let one := getB d .time 0 0x30 (p - 2)
  let pk := { pkt with head := setBytes pkt.head 18 (timeBytes e.now) }
  let entry := { kind := ty, id := timeSeq m, time := e.now : TsEntry }
  if (ty = 0 ∨ ty = 3) ∧ one then
    let corr := (leVal ((m.drop 4).take 8) + rdivN (fracOf e.now) 256) % 2 ^ 64
    ({ pk with bytes := setBytes (setBytes m 4 (leBytes 8 corr)) 22 (timeBytes e.now) }, d)
  else if ty = 0 ∨ ty = 2 ∨ ty = 3 then (pk, tsqPush d (p - 2) entry)
  else (pk, d)

/-! ### Sending a packet block by block -/

/-- The data blocks of a packet. -/
def packetLen (p : Packet) : Nat := if p.head = [] then p.man.length else leVal ((p.head.drop 10).take 2)

/-- The pan offset of byte i of what a feeder's buffer holds from `start` on. -/
def throughOff (d : Dev) (f start i : Nat) : Nat :=
  getF d .feeder f 4 24 12 * 0x1000 + (start + i) % max 1 (getF d .feeder f 4 8 0 * 0x1000)

/-- The packet is read from the pan, as every pass-through packet is (R291; spec/05_pipe_sharing.md R504). -/
def fromPan (p : Packet) : Bool :=
  match p.kind with
  | .through _ _ _ => true
  | _ => decide (p.inPan ≠ none)

/-- The pan offsets of data block k of a pass-through packet, which stands in its buffer after the head. -/
def throughBlock (d : Dev) (f start k : Nat) : List Nat := (List.range 32).map (fun i => throughOff d f start (32 * (k + 1) + i))

/-- Data block k of a packet, and whether its pan lines could be read. -/
def packetBlock (d : Dev) (p : Packet) (k : Nat) : List Byte × Bool :=
  match p.kind with
  | .through f start _ =>
    let offs := throughBlock d f start k
    (offs.map (fun o => memByte d (panBase + o)), offs.any (lineBad d))
  | _ =>
    match p.inPan with
    | some (off, len) =>
      let n := min 32 (len - 32 * k)
      (panBytes d (off + 32 * k) n ++ List.replicate (32 - n) 0, panBad d (off + 32 * k) n)
    | none => ((p.bytes.drop (32 * k) ++ List.replicate 32 0).take 32, false)

/-- A packet starts to be sent: its head is built, and a time packet's times are written (R274, R275, R340). -/
def startSending (e : Env) (d : Dev) (port : Nat) (p : Packet) : Sending × Dev :=
  let (p1, d1) := if (p.head.getD 0 0).toNat = 0x48 ∧ p.kind = .plain then departTime e d port p else (p, d)
  let h := match p1.kind with
    | .through _ _ _ => p1.head
    | _ => if p1.head = [] then manifestHead e d p1.man else if 0x60 ≤ (p1.head.getD 0 0).toNat then p1.head.take 30 else rawHead e d p1.head
  ({ pkt := p1, head := h.take 30, crc := crc32Run crc32Init (h.take 30) }, d1)

/-- The END block of a packet: the head's bytes 1–3 and the CRC-32C, inverted where its data failed (R274). -/
def endBlock (s : Sending) : List Byte :=
  let c := crc32End s.crc
  sealBlock ([0x3F#8] ++ (s.head.drop 1).take 3 ++ leBytes 4 (if s.bad then 0xFFFFFFFF - c else c))

/-- The next block of a packet in progress, and the packet after it; none when its END has gone out. The third part says that a pan line could
not be read. A packet whose END is due ends at once (R316). -/
def nextBlock (d : Dev) (s : Sending) : Block × Option Sending × Bool :=
  let n := packetLen s.pkt
  if s.cut then ({ ctl := true, bytes := endBlock s }, none, false)
  else if s.pos = 0 then ({ ctl := true, bytes := sealBlock s.head }, some { s with pos := 1 }, false)
  else if s.pos ≤ n then
    let (b, bad) := packetBlock d s.pkt (s.pos - 1)
    ({ bytes := b }, some { s with pos := s.pos + 1, crc := crc32Run s.crc b, bad := s.bad || bad }, bad)
  else ({ ctl := true, bytes := endBlock s }, none, false)

/-- The pan lines that a data block reads and that are uncorrectable, as pan offsets. -/
def badLinesOf (d : Dev) (p : Packet) (k : Nat) : List Nat :=
  let offs := match p.kind with
    | .through f start _ => throughBlock d f start k
    | _ => match p.inPan with
      | some (off, len) => (List.range (min 32 (len - 32 * k))).map (fun i => off + 32 * k + i)
      | none => []
  (d.badLines.map (fun l => l - panBase)).filter (fun l => offs.any (fun o => decide (o / 64 * 64 = l)))

/-! ### The trunk timetable -/

/-- The owner code of slot s in a set of map words. -/
def mapCode (word : Nat → Word) (s : Nat) : Nat := if s = 0 then 0xFF else fld (word (s / 4)) (8 * (s % 4) + 7) (8 * (s % 4))

/-- The owner of slot s in the map in force (R281). -/
def slotOwner (d : Dev) (s : Nat) : Nat := mapCode (fun k => get d .tt 0 (0x400 + 4 * k)) s

/-- A map that R284 accepts. -/
def mapOk (word : Nat → Word) : Bool :=
  let codes := (List.range 1023).map (fun i => mapCode word (i + 1))
  codes.all (fun c => decide (c ≤ 0x22)) && decide (16 ≤ (codes.filter (fun c => decide (c = 0))).length)

/-- The generation in force and the one being announced (TT_GEN). -/
def genCur (d : Dev) : Nat := getF d .tt 0 8 7 0

/-- A MAP block: fragment f of a map (R283). -/
def mapBlock (e : Env) (d : Dev) (gen : Nat) (pending : Bool) (f : Nat) (word : Nat → Word) : Block :=
  { ctl := true,
    bytes := sealBlock (leBytes 1 6 ++ leBytes 1 (statusOut e d 0) ++ leBytes 1 gen ++ leBytes 1 (128 * bnat pending + f)
      ++ ((List.range 26).map (fun i => if 26 * f + i < 1024 then BitVec.ofNat 8 (mapCode word (26 * f + i)) else 0))) }

/-- The staged map is checked, at least 4 egress clocks after its last staged write, and a change cycle starts or the map is refused (R284). -/
def checkMap (d : Dev) : Dev :=
  let a := unitBase .tt 0
  if getB d .tt 0 0 0 ∨ stagedIn d (a + 0x400) 0x400 = [] ∨ d.trunk.age < 4 then d
  else
    let word := fun k => stagedAt d (a + 0x400 + 4 * k)
    if mapOk word then
      let gen := (genCur d + 1) % 256
      put (onTrunk d (fun t => { t with cycle := some 0, frag := 0, since := [], newMap := (List.range 256).map (fun k => (k, word k)) }))
        .tt 0 8 (BitVec.ofNat 32 (2 ^ 16 + gen * 256 + genCur d))
    else report (stat (stat (dropStaged d (a + 0x400) 0x400) .tt 0 4 2) .link 0 4 0x20) 111

/-- The new map of a change cycle applies; words staged during the cycle wait for the next check (R284). -/
def applyMap (d : Dev) : Dev :=
  let a := unitBase .tt 0 + 0x400
  let gen := (genCur d + 1) % 256
  let d1 := d.trunk.newMap.foldl (fun x q =>
    let k := a + 4 * q.1
    let x1 := wr x k q.2
    if d.trunk.since.contains q.1 then x1 else { x1 with staged := sDel k x1.staged }) d
  stat (put (onTrunk d1 (fun t => { t with cycle := none, newMap := [], since := [], frag := 0 })) .tt 0 8 (BitVec.ofNat 32 gen)) .tt 0 4 1

/-- The change cycle at an epoch start: its next fragment, and after the last its map, which waits while TT_CTRL.hold is 1, the last fragment
going on (R284; spec/12_register_access.md R366; DESIGN CHOICE, log entry 112). -/
def mapTurn (d : Dev) : Dev :=
  match d.trunk.cycle with
  | some 39 => if getB d .tt 0 0 0 then d else checkMap (applyMap d)
  | some k => onTrunk d (fun t => { t with cycle := some (k + 1), frag := k + 1 })
  | none => checkMap (onTrunk d (fun t => { t with frag := (t.frag + 1) % 40 }))

/-- Every packet in progress of the trunk has left. -/
def trunkQuiet (d : Dev) : Bool := decide (d.trunk.curs = [])

/-- An epoch of the trunk starts (R270, R283, R284, R311, R316); a group that still sends its training stream changes to blocks at the first
one after a milestone anchor, when it has sent its TRAIN blocks. -/
def epochStart (e : Env) (d : Dev) : Dev :=
  let x := vget d.groups 0
  if x.state ≠ .ready then d
  else if x.entering && trunkQuiet d then enterEidle e d 0
  else if x.tx = .training && !x.anchored then d
  else mapTurn (onTrunk (onGroup d 0 (fun x => { x with tx := .blocks })) (fun t => { t with slot := 0 }))

/-! ### Trunk slots -/

/-- The first packet of a queue that may leave, and the queue without it: while the egress owner has no position, those read from the pan
stay (R504). -/
def firstOut (pan : Bool) : List Packet → Option (Packet × List Packet)
  | [] => none
  | p :: t => if pan || !(fromPan p) then some (p, t) else (firstOut pan t).map (fun q => (q.1, p :: q.2))

/-- The next packet of class L: harvest and taps in turn (R286). -/
def nextLow (d : Dev) (pan : Bool) : Option (Packet × Dev) :=
  let tap := (firstOut pan d.tapQueue).map (fun q => (q.1, onTrunk { d with tapQueue := q.2 } (fun x => { x with tapTurn := false })))
  let harv := (firstOut pan d.bestEff).map (fun q => (q.1, onTrunk { d with bestEff := q.2 } (fun x => { x with tapTurn := true })))
  if d.trunk.tapTurn then tap <|> harv else harv <|> tap

/-- The next packet of the best-effort slots: class H first, whose producers then move up, else class L (R286). -/
def nextBest (d : Dev) (pan : Bool) : Option (Packet × Dev) :=
  match d.trunk.classH with
  | p :: t => some (p, refill (onTrunk d (fun x => { x with classH := t })))
  | [] => nextLow d pan

/-- The next packet of an owner (R282, R504). -/
def nextPacket (d : Dev) (o : Nat) : Option (Packet × Dev) :=
  let pan := ownerServed d 0x1C
  if o = 0 then nextBest (refill d) pan
  else if o ≤ 0x20 then
    (firstOut pan (vget d.views (o - 1)).queue).map (fun q => (q.1, onView d (o - 1) (fun x => { x with queue := q.2 })))
  else
    (firstOut pan (d.trunk.through.getD (o - 0x21) [])).map
      (fun q => (q.1, onTrunk d (fun x => { x with through := lmod x.through (o - 0x21) (fun _ => q.2) })))

/-- The owner's unit is fenced, so its slots idle (spec/13_fault_collector.md R401). -/
def ownerFenced (d : Dev) (o : Nat) : Bool :=
  if o = 0 then false else if o ≤ 0x20 then fenced d .view (o - 1) else fenced d .feeder (o - 0x21)

/-- A packet that a device without an ID does not emit: video, harvest, tap, head report or mailbox (spec/01_architecture.md R25). -/
def needsId (p : Packet) : Bool :=
  if p.head = [] then true else decide ((p.head.getD 0 0).toNat = 0x47) || decide ((p.head.getD 0 0).toNat = 0x49)

/-- The packet in progress of an owner. -/
def curOf (d : Dev) (o : Nat) : Option Sending := (d.trunk.curs.find? (fun q => decide (q.1 = o))).map Prod.snd

/-- The packet in progress of an owner, replaced. -/
def setCur (d : Dev) (o : Nat) (s : Option Sending) : Dev :=
  onTrunk d (fun t => { t with curs := t.curs.filter (fun q => decide (q.1 ≠ o)) ++ (s.map (fun s => (o, s))).toList })

/-- The trunk sends a block in its current slot, on the lane whose turn it is (R270). -/
def trunkEmit (d : Dev) (b : Block) : Dev :=
  let l := txLanes d 0
  onTrunk (emitBlock d (l.getD (d.trunk.slot % max 1 l.length) 0) b) (fun t => { t with last := some b })

/-- A slot carries IDLE (R282). -/
def sendIdle (e : Env) (d : Dev) : Dev := put (trunkEmit d (idleBlock e d 0)) .tt 0 0xC (get d .tt 0 0xC + 1)

/-- Pan lines of a packet's data that could not be read, each once: reported, and in a harvest record counted (R274;
spec/04_colour_and_harvest.md R135). -/
def dataBad (d : Dev) (s : Sending) : Dev :=
  let k := s.pos - 1
  let lines := (badLinesOf d s.pkt k).filter (fun l => decide (k = 0) || !((badLinesOf d s.pkt (k - 1)).contains l))
  let d1 := reportBanks d lines
  match (if lines = [] then .plain else s.pkt.kind) with
  | .harvest _ _ _ => addSat (stat d1 .harv 0 0 2) .harv 0 4 31 16 lines.length
  | _ => d1

/-- The tag of a RESET response, when this packet is one (R287). -/
def resetTagOf (p : Packet) : Option Nat :=
  if (p.head.getD 0 0).toNat = 0x45 ∧ (p.head.getD 18 0).toNat = 0x68 ∧ (p.head.getD 17 0).toNat = 0 then some (p.head.getD 16 0).toNat else none

/-- What a packet's end on the trunk brings: its space is free, and a RESET response's departure the device reset (R287). -/
def packetSent (d : Dev) (p : Packet) : Dev :=
  let d1 := packetGone d p
  if decide (d1.trunk.resetTag ≠ none) && decide (resetTagOf p = d1.trunk.resetTag) then
    act (onTrunk d1 (fun t => { t with resetTag := none })) (.reset 4)
  else d1

/-- The owner's packet in progress sends a block (R282). -/
def sendBlock (d : Dev) (o : Nat) (s : Sending) : Dev :=
  let (b, s', bad) := nextBlock d s
  let d1 := if bad then dataBad d s else d
  let d2 := setCur (trunkEmit d1 b) o s'
  if s' = none then packetSent d2 s.pkt else d2

/-- The block that a packet in progress sends next is data read from the pan. -/
def panNext (s : Sending) : Bool := fromPan s.pkt && !s.cut && decide (0 < s.pos) && decide (s.pos ≤ packetLen s.pkt)

/-- The owner's packet in progress moves on by one block (R282). An egress read that misses its slot, as each does once the egress owner has
lost its positions, ends the packet there with the inverse of its CRC-32C, and is counted (R274, R279; log entry 113). -/
def sendNext (d : Dev) (o : Nat) (s : Sending) (late : Bool) : Dev :=
  if (late || !(ownerServed d 0x1C)) && panNext s then sendBlock (onTrunk d (fun t => { t with missed := t.missed + 1 })) o { s with bad := true, cut := true }
  else sendBlock d o s

/-- A word of the map that a change cycle announces. -/
def newWord (d : Dev) (k : Nat) : Word := ((d.trunk.newMap.find? (fun q => decide (q.1 = k))).map Prod.snd).getD 0

/-- The MAP block of slot 0 (R283, R284). -/
def slotMap (e : Env) (d : Dev) : Block :=
  match d.trunk.cycle with
  | some k => mapBlock e d ((genCur d + 1) % 256) true k (newWord d)
  | none => mapBlock e d (genCur d) false d.trunk.frag (fun i => get d .tt 0 (0x400 + 4 * i))

/-- An owner's slot: its next block, or IDLE (R282, R311, R316). -/
def ownerSlot (e : Env) (d : Dev) (o : Nat) (late : Bool) : Dev :=
  let x := vget d.groups 0
  if x.hold ∨ ownerFenced d o then sendIdle e d
  else
    match curOf d o with
    | some s => sendNext d o s late
    | none =>
      match (if x.entering then none else nextPacket d o) with
      | none => sendIdle e d
      | some (p, d1) =>
        if needsId p && decide (deviceId d1 = none) then sendIdle e (packetGone d1 p)
        else
          let (s, d2) := startSending e d1 2 p
          sendNext d2 o s late

/-- A block opportunity of a READY trunk that sends blocks: MAP in slot 0, else the slot's owner (R282, R283). -/
def slotBlock (e : Env) (d : Dev) (late : Bool) : Dev :=
  let n := d.trunk.slot
  let d1 := if n = 0 then trunkEmit d (slotMap e d) else ownerSlot e d (slotOwner d n) late
  onTrunk d1 (fun t => { t with slot := (n + 1) % 1024, age := min 4 (t.age + 1) })

/-- A trunk block opportunity: the next block of the training stream, of the test patterns, or of the slot's owner; a trunk that has woken idles
until it is READY (R282; spec/10_lanes.md R308, R314, R318, R323; DESIGN CHOICE, log 121). `late` says that the pan read of its data misses
the slot. -/
def trunkSlot (e : Env) (d : Dev) (late : Bool) : Dev :=
  let x := vget d.groups 0
  if x.tx = .training then onTrunk (streamStep e d 0) (fun t => { t with age := min 4 (t.age + 1) })
  else if x.tx = .blocks ∧ x.state = .ready then slotBlock e d late
  else if x.tx = .blocks ∧ x.state = .wake then
    onTrunk (if d.trunk.slot = 0 then trunkEmit d (slotMap e d) else sendIdle e d) (fun t => { t with slot := (t.slot + 1) % 1024 })
  else (List.range 4).foldl patternStep d

/-- 100 µs after the idle request each packet still open is to end with the inverse CRC in its owner's next slot, and EI_ENTER follows
(R316). -/
def eidleTimeout (d : Dev) (g : Nat) : Dev :=
  let cut := fun (s : Sending) => { s with bad := true, cut := true }
  if !((vget d.groups g).entering) then d
  else if g = 0 then onTrunk d (fun t => { t with curs := t.curs.map (fun q => (q.1, cut q.2)) })
  else onGroup d g (fun x => { x with sending := x.sending.map cut })

/-! ### Feeder returns -/

/-- The IDENTITY block that a parent sends its child (R272, R23). -/
def identityBlock (e : Env) (d : Dev) (g : Nat) : Block :=
  let id := 2 * (deviceId d).getD 0 + g
  { ctl := true, bytes := sealBlock (leBytes 1 5 ++ leBytes 1 (statusOut e d g) ++ leBytes 1 id ++ leBytes 1 (treeId d) ++ leBytes 1 (levelOf id)) }

/-- The next packet of a feeder return: a request goes after the messages that were queued before it (R290). -/
def nextReturn (d : Dev) (f : Nat) : Option (Packet × Dev) :=
  match (vget d.groups (f + 1)).retQueue with
  | (0, p) :: t => some (p, onGroup d (f + 1) (fun x => { x with retQueue := t }))
  | _ => (takePort d (3 + f)).map (fun q => (q.1, onGroup q.2 (f + 1) (fun x => { x with retQueue := x.retQueue.map (fun r => (r.1 - 1, r.2)) })))

/-- A block leaves on a feeder return. -/
def returnEmit (d : Dev) (f : Nat) (b : Block) : Dev :=
  onGroup (emitBlock d (9 + 5 * f) b) (f + 1) (fun x => { x with last := some b })

/-- A return's packet in progress sends its next block. -/
def returnSend (d : Dev) (f : Nat) (s : Sending) : Dev :=
  let (b, s', _) := nextBlock d s
  returnEmit (onGroup d (f + 1) (fun x => { x with sending := s' })) f b

/-- A block position of a READY feeder return that sends blocks: IDLE while the feeder is fenced, else the packet in progress, EI_ENTER,
IDENTITY, a queued packet, or IDLE (R290, R311, R316; spec/13_fault_collector.md R401). -/
def returnLive (e : Env) (d : Dev) (f : Nat) : Dev :=
  let g := f + 1
  let x := vget d.groups g
  if fenced d .feeder f then (if x.entering then enterEidle e d g else returnEmit d f (idleBlock e d g))
  else
    match x.sending with
    | some s => returnSend d f s
    | none =>
      if x.entering then enterEidle e d g
      else if x.idDue && hasChildren d then returnEmit (onGroup d g (fun x => { x with idDue := false })) f (identityBlock e d g)
      else
        match nextReturn d f with
        | none => returnEmit d f (idleBlock e d g)
        | some (p, d1) =>
          let (s, d2) := startSending e d1 (3 + f) p
          returnSend d2 f s

/-- A block position of a feeder return: the next block of the training stream until a READY group has sent its TRAIN blocks, then the block
stream; a test pattern; a return that has woken idles until it is READY (R308, R311, R314, R318, R323). -/
def returnBlock (e : Env) (d : Dev) (f : Nat) : Dev :=
  let g := f + 1
  let x := vget d.groups g
  if x.tx = .training ∧ ¬ (x.state = .ready ∧ trainsDone d g) then streamStep e d g
  else if x.state = .ready then returnLive e (onGroup d g (fun x => { x with tx := .blocks })) f
  else if x.tx = .blocks ∧ x.state = .wake then returnEmit d f (idleBlock e d g)
  else patternStep d (9 + 5 * f)

/-! ### Receiving -/

/-- A receiver's map is unknown: every packet is discarded, and map_lost set (R285). -/
def mapLost (d : Dev) (g : Nat) : Dev :=
  report (stat (onGroup (discardOpens d g) g (fun x => { x with map := none, nextMap := none, pendEnd := none })) .feeder (g - 1) 8 8) (111 + g)

/-- The codes of 40 fragments of one kind, in order, when all are held. -/
def fragMap (fs : List Fragment) (gen : Nat) (pending : Bool) : Option (List Nat) :=
  let pick := fun i => fs.find? (fun f => decide (f.gen = gen) && decide (f.pending = pending) && decide (f.index = i))
  if (List.range 40).all (fun i => (pick i).isSome) then
    some (((List.range 40).flatMap (fun i => ((pick i).map Fragment.codes).getD [])).map BitVec.toNat)
  else none

/-- A map comes into force at a receiver. -/
def mapHeld (d : Dev) (g gen : Nat) (codes : List Nat) : Dev :=
  onGroup d g (fun x => { x with map := some (gen, codes), nextMap := none, pendEnd := none })

/-- Fragments age by an epoch: pending ones count for the 40 epochs of their change cycle (R285). -/
def ageFrags (d : Dev) (g : Nat) : Dev :=
  onGroup d g (fun x => { x with
    frags := (x.frags.map (fun f => { f with age := f.age + 1 })).filter (fun f => !f.pending || decide (f.age < 40)) })

/-- The epoch turns at a receiver (R285): after the epoch of pending fragment 39 the announced map comes into force where all 40 fragments have
arrived, else the map is unknown; an unknown map is known again when all fragments of its generation have. -/
def epochTurn (d : Dev) (g : Nat) : Dev :=
  let x := vget d.groups g
  let d1 :=
    match x.pendEnd, x.nextMap with
    | some (gen, 0), _ =>
      if x.map = none then onGroup d g (fun x => { x with pendEnd := none })
      else match fragMap x.frags gen true with
        | some codes => mapHeld d g gen codes
        | none => mapLost d g
    | some (gen, k + 1), none => onGroup d g (fun x => { x with pendEnd := some (gen, k) })
    | _, some (gen, codes) => mapHeld d g gen codes
    | none, none => d
  ageFrags d1 g

/-- The group's receive link brings packets: in READY, and on a feeder in EIDLE, where they are framed so as to be counted (R278; spec/10_lanes.md
R319). -/
def receiving (d : Dev) (g : Nat) : Bool :=
  decide ((vget d.groups g).state = .ready) || (decide (0 < g) && decide ((vget d.groups g).state = .eidle))

/-- A slot of a group's receive link has passed; maps are built from READY on (R285). -/
def passSlot (d : Dev) (g : Nat) : Dev :=
  if g = 0 then d
  else
    let n := (vget d.groups g).slot
    let d1 := onGroup d g (fun x => { x with slot := (n + 1) % 1024 })
    if n = 1023 ∧ receiving d g then epochTurn d1 g else d1

/-- A block of the block stream has arrived, so the training stream of the group's receive link is over (spec/10_lanes.md R308, R311). -/
def blockStream (d : Dev) (g : Nat) : Dev := onGroup d g (fun x => { x with rxStream := false })

/-- The owner of the receive link's current slot; none where the map is unknown (R285). TRET has one owner. -/
def rxOwner (d : Dev) (g : Nat) : Option Nat :=
  if g = 0 then some 0
  else
    match (vget d.groups g).map with
    | some (_, codes) => some (codes.getD (vget d.groups g).slot 0)
    | none => none

/-- The open packet of an owner. -/
def openOf (d : Dev) (g o : Nat) : Option RxPacket := ((vget d.groups g).opens.find? (fun q => decide (q.1 = o))).map Prod.snd

/-- The open packet of an owner, replaced. -/
def setOpen (d : Dev) (g o : Nat) (p : Option RxPacket) : Dev :=
  onGroup d g (fun x => { x with opens := x.opens.filter (fun q => decide (q.1 ≠ o)) ++ (p.map (fun p => (o, p))).toList })

/-- An owner's open packet is discarded. -/
def dropOpen (d : Dev) (g o : Nat) : Dev :=
  match openOf d g o with
  | none => d
  | some p => countDiscard (setOpen d g o none) g (bnat (!p.drop))

/-- An IDLE block arrives (R272, R279): status, and on a timetabled link an open packet of the slot's owner is discarded. -/
def rxIdle (d : Dev) (g : Nat) (bs : List Byte) : Dev :=
  if !sealOk bs then passSlot (badSeal d g) g
  else
    let d0 := statusByte (blockStream d g) g (bs.getD 1 0).toNat
    let d1 := match (if g = 0 ∨ ¬ receiving d g then none else rxOwner d0 g) with
      | some o => dropOpen d0 g o
      | none => d0
    passSlot d1 g

/-- The deskew of a set of milestones fails (R271, R313): a second failure in a row retrains a READY group. -/
def deskewFails (d : Dev) (g : Nat) : Dev :=
  let again := (vget d.groups g).deskewBad
  let d1 := onGroup (stat d .link 0 4 0x10) g (fun x => { x with deskewed := false, deskewBad := true })
  if again ∧ (vget d.groups g).state = .ready then retrain d1 g else d1

/-- The milestones of a set that have arrived anchor the receiver: slot 0 follows, and the generation they name is the map's, or the map is
unknown (R270, R285). -/
def anchorSet (d : Dev) (g gen : Nat) : Dev :=
  let d1 := onGroup d g (fun x => { x with mileGen := gen, slot := 0 })
  match (vget d1.groups g).map with
  | some (h, _) => if g = 0 ∨ h = gen then d1 else mapLost d1 g
  | none => d1

/-- A set of milestones arrives, one block per lane or none where its lane's was errored, with its skew in block times (R270, R271, R285;
spec/10_lanes.md R310, R313). A block whose CRC-16 fails is absent, and the others are judged without it. -/
def rxMilestones (d : Dev) (g : Nat) (blocks : List (Option (List Byte))) (skew : Nat) : Dev :=
  let lanes := rxLanes d g
  if blocks.length ≠ lanes.length then d
  else
    let good := (lanes.zip blocks).filterMap (fun q => match q.2 with
      | some b => if sealOk b then some (q.1, b) else none
      | none => none)
    let d1 := times (fun d => badSeal d g) (blocks.filter (fun b => match b with
      | some b => !(sealOk b)
      | none => false)).length d
    let d2 := good.foldl (fun d q => checkByte2 d q.1 (q.2.getD 2 0).toNat) d1
    match good with
    | [] => d2
    | (_, b) :: _ =>
      let count := fun (b : List Byte) => leVal ((b.drop 4).take 4)
      if good.any (fun q => decide (count q.2 ≠ count b)) ∨ 32 < skew then deskewFails d2 g
      else
        let d3 := if good.length = lanes.length then onGroup d2 g (fun x => { x with deskewed := true, deskewBad := false }) else d2
        statusByte (anchorSet d3 g (b.getD 3 0).toNat) g (b.getD 1 0).toNat

/-- A fragment joins those held: it takes the place of one like it, and a MAP in force those of other generations; the first of a change cycle
starts the pending ones afresh. -/
def addFragment (old : List Fragment) (f : Fragment) : List Fragment :=
  (if f.pending ∧ f.index = 0 then old.filter (fun x => !x.pending)
    else old.filter (fun x => !(decide (x.pending = f.pending) && decide (x.index = f.index)) && (x.pending || f.pending || decide (x.gen = f.gen))))
    ++ [f]

/-- A MAP block arrives on a feeder (R283, R285); TRET reserves its type (R272). -/
def rxMap (d : Dev) (g : Nat) (bs : List Byte) : Dev :=
  if !sealOk bs then passSlot (badSeal d g) g
  else if g = 0 then countDiscard d 0 1
  else
    let b3 := (bs.getD 3 0).toNat
    let f : Fragment := { gen := (bs.getD 2 0).toNat, pending := decide (128 ≤ b3), index := b3 % 64, codes := (bs.drop 4).take 26 }
    let d1 := statusByte (blockStream d g) g (bs.getD 1 0).toNat
    let d2 := onGroup d1 g (fun x => { x with
      frags := addFragment x.frags f, pendEnd := (if f.pending then some (f.gen, 39 - f.index) else x.pendEnd) })
    let x := vget d2.groups g
    let d3 :=
      if x.map = none ∧ ¬ f.pending ∧ f.gen = x.mileGen then
        match fragMap x.frags f.gen false with
        | some codes => onGroup d2 g (fun x => { x with nextMap := some (f.gen, codes) })
        | none => d2
      else d2
    passSlot d3 g

/-- A rake burst arrives on a receive link with its MILESTONE on each lane (R298, R299, R317–R319): a lane in HOLD locks where the MILESTONE
passes its CRC-16, both histories all ones and P as 0, and hunts where it fails; the block stream follows; the group wakes, or an entry into
EIDLE is cancelled; the milestones are then taken as a set. -/
def rakeBurst (e : Env) (d : Dev) (g : Nat) (blocks : List (List Byte)) : Dev :=
  let d1 := ((rxLanes d g).zip blocks).foldl (fun d q =>
    if (vget d.lanes q.1).rx ≠ .hold then d
    else if sealOk q.2 && typeIs (fun t => decide (t = 2)) q.2 then
      onLane d q.1 (fun l => { l with rx := .locked, rcv := { l.rcv with hist := allOnes58, rdPos := false, prev := 0, blocks := [] } })
    else huntAgain d q.1) d
  let d2 := rxMilestones (deskewOne (wakeGroup e (blockStream d1 g) g) g) g (blocks.map some) 0
  if g = 0 then act d2 .wakeTret else d2

/-- An IDENTITY block arrives (R23, R26, R272): a child applies it, a root logs it. -/
def rxIdentity (e : Env) (d : Dev) (bs : List Byte) : Dev :=
  if !sealOk bs then badSeal d 0
  else
    let d1 := statusByte (blockStream d 0) 0 (bs.getD 1 0).toNat
    let id := (bs.getD 2 0).toNat
    if e.straps.role = 0 then report d1 7
    else if 1 ≤ id ∧ id ≤ 14 ∧ (bs.getD 4 0).toNat = levelOf id then takeId d1 id (bs.getD 3 0).toNat
    else countDiscard d1 0 1

/-- A control type that may head a packet on the link (R272). -/
def headAllowed (g t : Nat) : Bool :=
  decide (t = 0x47) || decide (t = 0x48) || decide (t = 0x4B) ||
  (if g = 0 then decide (0x60 ≤ t) && decide (t ≤ 0x68) else (decide (0x40 ≤ t) && decide (t ≤ 0x46)) || decide (t = 0x49) || decide (t = 0x4A))

/-- A packet that its device consumes, so that it takes no space of the pass-through buffer (R277). -/
def consumed (t : Nat) : Bool := decide (t = 0x48) || decide (t = 0x4B)

/-- The bytes that a packet with this head takes of a buffer: head, data and END (R291, R292). -/
def heldBytes (head : List Byte) : Nat := 32 * (leVal ((head.drop 10).take 2) + 2)

/-- The bytes that the open packets of a feeder will take of its buffer. -/
def openBytes (d : Dev) (f : Nat) : Nat :=
  ((vget d.groups (f + 1)).opens.filter (fun q => !q.2.drop && !(consumed (q.2.head.getD 0 0).toNat))).foldl (fun a q => a + heldBytes q.2.head) 0

/-- The free bytes of a feeder's pass-through buffer: neither held nor promised to a packet being received (R292). -/
def throughFree (d : Dev) (f : Nat) : Nat := getF d .feeder f 4 8 0 * 0x1000 - d.trunk.fill.getD f 0 - openBytes d f

/-- A child's packet is discarded whole at its head: an overflow (R292; spec/05_pipe_sharing.md R504). -/
def throughOver (d : Dev) (f : Nat) : Dev := report (addSat (stat d .feeder f 8 2) .feeder f 0xC 31 16 1) (112 + f)

/-- The buffer has no space for a packet with this head, or its ingress owner is never served (R292; spec/05_pipe_sharing.md R504). -/
def headOver (d : Dev) (f : Nat) (bs : List Byte) : Bool :=
  !(ownerServed d (0x1D + f)) || (!(consumed (bs.getD 0 0).toNat) && decide (throughFree d f < heldBytes bs))

/-- The device is in IDLE, so what a feeder receives is discarded and counted (R319). -/
def feederIdles (e : Env) (g : Nat) : Bool := decide (0 < g) && decide (e.mode = .idle)

/-- A good head of an owner opens its packet, which is dropped whole where it cannot be taken (R279, R291, R292, R319). -/
def openHead (e : Env) (d : Dev) (g o : Nat) (bs : List Byte) : Dev :=
  let f := g - 1
  let d1 := dropOpen d g o
  let p : RxPacket := { head := bs.take 30, stamp := e.now }
  if g = 0 then setOpen d1 g o (some p)
  else if fenced d1 .feeder f then setOpen d1 g o (some { p with drop := true })
  else if feederIdles e g ∨ headOver d1 f bs then setOpen (throughOver d1 f) g o (some { p with drop := true })
  else setOpen d1 g o (some p)

/-- A packet head, or a control block of a type that its link reserves, arrives (R272, R278, R279, R291, R292, R319). A head whose owner is not
known is discarded, in IDLE as an overflow. -/
def rxHead (e : Env) (d : Dev) (g : Nat) (bs : List Byte) : Dev :=
  let x := blockStream d g
  let d1 :=
    if !sealOk bs then badSeal d g
    else if !(headAllowed g (bs.getD 0 0).toNat) then countDiscard x g 1
    else if !(receiving d g) then x
    else match rxOwner d g with
      | none => if feederIdles e g then throughOver x (g - 1) else countDiscard x g 1
      | some o => openHead e x g o bs
  passSlot d1 g

/-- A data block arrives: of a packet, or of a training stream, where it has no slot and is not delivered (R279, R280; spec/10_lanes.md
R308). -/
def rxData (d : Dev) (g : Nat) (bs : List Byte) (errored : Bool) : Dev :=
  if (vget d.groups g).rxStream then d
  else
    let d1 :=
      if !(receiving d g) then d
      else match rxOwner d g with
      | none => if errored then onGroup d g (fun x => { x with opens := x.opens.map (fun q => (q.1, { q.2 with bad := true })) })
          else countDiscard d g 1
      | some o =>
        match openOf d g o with
        | none => countDiscard d g 1
        | some p => setOpen d g o (some { p with data := (if p.drop then p.data else p.data ++ [bs]), bad := p.bad || errored })
    passSlot d1 g

/-! ### Delivery -/

/-- The feeder on the way from device m to device n, searched upwards at most k levels (R290): 0, 1, or none. -/
def nextHop (m n : Nat) : Nat → Option Nat
  | 0 => none
  | k + 1 =>
    if n > 2 * m + 2 then nextHop m ((n - 1) / 2) k
    else if n = 2 * m + 1 then some 0 else if n = 2 * m + 2 then some 1 else none

/-- The feeder towards a device, below this one (R24, R290). -/
def feederTo (d : Dev) (n : Nat) : Option Nat :=
  match deviceId d with
  | some m => if m ≤ 6 then nextHop m n 8 else none
  | none => none

/-- A request is forwarded on a feeder's return lane, after the messages already queued there (R290). -/
def forward (d : Dev) (f : Nat) (p : RxPacket) : Dev :=
  let ahead := (vget d.boxes (3 + f)).outbox.length
  onGroup d (f + 1) (fun x => { x with retQueue := x.retQueue ++ [(ahead, { head := p.head, bytes := p.data.flatten })] })

/-- A feeder's group is READY. -/
def feederReady (d : Dev) (f : Nat) : Bool := decide ((vget d.groups (f + 1)).state = .ready)

/-- A response joins class H where it has room, else it is lost with its request's turn (R286, R289). -/
def respond (d : Dev) (req : List Byte) (status addr count value : Nat) (data : List Byte) : Dev :=
  pushH d (responsePacket d req status addr count value data)

/-- A request joins the queue, with the status it is answered with where it is not executed; a full queue discards and counts it (R288). -/
def queueRequest (d : Dev) (p : RxPacket) (status : Nat) : Dev :=
  if d.trunk.requests.length < 64 then
    refill (onTrunk d (fun t => { t with requests := t.requests ++ [{ head := p.head, data := p.data.flatten, status := status }] }))
  else report (addSat (stat d .link 0 4 0x40) .link 0 0x10 15 0 1) 110

/-- A request for another device: forwarded on a ready feeder below which it lies, else answered as unreachable (R290). -/
def passRequest (d : Dev) (p : RxPacket) (target : Nat) : Dev :=
  match feederTo d target with
  | some f => if feederReady d f then forward d f p else queueRequest d p 6
  | none => queueRequest d p 6

/-- A request for every device goes down every ready feeder; only a device with an ID of 7–14 forwards nothing (R24, R290). -/
def passToAll (d : Dev) (p : RxPacket) : Dev :=
  if 7 ≤ (deviceId d).getD 0 then d else [0, 1].foldl (fun d f => if feederReady d f then forward d f p else d) d

/-- A request produces a response for a status other than 0: all but a MAILBOX without ack do (R289). -/
def answersBad (head : List Byte) : Bool := decide ((head.getD 0 0).toNat ≠ 0x65) || (head.getD 28 0).toNat.testBit 0

/-- A request packet has arrived whole on TRET, its data good or bad (R288–R290). -/
def takeRequest (d : Dev) (p : RxPacket) (dataOk : Bool) : Dev :=
  let target := (p.head.getD 1 0).toNat % 16
  let tree := (p.head.getD 2 0).toNat
  let own := decide (target = 0xF) || decide (deviceId d = some target)
  if tree ≠ 0xFF ∧ tree ≠ treeId d then addSat d .link 0 0x10 15 0 1
  else if !dataOk then (if own && answersBad p.head then queueRequest d p 4 else d)
  else if target = 0xF then passToAll (queueRequest d p 0) p
  else if own then queueRequest d p 0
  else passRequest d p target

/-- A mailbox, time or link message arrives on a port (R276, R277, spec/11_time.md R341). -/
def takeMessage (d : Dev) (port : Nat) (p : RxPacket) : Dev :=
  let m := (p.data.headD []).take (p.head.getD 16 0).toNat
  let ty := timeType m
  let d1 := if (p.head.getD 0 0).toNat = 0x48 ∧ (ty = 0 ∨ ty = 2 ∨ ty = 3) then
      tsqPush d (port + 1) { kind := ty, id := timeSeq m, time := p.stamp } else d
  deliverMsg d1 port m

/-- The blocks of a packet as a feeder's buffer holds them: head, data and END, sealed afresh (R274, R291). -/
def heldPacket (head : List Byte) (data : List Byte) : List Byte :=
  sealBlock head ++ data ++ sealBlock ([0x3F#8] ++ (head.drop 1).take 3 ++ leBytes 4 (crc32c (head ++ data)))

/-- A child's packet passes through: foreign packets dropped, the tree overwritten, the checks recomputed, queued in the feeder's buffer (R291,
R292). The queue names it by its head, from which, with its data in the pan, the blocks sent are made (DESIGN CHOICE, log 138). -/
def passThrough (d : Dev) (f : Nat) (p : RxPacket) : Dev :=
  let dev := (p.head.getD 2 0).toNat / 16
  if dev = 0xF ∨ feederTo d dev ≠ some f then
    report (addSat (stat d .feeder f 8 4) .feeder f 0xC 15 0 1) (112 + f)
  else
    let head := setByte p.head 3 (treeId d)
    let bytes := heldPacket head p.data.flatten
    let cap := max 1 (getF d .feeder f 4 8 0 * 0x1000)
    let start := d.trunk.nextOff.getD f 0
    let base := getF d .feeder f 4 24 12 * 0x1000
    let first := min bytes.length (cap - start % cap)
    let d1 := panWrite (panWrite d (base + start % cap) (bytes.take first)) base (bytes.drop first)
    onTrunk d1 (fun t => { t with
      fill := lmod t.fill f (· + bytes.length),
      nextOff := lmod t.nextOff f (fun _ => (start + bytes.length) % cap),
      through := lmod t.through f (fun l => l ++ [{ head := head, kind := .through f start bytes.length }]) })

/-- A packet that passed R278 is delivered, consumed or passed through. -/
def deliver (d : Dev) (g : Nat) (p : RxPacket) : Dev :=
  let t := (p.head.getD 0 0).toNat
  if g = 0 then
    if 0x60 ≤ t then takeRequest d p true
    else takeMessage d (if t = 0x47 then 0 else 2) p
  else if t = 0x48 ∨ t = 0x4B then takeMessage d (2 + g) p
  else passThrough d (g - 1) p

/-- A packet fails its CRC-32C: counted and reported on the device's own links, in every state (R278,
R293). -/
def crcWrong (d : Dev) (g : Nat) : Dev := if g = 0 then report (addSat (stat d .link 0 4 4) .link 0 0xC 31 16 1) 109 else d

/-- An open packet of owner o ends with an END block (R274, R278, R289, R319). -/
def closePacket (e : Env) (d : Dev) (g o : Nat) (p : RxPacket) (bs : List Byte) : Dev :=
  let d2 := setOpen d g o none
  let whole := decide (p.data.length = leVal ((p.head.drop 10).take 2)) && !p.bad && decide ((bs.drop 1).take 3 = (p.head.drop 1).take 3)
  let crcOk := decide (leVal ((bs.drop 4).take 4) = crc32c (p.head ++ p.data.flatten))
  if p.drop then d2
  else if feederIdles e g then throughOver d2 (g - 1)
  else if !whole then countDiscard d2 g 1
  else if !crcOk then
    let d4 := countDiscard (crcWrong d2 g) g 1
    if g = 0 ∧ 0x60 ≤ (p.head.getD 0 0).toNat then takeRequest d4 p false else d4
  else deliver d2 g p

/-- An END block arrives (R272, R278, R279). -/
def rxEnd (e : Env) (d : Dev) (g : Nat) (bs : List Byte) : Dev :=
  let x := blockStream d g
  let d1 :=
    if !sealOk bs then badSeal d g
    else if !(receiving d g) then x
    else match rxOwner d g with
      | none => countDiscard x g 1
      | some o =>
        match openOf d g o with
        | none => countDiscard x g 1
        | some p => closePacket e x g o p bs
  passSlot d1 g

end Sys2Proof.Machine
end

