-- ==== Sys2Proof/Machine/Heads.lean ====
section
/-! DEFINITION. Camera heads: records, probes, verdicts, counters and reports (spec/15_boot_identity_heads.md R451–R459). -/

namespace Sys2Proof.Machine

/-- The TWS port of a context's head: the live CTX_CFG.port. -/
def headPort (d : Dev) (c : Nat) : Nat := ctxPort d c

/-- A TWS port runs: enabled, not fenced, its domain on (R453). -/
def twsUsable (d : Dev) (n : Nat) : Bool := getB d .tws n 0 0 && !(fenced d .tws n) && domainOn d 47

/-- A 32-bit field of a record. -/
def recWord (r : List Byte) (i : Nat) : Nat := leVal ((r.drop i).take 4)

/-- A CRC of a record holds: over n bytes from i, stored after them low byte first (R451). -/
def recCrc (r : List Byte) (i n : Nat) : Bool := decide (leVal ((r.drop (i + n)).take 2) = crc16 ((r.drop i).take n))

/-- A probe found a record: acknowledged, and its first CRC holds (R452). -/
def recPresent (r : List Byte) : Bool := decide (112 ≤ r.length) && recCrc r 0 94

/-- The identity of a record (R451). -/
def recIdentity (r : List Byte) : List Byte := (r.drop 2).take 22

/-- The record carries a certificate. -/
def recCert (r : List Byte) : Bool := decide ((r.getD 1 0).toNat % 2 = 1)

/-- The head report of a context (R458). -/
def headPacket (d : Dev) (c : Nat) (isNew : Bool) : Packet :=
  let h := vget d.heads c
  let key := if headVerdict d c = 1 then sha256 h.key else []
  { head := leBytes 1 0x49 ++ ownSource d ++ leBytes 1 c ++ leBytes 1 (headVerdict d c) ++ leBytes 1 h.policy
      ++ leBytes 1 (bnat isNew + 2 * bnat h.eol) ++ leBytes 2 0 ++ leBytes 2 (ceilDiv (96 + key.length) 32)
      ++ leBytes 4 h.phr ++ leBytes 4 h.hot ++ leBytes 4 h.cyc ++ leBytes 6 0
    bytes := (h.record.take 96 ++ List.replicate (96 - h.record.length) 0) ++ key }

/-- One of the happenings of R452 without its report packet: its status bit, event 44 and the head's source. -/
def headShown (d : Dev) (c mask : Nat) : Dev := report (raise (stat d .head 0 (c * 0x40 + 4) mask) 44) (153 + c)

/-- One of the happenings of R452: its status bit, event 44, the head's source and a head report (R452, R458). -/
def headHappens (d : Dev) (c mask : Nat) (isNew : Bool) : Dev :=
  let d1 := headShown d c mask
  if decide ((vget d1.groups 0).state = .ready) && getB d1 .glob 0 0x10 31 then
    queueReport d1 (headPacket d1 c isNew)
  else d1

/-- A verdict is reached; a change of the verdict that shows is reported (R452, R454). -/
def setVerdict (d : Dev) (c v : Nat) : Dev :=
  let d1 := onHead d c (fun h => { h with verdict := v })
  if headVerdict d1 c = headVerdict d c then d1 else headHappens d1 c 2 false

/-- The power of the security engine goes off or comes on: every verdict that now shows as another has changed (R452, R454). -/
def verdictsTurn (d : Dev) : Dev := forN 16 (fun d c => if (vget d.heads c).verdict = 0 then d else headHappens d c 2 false) d

/-- Counter i of an entry, 0 powered hours, 1 hours above 85 °C, 2 power cycles, has a limit and has reached it (R457). -/
def limitReached (h : Head) (i : Nat) : Bool :=
  let lim := recWord h.record (30 + 4 * i)
  decide (lim ≠ 0) && decide (lim ≤ (if i = 0 then h.phr else if i = 1 then h.hot else h.cyc))

/-- End of life follows the counters, of which each is reported once as it reaches its limit (R452, R457). -/
def checkEol (d : Dev) (c : Nat) : Dev :=
  forN 3 (fun d i =>
    let h := vget d.heads c
    if h.entry && !(h.hit.contains i) && limitReached h i then
      headHappens (onHead d c (fun h => { h with eol := true, hit := h.hit ++ [i] })) c 4 false
    else d) d

/-- The length of the certificate that a record names. -/
def certLength (record : List Byte) : Nat := leVal ((record.drop 28).take 2)

/-- The 28-byte reads of a certificate (R455). -/
def certReads (record : List Byte) : Nat := ceilDiv (certLength record) 28

/-- The reads of a head's probe, or of its certificate, that have not started are dropped. -/
def dropReads (d : Dev) (c : Nat) (cert : Bool) : Dev :=
  forN 8 (fun d n => onTws d n (fun t => { t with order := t.order.filter (fun j => match j with
    | .probe k _ => cert || decide (k ≠ c)
    | .cert k _ => !cert || decide (k ≠ c)
    | .desc _ => true) })) d

/-- A read of the head's probe is queued or runs on some port. -/
def readsLeft (d : Dev) (c : Nat) : Bool :=
  (List.range 8).any (fun n => ((vget d.tws n).order ++ (vget d.tws n).running.toList).any (fun j => match j with
    | .probe k _ => decide (k = c)
    | _ => false))

/-- A head's certificate is to be checked by the security engine (R449, R455). -/
def queueCheck (d : Dev) (c : Nat) (cert : List Byte) : Dev :=
  onSec d (fun s => { s with jobs := s.jobs ++ [.head c (vget d.heads c).record cert] })

/-- A certificate is to be read, in 28-byte background reads, and checked, or the record has none (R452, R454, R455). -/
def startCert (d : Dev) (c : Nat) : Dev :=
  let r := (vget d.heads c).record
  if recCert r then
    let d1 := dropReads (onHead (setVerdict d c 0) c (fun h => { h with cert := [] })) c true
    if certReads r = 0 then queueCheck d1 c []
    else onTws d1 (headPort d c) (fun t => { t with order := t.order ++ (List.range (certReads r)).map (TwsJob.cert c) })
  else setVerdict d c 2

/-- A probe of a context's head starts: its four reads join the port's background queue (R452, R453, R459). -/
def probeStart (d : Dev) (c : Nat) : Dev :=
  if getB d .head 0 (c * 0x40) 31 && getB d .ctx c 0 0 && twsUsable d (headPort d c) && !(vget d.heads c).probing then
    onTws (onHead d c (fun h => { h with probing := true, readBad := false })) (headPort d c)
      (fun t => { t with order := t.order ++ (List.range 4).map (TwsJob.probe c) })
  else d

/-- The entry of a probe that found a new identity: its verdict is NONE, and frames up to `seq` keep the end of life of the old one (R452, R454,
R459). -/
def newEntry (h : Head) (seq : Nat) (r : List Byte) : Head :=
  let ok := recCrc r 96 12
  let cnt := fun i => if ok then recWord r i else 0
  { h with
    entry := true, record := r.take 112, verdict := 0, phr := cnt 96, hot := cnt 100, cyc := satInc 0xFFFFFFFF (cnt 104), fresh := false,
    eol := false, hit := [], key := [],
    keep := (match h.keep with
      | some (n, old) => some (seq, if n = seq then old else h.eol)
      | none => some (seq, h.eol)) }

/-- What a probe found as its reads have ended, with the bytes that they read, none where its address was not acknowledged (R452). -/
def probeFound (d : Dev) (c : Nat) (r : Option (List Byte)) : Dev :=
  let h := vget d.heads c
  let d1 := onHead d c (fun h => { h with probing := false })
  if !h.probing || readsLeft d c then d
  else match (if h.readBad then none else r) with
  | none => setVerdict d1 c 4
  | some r =>
    if !(recPresent r) then setVerdict d1 c 4
    else if h.entry && decide (recIdentity h.record = recIdentity r) then
      if decide (h.verdict = 4) || h.fresh then
        checkEol (startCert (onHead d1 c (fun h => { h with fresh := false, cyc := satInc 0xFFFFFFFF h.cyc })) c) c
      else d1
    else checkEol (startCert (headHappens (onHead d1 c (fun h => newEntry h (get d .ctx c 0x18).toNat r)) c 1 true) c) c

/-- A probe that ends without a result leaves the head absent (R453, R459). -/
def probeLost (d : Dev) (c : Nat) : Dev := setVerdict (dropReads (onHead d c (fun h => { h with probing := false })) c false) c 4

/-- The probes and certificate reads among a port's jobs are lost; a head whose certificate was being read is absent too, so that the next
probe has it read again (R452, R453, R459; DESIGN CHOICE, log 141). -/
def probesLost (d : Dev) (l : List TwsJob) : Dev :=
  l.foldl (fun d j => match j with
    | .probe c _ => probeLost d c
    | .cert c _ => setVerdict d c 4
    | .desc _ => d) d

/-- A certificate passes R455: a vendor slot, the parameters of its key, and its signature over record bytes 0–95. -/
def certOk (d : Dev) (record cert : List Byte) : Bool :=
  let key := cert.take 60
  let slot := fun (i : Nat) => (List.range 32).map (fun k => sGet (0 : Byte) d.otp (0xB0 + 32 * i + k))
  decide (61 ≤ cert.length) && [0, 1].any (fun i => decide (slot i = sha256 key)) &&
  keyParams key && hssLowerOk key (cert.drop 60) && hssVerify key record (cert.drop 60)

/-- The security engine has checked the certificate of a record (R455): VALID with its key, or INVALID; of a record that is no longer the
entry's, or of a head found absent since, nothing. -/
def certDone (d : Dev) (c : Nat) (record cert : List Byte) : Dev :=
  let h := vget d.heads c
  if h.record ≠ record ∨ h.verdict = 4 then d
  else if certOk d (record.take 96) cert then setVerdict (onHead d c (fun h => { h with key := cert.take 60 })) c 1 else setVerdict d c 3

/-- 3,600 accumulated seconds add an hour to a counter of an entry that is not ABSENT: 0 powered, 1 above 85 °C (R456). -/
def headHour (d : Dev) (c : Nat) (hot : Bool) : Dev :=
  let h := vget d.heads c
  if !h.entry || decide (h.verdict = 4) then d
  else if hot then
    if h.tempOk && decide ((1360 : Int) < sInt 16 (get d .head 0 (c * 0x40 + 0x2C)).toNat) then
      checkEol (onHead d c (fun h => { h with hot := satInc 0xFFFFFFFF h.hot })) c else d
  else if domainOn d (ctxPort d c + 1) then checkEol (onHead d c (fun h => { h with phr := satInc 0xFFFFFFFF h.phr })) c
  else d

/-- The write-back page: record bytes 96–111 with the live counters and their CRC (R456). -/
def headPage (h : Head) : List Byte :=
  let p := leBytes 4 h.phr ++ leBytes 4 h.hot ++ leBytes 4 h.cyc
  p ++ leBytes 2 (crc16 p) ++ (h.record ++ List.replicate 112 0).drop 110 |>.take 16

end Sys2Proof.Machine
end

