-- ==== Sys2Proof/Machine/Tws.lean ====
section
/-! DEFINITION. The two-wire controller ports TWS0–TWS7 and TWT as a controller, which stands as port 8 (spec/14_two_wire.md R410,
R424–R431). -/

namespace Sys2Proof.Machine

/-- A register of a controller port: TWT's copy lies at 0x1000 in its block. -/
def twsReg (d : Dev) (n off : Nat) : Word := if n < 8 then get d .tws n off else get d .twt 0 (0x1000 + off)

/-- The same register, set. -/
def twsSet (d : Dev) (n off : Nat) (w : Word) : Dev := if n < 8 then put d .tws n off w else put d .twt 0 (0x1000 + off) w

/-- An event is reported in a port's TWS_STATUS. -/
def twsStat (d : Dev) (n mask : Nat) : Dev := twsSet d n 0xC (sqcEvent (twsReg d n 0xC) mask)

/-- The fault source of a port. -/
def twsSource (n : Nat) : Nat := if n < 8 then 144 + n else 152

/-- The port runs (TWS_CFG.enable, TWT_CFG.ctl_enable). -/
def twsOn (d : Dev) (n : Nat) : Bool := if n < 8 then twsUsable d n else getB d .twt 0 0 0

/-- A port's record. -/
def twsOf (d : Dev) (n : Nat) : Tws := vget d.tws n

/-- Descriptor k of a port. -/
def twsDesc (d : Dev) (n k : Nat) : Word := twsReg d n (0x100 + 4 * k)

/-- The nominal bit of a port in time-base cycles (R408). -/
def twsBit (d : Dev) (n : Nat) : Nat :=
  let s := if n < 8 then fld (twsReg d n 0) 3 2 else getF d .twt 0 0 5 4
  if s = 1 then 1250 else if s = 2 then 500 else 5000

/-- The bit count of a transaction (R431). -/
def bitCount (wlen rlen : Nat) : Nat := 2 + 9 * (1 + wlen) + (if rlen = 0 then 0 else 1 + 9 * (1 + rlen))

/-- The bytes that read k of a certificate reads: 28, and the rest in the last. -/
def certPart (record : List Byte) (k : Nat) : Nat := min 28 (certLength record - 28 * k)

/-- The estimated duration of a job in time-base cycles (R431); a head's reads are of 28 bytes or fewer after a 2-byte address. -/
def jobTime (d : Dev) (n : Nat) (j : TwsJob) : Nat :=
  (match j with
   | .desc k => bitCount (fld (twsDesc d n k) 13 8) (fld (twsDesc d n k) 5 0)
   | .probe _ _ => bitCount 2 28
   | .cert c k => bitCount 2 (certPart (vget d.heads c).record k)) * twsBit d n

/-- A job of the sensor queue (R425). -/
def isSensor (d : Dev) (n : Nat) (j : TwsJob) : Bool :=
  match j with
  | .desc k => flag (twsDesc d n k) 26
  | _ => false

/-- Descriptor k is queued or running. -/
def descBusy (d : Dev) (n k : Nat) : Bool :=
  (twsOf d n).order.contains (.desc k) || decide ((twsOf d n).running = some (.desc k))

/-- A write of k to TWS_SUBMIT is accepted (R424). -/
def submitOk (d : Dev) (n k : Nat) : Bool :=
  let w := twsDesc d n k
  twsOn d n && !(descBusy d n k) && decide (fld w 13 8 ≤ 32) && decide (fld w 5 0 ≤ 32) && !(flag w 31 && decide (fld w 13 8 = 0))

/-- Descriptor k is queued (R424). -/
def submit (d : Dev) (n k : Nat) : Dev := onTws d n (fun t => { t with order := t.order ++ [.desc k] })

/-- A completion of descriptor k (R426); an entry that finds TWS_DONE full is not held. -/
def complete (d : Dev) (n k status bytes : Nat) : Dev :=
  let d1 := onTws d n (fun t => { t with
    done := (if t.done.length < 16 then t.done ++ [{ desc := k, status := status, bytes := bytes }] else t.done) })
  let c := twsReg d1 n 0x1C
  let c1 := setFld c 15 0 (fld c 15 0 + 1)
  let c2 := if 1 ≤ status ∧ status ≤ 5 then setFld c1 31 16 (satInc 65535 (fld c1 31 16)) else c1
  ringBell (twsSet d1 n 0x1C c2) (fld (twsReg d n 0) 21 16)

/-- A job ends with a status: a descriptor's completion, a lost probe, or a certificate that could not be read. -/
def jobFail (d : Dev) (n : Nat) (j : TwsJob) (status bytes : Nat) : Dev :=
  match j with
  | .desc k => complete d n k status bytes
  | .probe c _ => probeLost d c
  | .cert c _ => setVerdict (dropReads d c true) c 3

/-- The running job leaves the bus. -/
def twsFree (d : Dev) (n : Nat) : Dev :=
  onTws d n (fun t => { t with running := none, inFlight := false, waiting := false, tries := 0 })

/-- The next opening of a port's window that it can predict: of its context's last reference event while that is still to come, else a frame
period later; none where no period is known or the instant has passed (R431; DESIGN CHOICE, log 140). -/
def nextWindow (e : Env) (d : Dev) (n : Nat) : Option Nat :=
  let win := twsReg d n 4
  let x := vget d.ctxs (fld win 27 24)
  match (if flag win 30 then x.lastEnd else x.lastStart), x.period with
  | some r, some p =>
    let w := r + fld win 23 12 * 500
    if e.cycles < w then some w else if e.cycles < w + p then some (w + p) else none
  | _, _ => none

/-- The head of the queues that may start now (R425, R431). -/
def nextJob (e : Env) (d : Dev) (n : Nat) : Option TwsJob :=
  let t := twsOf d n
  let win := twsReg d n 4
  if 8 ≤ n ∨ flag win 31 = false then t.order.head?
  else
    let sensor := t.order.find? (isSensor d n)
    let back := t.order.find? (fun j => !(isSensor d n j))
    let stop := fun (j : TwsJob) => e.cycles + jobTime d n j + fld (twsReg d n 8) 11 0 * 500
    if t.windowOpen then
      match sensor with
      | some j => some j
      | none => back.filter (fun j => decide (stop j < t.closeAt))
    else
      match nextWindow e d n with
      | some w => back.filter (fun j => decide (stop j < w))
      | none => back

/-- A port starts a transaction when the bus is free and the rules allow (R425, R429, R431). -/
def twsStart (e : Env) (d : Dev) (n : Nat) : Dev :=
  let t := twsOf d n
  if !(twsOn d n) || t.busy || t.inRecovery || t.inFlight || t.waiting then d
  else if t.running ≠ none then onTws d n (fun t => { t with inFlight := true })
  else
    match nextJob e d n with
    | none => d
    | some j =>
      if t.fresh || t.recover then onTws d n (fun t => { t with inRecovery := true, fresh := false, recover := false })
      else onTws d n (fun t => { t with order := t.order.erase j, running := some j, inFlight := true, tries := 0 })

/-- The bytes that a transaction read enter the descriptor's data area (R424, TWS_DATA). -/
def twsStore (d : Dev) (n k : Nat) (bs : List Byte) : Dev :=
  (List.range bs.length).foldl (fun d j =>
    let off := 0x400 + k * 0x20 + j / 4 * 4
    twsSet d n off (setFld (twsReg d n off) (j % 4 * 8 + 7) (j % 4 * 8) (bs.getD j 0).toNat)) d

/-- An attempt is to be repeated (R426). -/
def twsRetry (d : Dev) (n : Nat) (timer : Bool) : Dev :=
  onTws d n (fun t => { t with inFlight := false, waiting := timer, busy := true, tries := t.tries + 1 })

/-- A read of a probe has ended: a failed one ends the probe's reads (R452). -/
def probeRead (d : Dev) (c status : Nat) : Dev :=
  if status = 0 then d else dropReads (onHead d c (fun h => { h with readBad := true })) c false

/-- Read k of a certificate has ended with what it read: with the last, the whole certificate is to be checked; one that cannot be read is
INVALID (R454, R455). -/
def certRead (d : Dev) (c k status : Nat) (data : List Byte) : Dev :=
  let h := vget d.heads c
  if status ≠ 0 then setVerdict (dropReads d c true) c 3
  else
    let got := h.cert ++ (data ++ List.replicate 28 0xFF).take (certPart h.record k)
    if k + 1 < certReads h.record then onHead d c (fun h => { h with cert := got })
    else queueCheck (onHead d c (fun h => { h with cert := [] })) c got

/-- A transaction ends on the bus: status 0 done, 1 an address not acknowledged, 2 data byte not acknowledged, after `count` bytes; `data` is
what it read (R424, R426, R430). A head's reads have no descriptor and no completion; the bytes of a probe's come with HEAD_PROBE_DONE
(spec/15_boot_identity_heads.md R452, R455). -/
def twsEnd (d : Dev) (n status count : Nat) (data : List Byte) : Dev :=
  let t := twsOf d n
  if !t.inFlight then d
  else
    match t.running with
    | none => d
    | some j =>
      if status = 1 ∧ t.tries < fld (twsReg d n 0) 6 4 then twsRetry d n true
      else
        let d1 := onTws (twsFree d n) n (fun t => { t with busy := true })
        match j with
        | .probe c _ => probeRead d1 c status
        | .cert c k => certRead d1 c k status data
        | .desc k =>
          let w := twsDesc d n k
          if status = 0 then
            let rlen := fld w 5 0
            let d2 := twsStore d1 n k ((data ++ List.replicate 32 0xFF).take rlen)
            let d3 := if flag w 31 then onCtx d2 (fld w 30 27) (fun x => { x with epochDue := x.epochDue + 1 }) else d2
            complete d3 n k 0 (if rlen = 0 then fld w 13 8 else rlen)
          else complete (twsStat d1 n 1) n k status (min count (fld w 13 8))

/-- 100 µs after a not-acknowledged address the transaction is tried again (R426). -/
def twsAgain (d : Dev) (n : Nat) : Dev :=
  let t := twsOf d n
  if t.waiting then onTws d n (fun t => { t with waiting := false, inFlight := !t.busy }) else d

/-- Arbitration is lost after `bytes` bytes of the attempt (R426, R427). -/
def twsLost (d : Dev) (n bytes : Nat) : Dev :=
  let t := twsOf d n
  if !t.inFlight then d
  else
    let d1 := twsStat d n 2
    let d2 := if n = 8 then stat d1 .twt 0 0x20 1 else d1
    if t.tries < fld (twsReg d n 0) 6 4 then twsRetry d2 n false
    else
      match t.running with
      | some j => jobFail (onTws (twsFree d2 n) n (fun t => { t with busy := true })) n j 3 bytes
      | none => d2

/-- The transaction of a port: the one that runs, or the one that waits to start (R428, R429). -/
def twsWaiting (e : Env) (d : Dev) (n : Nat) : Option TwsJob :=
  match (twsOf d n).running with
  | some j => some j
  | none => nextJob e d n

/-- SCL stays low beyond the stretch limit while a transaction runs or waits to start, or a recovery clocks (R428): the transaction ends with
status 4 after `bytes` bytes, and the port's bus logic resets. -/
def twsStretch (e : Env) (d : Dev) (n bytes : Nat) : Dev :=
  let job := twsWaiting e d n
  if !(twsOn d n) || (job.isNone && !(twsOf d n).inRecovery) then d
  else
    let d1 := twsStat (onTws (twsFree d n) n (fun t => { t with busy := true, inRecovery := false })) n 4
    match job with
    | none => report d1 (twsSource n)
    | some j => report (jobFail (onTws d1 n (fun t => { t with order := t.order.erase j })) n j 4 bytes) (twsSource n)

/-- A port's self-reset, as a forced fault of its source asks for it (spec/13_fault_collector.md R390, R394): it releases the bus, ends the
transaction that runs with status 4, and resets its bus logic (R428). -/
def twsSelfReset (d : Dev) (n : Nat) : Dev :=
  if twsOn d n then
    let d1 := onTws (twsFree d n) n (fun t => { t with busy := true, inRecovery := false })
    match (twsOf d n).running with
    | some j => jobFail d1 n j 4 0
    | none => d1
  else d

/-- Bus recovery starts on a bus that is free (R429). -/
def twsRecover (d : Dev) (n : Nat) : Dev :=
  let t := twsOf d n
  if twsOn d n && !t.inFlight && !t.busy then onTws d n (fun t => { t with inRecovery := true, recover := false, fresh := false }) else d

/-- TWS_CTRL.recover is written: recovery starts, at once or when the bus is free (R429). -/
def recoverAsked (d : Dev) (n : Nat) : Dev := if twsOn d n then twsRecover (onTws d n (fun t => { t with recover := true })) n else d

/-- Bus recovery ends: SDA rose, or it is still low after the ninth pulse (R429). -/
def twsRecovered (e : Env) (d : Dev) (n : Nat) (ok : Bool) : Dev :=
  let t := twsOf d n
  if !t.inRecovery then d
  else if ok then twsStat (onTws d n (fun t => { t with inRecovery := false, busy := false })) n 8
  else
    let job := twsWaiting e d n
    let d1 := report (twsStat (onTws d n (fun t => { t with inRecovery := false, fresh := true })) n 0x10) (twsSource n)
    match job with
    | none => d1
    | some j => jobFail (onTws (twsFree d1 n) n (fun t => { t with order := t.order.erase j })) n j 5 0

/-- TWS_CTRL.flush: every unstarted descriptor ends with status 6 (R426). -/
def twsFlush (d : Dev) (n : Nat) : Dev :=
  let ks := (twsOf d n).order.filterMap (fun j => match j with
    | .desc k => some k
    | _ => none)
  ks.foldl (fun d k => complete d n k 6 0)
    (onTws d n (fun t => { t with order := t.order.filter (fun j => match j with
      | .desc _ => false
      | _ => true) }))

/-- The port is held in reset: it releases the bus, and both queues are discarded (TWS_CFG.enable, R401, R430). Its probes are lost
(R453). -/
def twsStop (d : Dev) (n : Nat) : Dev :=
  let t := twsOf d n
  let jobs := t.order ++ t.running.toList
  probesLost (onTws d n (fun t => { busy := true, done := t.done })) jobs

/-- TWT as a controller releases its lines as FALLOW begins: its transaction in progress is aborted and has no completion (R423; DESIGN CHOICE,
log 139). -/
def twtLetGo (d : Dev) : Dev := onTws (twsFree d 8) 8 (fun t => { t with busy := true, inRecovery := false })

/-- A read of TWS_DONE pops the oldest completion (R426). -/
def doneWord (t : TwsDone) : Word := BitVec.ofNat 32 (2 ^ 31 + t.status * 2 ^ 24 + t.bytes % 256 * 2 ^ 8 + t.desc)

/-- The oldest completion of a port as its register shows it. -/
def donePeek (d : Dev) (n : Nat) : Word :=
  match (twsOf d n).done with
  | [] => 0
  | t :: _ => doneWord t

/-- TWS_DONE is popped. -/
def donePop (d : Dev) (n : Nat) : Word × Dev := (donePeek d n, onTws d n (fun t => { t with done := t.done.drop 1 }))

/-- A frame window opens: open µs after its reference event (R431). -/
def windowOpens (e : Env) (d : Dev) (n : Nat) : Dev :=
  let win := twsReg d n 4
  let c := fld win 27 24
  if decide (n < 8) && twsOn d n && flag win 31 && getB d .ctx c 0 0 && !(fenced d .ctx c) then
    onTws d n (fun t => { t with windowOpen := true, closeAt := max t.closeAt (e.cycles + max 1 (fld win 11 0) * 500) })
  else d

/-- The window's end is reached (R431). -/
def windowCloses (e : Env) (d : Dev) (n : Nat) : Dev :=
  if (twsOf d n).windowOpen && decide ((twsOf d n).closeAt ≤ e.cycles) then onTws d n (fun t => { t with windowOpen := false }) else d

/-- The bus of a port is free (R410), and a recovery that was asked for starts (R429). -/
def busFree (d : Dev) (n : Nat) : Dev :=
  let d1 := onTws d n (fun t => { t with busy := false })
  if (twsOf d n).recover then twsRecover d1 n else d1

end Sys2Proof.Machine
end

