-- ==== Sys2Proof/Machine/Units.lean ====
section
/-! DEFINITION. Stopping and resetting units: the effects of a fence, of a unit reset and of a power domain that goes off
(spec/13_fault_collector.md R401, R402; spec/16_power_and_modes.md R474). -/

namespace Sys2Proof.Machine

/-- The frames of a context that satisfy p leave without a further packet; the views and taps that follow them end quietly. -/
def forgetFrames (d : Dev) (c : Nat) (p : Frame → Bool) : Dev :=
  let gone := ((framesOf d c).filter p).map Frame.seq
  let d1 := onCtx d c (fun x => { x with frames := x.frames.filter (fun f => !(p f)) })
  let d2 := forN 32 (fun d v =>
    let x := vget d.views v
    if x.ctx = c then
      let d1 := onView d v (fun x => { x with
        frameOpen := x.frameOpen && !(gone.contains x.seq), nexts := x.nexts.filter (fun s => !(gone.contains s)) })
      if x.frameOpen && gone.contains x.seq then putF d1 .view v 0x38 31 31 0 else d1
    else d) d1
  forN 4 (fun d k =>
    if fld (tapReg d k 0) 11 8 = c then onTap d k (fun t => { t with frame := t.frame.filter (fun s => !(gone.contains s)) }) else d) d2

/-- A pipe is fenced: the frames of its contexts are dropped whole, and its Bank M state is discarded (R401). An open frame counts as dropped
and raises no fault of its context (R79; DESIGN CHOICE, log 132). -/
def stopPipe (d : Dev) (p : Nat) : Dev :=
  let d1 := forN 16 (fun d c =>
    let live := match openFrame d c with
      | some f => decide (f.pipe = p)
      | none => false
    let d1 := if live then addSat (onCtx d c (fun x => { x with phase := .dropped })) .ctx c 0x20 31 16 1 else d
    forgetFrames d1 c (fun f => decide (f.pipe = p))) d
  showNow (onPipe d1 p (fun x => { clock := x.clock, inlineClk := x.inlineClk, busyClk := x.busyClk })) p

/-- A view stops at once: no frame end, its staged lines are discarded (R191). -/
def stopView (d : Dev) (v : Nat) : Dev :=
  putF (onView d v (fun x => { x with frameOpen := false, queue := [], used := 0, nexts := [], cut := false })) .view v 0x38 31 31 0

/-- The packet in progress of an owner on the trunk is given up. -/
def dropCur (d : Dev) (o : Nat) : Dev := onTrunk d (fun t => { t with curs := t.curs.filter (fun q => decide (q.1 ≠ o)) })

/-- The trunk's packet in progress of an owner is given up, and its space is free, where it satisfies p. -/
def giveUp (d : Dev) (o : Nat) (p : Packet → Bool) : Dev :=
  match d.trunk.curs.find? (fun q => decide (q.1 = o)) with
  | some (_, s) => if p s.pkt then packetGone (dropCur d o) s.pkt else d
  | none => d

/-- A feeder stops: what it receives is discarded, and its return lane and its pass-through slots give up the packet in progress (R401). -/
def stopFeeder (d : Dev) (f : Nat) : Dev :=
  onGroup (giveUp d (0x21 + f) (fun _ => true)) (f + 1) (fun x => { x with
    sending := none, opens := x.opens.map (fun q => (q.1, { q.2 with drop := true })) })

/-- A drover of 1–3 stays in TRAPPED, and its armed sets are discarded without a squash (R401, spec/07_jorran_isa.md R255); one without power
stays in RESET (spec/07_jorran_isa.md R252). -/
def stopDrover (d : Dev) (n : Nat) : Dev :=
  if n = 0 ∨ domainOn d (39 + n) then
    onDrv d n (fun v => { v with state := .trapped, sleep := none, openSet := none, armed := [], load := none, failed := none, haltDue := false })
  else d

/-- A packet of a tap channel (spec/06_views_taps_convoys.md R196). -/
def isTap (p : Packet) : Bool := decide (p.head = []) && decide (p.man.ctype = 0x44)

/-- The tap channels stop with no tap frame end: their packets are given up, the one in progress on the trunk too (R401). -/
def stopTaps (d : Dev) : Dev :=
  let d1 := giveUp d 0 isTap
  let d2 := d1.tapQueue.foldl packetGone { d1 with tapQueue := [] }
  forN 4 (fun d c => tapOff (onTap d c (fun t => { t with frame := none, lost := false })) c) d2

/-- A unit stops: its outputs end as its fence gives (R401, R474). -/
def stopUnit (d : Dev) (u : UnitKind) (n : Nat) : Dev :=
  match u with
  | .csi => closePort d n
  | .tws => twsStop d n
  | .ctx => closeFrame d n 5
  | .pipe => stopPipe d n
  | .tap => stopTaps d
  | .feeder => stopFeeder d n
  | .drv => stopDrover d n
  | .view => stopView (dropCur d (n + 1)) n
  | _ => d

/-- Every register of a block returns to its reset value (R402). -/
def clearRegs (d : Dev) (a len : Nat) : Dev :=
  { d with
    regs := d.regs.filter (fun p => !(decide (a ≤ p.1) && decide (p.1 < a + len))),
    staged := d.staged.filter (fun p => !(decide (a ≤ p.1) && decide (p.1 < a + len))) }

/-- The registers of a unit's block, without its mirror. -/
def clearUnit (d : Dev) (u : UnitKind) (n : Nat) : Dev := clearRegs d (unitBase u n) (if u = .lane then 0x400 else 0x2000)

/-- The reset value of a feeder's FEED_CFG follows the straps (spec/15_boot_identity_heads.md R434). -/
def feederConfig (trunk : Nat) : Word := BitVec.ofNat 32 (trunk * 2)

/-- A feeder's registers take their reset values, and its pass-through buffer and its packet on the trunk are no more. -/
def clearFeeder (e : Env) (d : Dev) (f : Nat) : Dev :=
  onTrunk (put (clearUnit d .feeder f) .feeder f 0 (feederConfig e.straps.trunk)) (fun t => { t with
    curs := t.curs.filter (fun q => decide (q.1 ≠ 0x21 + f)),
    through := lmod t.through f (fun _ => []), fill := lmod t.fill f (fun _ => 0), nextOff := lmod t.nextOff f (fun _ => 0) })

/-- The pan accesses of a drover are no longer queued. -/
def dropPan (d : Dev) (n : Nat) : Dev := { d with panReqs := d.panReqs.filter (fun r => decide (r.drover ≠ n)) }

/-- A feeder's line is no longer sourced once its group is in OFF. -/
def feedersOff (d : Dev) : Dev :=
  forN 2 (fun d f => if (vget d.groups (f + 1)).state = .off then onFeed d f (fun _ => {}) else d) d

/-- A unit's registers take their reset values and its state is cleared (R402); record slots whose packets wait in the harvest's queue stay busy
(spec/04_colour_and_harvest.md R135); a feeder whose enable is 0 again is OFF (spec/10_lanes.md R312). -/
def resetUnit (e : Env) (d : Dev) (u : UnitKind) (n : Nat) : Dev :=
  let d0 := if u = .ctx then forgetFrames d n (fun _ => true) else d
  let d1 := clearUnit d0 u n
  match u with
  | .csi => onPort d1 n (fun _ => {})
  | .tws => onTws d1 n (fun _ => {})
  | .ctx => onCtx (squashCtx d1 n) n (fun x => { harvBusy := x.harvBusy })
  | .pipe => onPipe d1 n (fun x => { clock := x.clock })
  | .tap => forN 4 (fun d c => onTap d c (fun _ => {})) { d1 with tapQueue := [] }
  | .feeder => feedersOff (groupOff (clearFeeder e d1 n) (n + 1))
  | .drv => onDrv (dropPan d1 n) n (fun _ => {})
  | .view => onView d1 n (fun _ => {})
  | _ => d1

/-- The units that a power domain holds (spec/16_power_and_modes.md R470). -/
def domainUnits (k : Nat) : List (UnitKind × Nat) :=
  if 1 ≤ k ∧ k ≤ 8 then [(.csi, k - 1)]
  else if 40 ≤ k ∧ k ≤ 42 then [(.drv, k - 39)]
  else if k = 43 then (List.range 16).map (fun v => (.view, v))
  else if k = 44 then (List.range 16).map (fun v => (.view, v + 16))
  else if k = 45 then [(.harv, 0)]
  else if k = 46 then [(.tap, 0)]
  else if k = 47 then (List.range 8).map (fun n => (.tws, n))
  else if k = 48 then [(.boot, 0)]
  else if k = 49 then [(.sec, 0)]
  else if 24 ≤ k ∧ k ≤ 31 then [(.pipe, (k - 24) / 2)]
  else []

/-- The lane of a lane domain. -/
def domainLane (k : Nat) : Option Nat :=
  if 9 ≤ k ∧ k ≤ 13 then some (k - 9)
  else if 14 ≤ k ∧ k ≤ 17 then some (k - 9)
  else if k = 22 then some 9
  else if 18 ≤ k ∧ k ≤ 21 then some (k - 8)
  else if k = 23 then some 14
  else none

/-- The domains of a feeder's lanes. -/
def feederDomains (f : Nat) : List Nat := if f = 0 then [14, 15, 16, 17, 22] else [18, 19, 20, 21, 23]

/-- A bit of the words that show the domains that are usable (PWR_PDON0, PWR_PDON1). -/
def setDomain (d : Dev) (k : Nat) (on : Bool) : Dev :=
  if k ≤ 32 then putF d .power 0 0x1C (k - 1) (k - 1) (bnat on) else putF d .power 0 0x20 (k - 33) (k - 33) (bnat on)

/-- The bytes of a range of memory are lost: they read 0. -/
def eraseMem (d : Dev) (a len : Nat) : Dev :=
  { d with
    mem := d.mem.filter (fun p => !(decide (a ≤ p.1) && decide (p.1 < a + len))),
    badLines := d.badLines.filter (fun b => !(decide (a ≤ b) && decide (b < a + len))),
    softLines := d.softLines.filter (fun b => !(decide (a ≤ b) && decide (b < a + len))) }

/-- A drover's domain goes off: it reads RESET, its queued pan accesses are dropped, and its memories lose their content
(spec/07_jorran_isa.md R247, R252). -/
def droverOff (d : Dev) (n : Nat) : Dev :=
  eraseMem (eraseMem (onDrv (dropPan d n) n (fun _ => {})) (0x700000 + n * 0x20000) 0x20000) (0x780000 + n * 0x10000) 0x10000

/-- The sensors have no power: no reading is valid, and the runs of samples start afresh (spec/16_power_and_modes.md R481). -/
def thermInvalid (d : Dev) : Dev :=
  forN 14 (fun d k => putF d .thermal 0 (0x40 + 4 * k) 31 31 0)
    (putF (onPower d (fun p => { p with coolRun := 0, shedRun := 0 })) .thermal 0 0 31 31 0)

/-- The bank of a pan offset (spec/05_pipe_sharing.md R170). -/
def panBank (off : Nat) : Nat := off / 64 % 8

/-- The response of a pan access reaches its drover's load or posted store (spec/07_jorran_isa.md R221, R223). -/
def panReply (d : Dev) (r : PanReq) (v : Option Word) : Dev :=
  onDrv d r.drover (fun x =>
    if r.write then
      match findIdx? (fun (s : PostedStore) => decide (s.addr = r.addr) && decide (s.pc = r.pc) && decide (s.reply = none)) x.stores with
      | some i => { x with stores := lmod x.stores i (fun s => { s with reply := some v.isSome }) }
      | none => x
    else { x with load := x.load.map (fun l => { l with reply := some v }) })

/-- The bank b of the pan goes off: the accesses queued for it are rejected (spec/12_register_access.md R359). -/
def bankOff (d : Dev) (b : Nat) : Dev :=
  let here := fun (r : PanReq) => decide (panBank (r.addr - panBase) = b)
  (d.panReqs.filter here).foldl (fun d r => panReply (reportAcc d 131 (2 + r.drover) (if r.write then .write else .read) r.addr) r none)
    { d with panReqs := d.panReqs.filter (fun r => !(here r)) }

/-- The security engine has no power: its queue is lost, and a bundle whose verification it ends in RESCUE may be presented again
(spec/15_boot_identity_heads.md R446, R449). -/
def engineOff (e : Env) (d : Dev) : Dev :=
  let d1 := onSec d (fun s => { s with jobs := [], ready := false, idle := false, passed := none })
  if e.mode = .rescue ∧ d.boot.stage = .verifyBuffer then onBoot d1 (fun b => { b with stage := .download }) else d1

/-- A domain goes off (R474): its units stop, those whose blocks lie in it hold their reset values, a lane turns off, pan and drover
memories lose their content. SEC_DL is reset at line-up only. -/
def domainOff (e : Env) (d : Dev) (k : Nat) : Dev :=
  if domainOn d k then
    let dl := get d .sec 0 0xC
    let d0 := (domainUnits k).foldl (fun d q =>
      if q.1 = .pipe ∨ q.1 = .drv then stopUnit d q.1 q.2 else resetUnit e (stopUnit d q.1 q.2) q.1 q.2) d
    let d1 := if k = 49 then put d0 .sec 0 0xC dl else d0
    let d2 := match domainLane k with
      | some n =>
        let g := laneGroup n
        let d2 := if (useLanes d1 g).contains n && decide ((vget d1.groups g).state ≠ .off) then groupOff d1 g else d1
        clearUnit (onLane d2 n (fun _ => {})) .lane n
      | none => d1
    let d3 := if 40 ≤ k ∧ k ≤ 42 then droverOff d2 (k - 39)
      else if k = 39 then eraseMem (bankOff d2 7) panBase panSize
      else if 32 ≤ k ∧ k ≤ 38 then bankOff d2 (k - 32)
      else if k = 50 then thermInvalid d2
      else if k = 49 then engineOff e d2
      else d2
    let d3' := setDomain (onPower d3 (fun p => { p with coming := p.coming.filter (· ≠ k) })) k false
    let d4 := if k = 49 then verdictsTurn d3' else d3'
    if (feederDomains 0).contains k && (feederDomains 0).all (fun j => !(domainOn d4 j)) then clearFeeder e d4 0
    else if (feederDomains 1).contains k && (feederDomains 1).all (fun j => !(domainOn d4 j)) then clearFeeder e d4 1
    else d4
  else
    let kept := d.power.retained.contains k
    let d1 := onPower d (fun p => { p with coming := p.coming.filter (· ≠ k), retained := p.retained.filter (· ≠ k) })
    if kept ∧ 40 ≤ k ∧ k ≤ 42 then droverOff d1 (k - 39) else if kept ∧ k = 39 then eraseMem d1 panBase panSize else d1

end Sys2Proof.Machine
end

