-- ==== Sys2Proof/Machine/Faults.lean ====
section
/-! DEFINITION. The fault collector: registration, escalation, records, fences, acknowledgements and reports
(spec/13_fault_collector.md R384–R406). -/

namespace Sys2Proof.Machine

/-! ### Sources and units -/

/-- The unit code of a source's fenceable unit (R390). -/
def sourceUnit (s : Nat) : Option Nat :=
  if 8 ≤ s ∧ s ≤ 15 then some (s - 8)
  else if 16 ≤ s ∧ s ≤ 63 then some (0x10 + (s - 16) % 16)
  else if 64 ≤ s ∧ s ≤ 67 then some (0x20 + (s - 64))
  else if 69 ≤ s ∧ s ≤ 100 then some (0x40 + (s - 69))
  else if s = 101 then some 0x25
  else if 104 ≤ s ∧ s ≤ 106 then some (0x29 + (s - 104))
  else if s = 112 ∨ s = 113 then some (0x26 + (s - 112))
  else if s = 115 ∨ s = 116 then some (0x26 + (s - 115))
  else if 144 ≤ s ∧ s ≤ 151 then some (0x08 + (s - 144))
  else if 153 ≤ s ∧ s ≤ 168 then some (0x10 + (s - 153))
  else none

/-- The unit of a unit code (R401). -/
def codeUnit (c : Nat) : Option (UnitKind × Nat) :=
  if c ≤ 7 then some (.csi, c)
  else if c ≤ 0xF then some (.tws, c - 8)
  else if c ≤ 0x1F then some (.ctx, c - 0x10)
  else if c ≤ 0x23 then some (.pipe, c - 0x20)
  else if c = 0x24 then some (.harv, 0)
  else if c = 0x25 then some (.tap, 0)
  else if c ≤ 0x27 then some (.feeder, c - 0x26)
  else if 0x29 ≤ c ∧ c ≤ 0x2B then some (.drv, c - 0x28)
  else if 0x40 ≤ c ∧ c ≤ 0x5F then some (.view, c - 0x40)
  else none

/-- The programmed class of a source: FLT_SEV (R386). -/
def programmed (d : Dev) (s : Nat) : Nat := getF d .customs 0 (0x800 + 8 * s) 2 0

/-! ### Unacknowledged sources -/

/-- A class is open (R392). -/
def classOpen (d : Dev) (k : Nat) : Bool := d.flt.unacked.any (fun q => decide (q.2.cls = k))

/-- The registration that a source holds (R392). -/
def heldBy (d : Dev) (s : Nat) : Option Unacked := (d.flt.unacked.find? (fun q => decide (q.1 = s))).map Prod.snd

/-- A source holds a registration (R392). -/
def hold (d : Dev) (s num cls : Nat) : Dev := onFlt d (fun f => { f with unacked := sIns s { num := num, cls := cls } f.unacked })

/-- A source is acknowledged (R397). -/
def release (d : Dev) (s : Nat) : Dev := onFlt d (fun f => { f with unacked := sDel s f.unacked })

/-- A write of FLT_ACK, or an acknowledgement by the boot ROM (R397). -/
def acknowledge (d : Dev) (s num : Nat) (any : Bool) : Dev :=
  match heldBy d s with
  | none => d
  | some u => if any || decide (u.num = num) then release d s else stat d .customs 0 0 4

/-- The highest acted class unacknowledged (FLT_SUMMARY.highest). -/
def highestClass (d : Dev) : Nat := d.flt.unacked.foldl (fun a q => max a q.2.cls) 0

/-- FAULT_N is low (R400). -/
def faultLow (m : Mode) (d : Dev) : Bool :=
  decide (m = .halt) || d.flt.unacked.any (fun q => decide (getF d .customs 0 8 2 0 ≤ q.2.cls))

/-- The word FLT_UNACKi. -/
def unackWord (d : Dev) (i : Nat) : Word :=
  BitVec.ofNat 32 (sumTo 32 (fun b => bnat (d.flt.unacked.any (fun q => decide (q.1 = 32 * i + b))) * 2 ^ b))

/-- The word FLT_SUMMARY. -/
def summaryWord (e : Env) (d : Dev) : Word :=
  BitVec.ofNat 32 (bnat (d.flt.forced || d.flt.unlocked) * 2 ^ 31 + bnat d.flt.unlocked * 2 ^ 30 + bnat (treeFlag e d) * 2 ^ 29
    + bnat (decide (d.flt.unacked ≠ [])) * 2 ^ 19 + highestClass d * 2 ^ 16 + d.flt.next)

/-- The word GLOBAL_MODE (spec/01_architecture.md R29). -/
def modeWord (s : Sys) : Word := BitVec.ofNat 32 (s.changes % 256 * 2 ^ 8 + s.prev * 2 ^ 4 + modeCode s.mode)

/-! ### Records (R398, R399) -/

/-- A registration as it is decided: escalated, origin (1 real, 2 forced, 3 both), acted and programmed class, clamped. -/
structure Decision where
  escalated : Bool
  origin    : Nat
  acted     : Nat
  prog      : Nat
  clamped   : Bool
deriving DecidableEq, Repr, Inhabited

/-- The acted class of a registration of source s, whose programmed class is k (R387, R393, R394). -/
def decideClass (d : Dev) (s k origin : Nat) : Decision :=
  let esc := decide (1 ≤ k) && decide (k ≤ 3) && classOpen d k
  let a := if esc then k + 1 else k
  let b := if a = 2 ∧ sourceUnit s = none then 3 else a
  let clamp := decide (origin = 2) && decide (b = 4) && !d.flt.unlocked
  { escalated := esc, origin := origin, acted := if clamp then 3 else b, prog := k, clamped := clamp }

/-- The six words of a record (R399). -/
def recordWords (r : Report) (x : Decision) (num now : Nat) : List Word :=
  [BitVec.ofNat 32 (num * 2 ^ 24 + bnat x.escalated * 2 ^ 23 + x.origin * 2 ^ 21 + x.acted * 2 ^ 18 + x.prog * 2 ^ 15
     + r.master % 16 * 2 ^ 11 + r.access % 8 * 2 ^ 8 + r.source % 256),
   BitVec.ofNat 32 r.addr, BitVec.ofNat 32 (secOf now), BitVec.ofNat 32 (secOf now / 2 ^ 32), BitVec.ofNat 32 (nsOf now),
   BitVec.ofNat 32 (2 ^ 9 + bnat x.clamped * 2 ^ 8)]

/-- The pointers of the ledger ring. -/
def ledgerRd (d : Dev) : Nat := getF d .customs 0 0x48 5 0
def ledgerWr (d : Dev) : Nat := getF d .customs 0 0x48 13 8

/-- Word w of ledger entry i. -/
def ledgerWord (d : Dev) (i w : Nat) : Word := get d .customs 0 (0x400 + i % 32 * 0x20 + 4 * w)

/-- Words stored in consecutive registers of CUSTOMS. -/
def storeWords (d : Dev) (off : Nat) : List Word → Dev
  | [] => d
  | w :: t => storeWords (put d .customs 0 off w) (off + 4) t

/-- The unread ledger entry of class NOTE that a source has (R398). -/
def noteEntry (d : Dev) (s : Nat) : Option Nat :=
  ((List.range ((ledgerWr d + 64 - ledgerRd d) % 64)).map (fun j => (ledgerRd d + j) % 64)).find? (fun i =>
    decide (fld (ledgerWord d i 0) 7 0 = s) && decide (fld (ledgerWord d i 0) 20 18 = 0))

/-- A NOTE joins an unread entry: repeat count and timestamp (R398). -/
def coalesce (d : Dev) (i now : Nat) : Dev :=
  let o := 0x400 + i % 32 * 0x20
  let w5 := ledgerWord d i 5
  let d1 := storeWords d (o + 8) [BitVec.ofNat 32 (secOf now), BitVec.ofNat 32 (secOf now / 2 ^ 32), BitVec.ofNat 32 (nsOf now)]
  put d1 .customs 0 (o + 0x14) (setFld w5 7 0 (satInc 255 (fld w5 7 0)))

/-- A record is written: to the first-error record, to the ledger ring, or nowhere when 32 entries are unread (R398). -/
def writeRecord (d : Dev) (ws : List Word) : Dev :=
  if getB d .customs 0 0x34 9 = false then stat (storeWords d 0x20 ws) .customs 0 0 1
  else if 32 ≤ (ledgerWr d + 64 - ledgerRd d) % 64 then stat (addSat d .customs 0 0x48 31 16 1) .customs 0 0 2
  else putF (storeWords d (0x400 + ledgerWr d % 32 * 0x20) ws) .customs 0 0x48 13 8 (ledgerWr d + 1)

/-- The report packet of a registration (R403). -/
def faultPacket (e : Env) (d : Dev) (ws : List Word) : Packet :=
  let w := fun i => (ws.getD i 0).toNat
  let detail := getB d .customs 0 0x18 4
  { head := leBytes 1 0x46 ++ ownSource d ++ leBytes 4 (w 0) ++ leBytes 1 (w 5) ++ leBytes 1 (w 5 / 2 ^ 8 % 2)
      ++ leBytes 2 (if detail then 2 else 0) ++ leBytes 4 (w 1) ++ leBytes 4 (w 2) ++ leBytes 2 (w 3) ++ leBytes 4 (w 4) ++ leBytes 2 0
    bytes := if detail then
        (List.range 6).flatMap (fun i => leBytes 4 (unackWord d i).toNat) ++ leBytes 4 (summaryWord e d).toNat
          ++ leBytes 4 (get d .customs 0 0x48).toNat
          ++ (List.range 3).flatMap (fun i => leBytes 4 (get d .customs 0 (0xA0 + 4 * i)).toNat) ++ leBytes 4 (modeWord e.sys).toNat
          ++ List.replicate 16 0
      else [] }

/-! ### Actions -/

/-- A fence bit (FLT_FENCED0–2). -/
def setFenced (d : Dev) (c : Nat) (b : Bool) : Dev := putF d .customs 0 (0xA0 + c / 32 * 4) (c % 32) (c % 32) (bnat b)

/-- A unit is fenced by a source (R401, R368); one that is fenced already is not fenced again (R393). -/
def fenceUnit (d : Dev) (s c : Nat) : Dev :=
  match codeUnit c with
  | none => d
  | some (u, n) =>
    if codeFenced d c then d
    else
      let d1 := setFenced (onFlt d (fun f => { f with fences := sIns c { source := s } f.fences })) c true
      act (dropStaged (stopUnit d1 u n) (unitBase u n) 0x2000) .degrade

/-- A CSI receiver reset begins: open frames close, the port waits for its receiver (R40). -/
def portReset (d : Dev) (p : Nat) : Dev := onPort (closePort d p) p (fun x => { x with resetting := true })

/-- The action of a registration (R386, R390). A real fault of a port has its retry from the port itself, a forced one takes it here; the
boot ROM's retry is of a read that failed, so a forced FS142 repeats none (DESIGN CHOICE, log entry 117). -/
def faultAction (d : Dev) (s : Nat) (x : Decision) : Dev :=
  if x.acted = 4 then act d .halt
  else
    let d1 := raise d 43
    if x.acted = 3 then act d1 (.reset 1)
    else if x.acted = 2 then
      match sourceUnit s with
      | some c => fenceUnit d1 s c
      | none => d1
    else if x.acted = 1 ∧ x.origin = 2 then
      if 8 ≤ s ∧ s ≤ 15 then portReset d1 (s - 8) else if 144 ≤ s ∧ s ≤ 151 then twsSelfReset d1 (s - 144) else d1
    else d1

/-- The programmed class of a report: FLT_SEV, or what it was when FALLOW latched the report (R385; DEDUCED, log entry 115). -/
def classOf (d : Dev) (r : Report) : Nat := r.cls.getD (programmed d r.source)

/-- One report is registered: its class, its record, its report packet and its action (R391–R403). `late` registers a report latched in
FALLOW whose reset has been taken (R385). -/
def registerOne (e : Env) (d : Dev) (r : Report) (origin : Nat) (late : Bool) : Dev :=
  let x := decideClass d r.source (classOf d r) origin
  let now := r.stamp.getD e.now
  let d0 := if 2 ≤ origin then onFlt d (fun f => { f with forced := true }) else d
  match if x.acted = 0 then noteEntry d0 r.source else none with
  | some i => raise (hold (coalesce d0 i now) r.source (fld (ledgerWord d0 i 0) 31 24) 0) 43
  | none =>
    let num := d0.flt.next
    let ws := recordWords r x num now
    let d1 := hold (writeRecord (onFlt d0 (fun f => { f with next := (num + 1) % 256 })) ws) r.source num x.acted
    let d2 := if getB d1 .customs 0 0x18 3 && decide (getF d1 .customs 0 0x18 2 0 ≤ x.acted) && decide (x.acted ≠ 4) then
        queueReport d1 (faultPacket e d1 ws) else d1
    if late && decide (x.acted = 3) then raise d2 43 else faultAction d2 r.source x

/-- Insertion by source, keeping the order of arrival. -/
def insSource (r : Report) : List Report → List Report
  | [] => [r]
  | q :: t => if r.source < q.source then r :: q :: t else q :: insSource r t

/-- Coincident reports in rising source number (R391). -/
def bySource (l : List Report) : List Report := l.foldl (fun a r => insSource r a) []

/-- Coincident reports with their origins: a forced report that meets a real one of its source joins it (R394). -/
def withOrigin (l : List Report) : List (Report × Nat) :=
  l.filterMap (fun r =>
    let real := l.any (fun q => decide (q.source = r.source) && !q.forced)
    let forced := l.any (fun q => decide (q.source = r.source) && q.forced)
    let first := decide ((l.find? (fun q => decide (q.source = r.source) && !q.forced)) = some r)
    if r.forced then (if real then none else some (r, 2)) else some (r, if forced && first then 3 else 1))

/-- A report that arrives in FALLOW is latched, at most one per source, with its timestamp and class (R385); a TERMINAL takes the device to HALT,
which records it; a RESET ends FALLOW by a device reset. -/
def latchReport (e : Env) (d : Dev) (r : Report) : Dev :=
  if d.flt.latched.any (fun q => decide (q.source = r.source)) then d
  else
    let r' := { r with stamp := some e.now, cls := some (programmed d r.source) }
    if programmed d r.source = 4 then registerOne e d r' (if r.forced then 2 else 1) false
    else
      let d1 := onFlt d (fun f => { f with latched := f.latched ++ [r'] })
      if programmed d r.source = 3 then act d1 (.reset 1) else d1

/-- The collector registers the first k reports on one AON cycle (R384, R391). -/
def faultRegister (e : Env) (d : Dev) (k : Nat) : Dev :=
  let l := d.reports.take k
  let d1 := { d with reports := d.reports.drop k }
  if e.mode = .fallow then (bySource l).foldl (latchReport e) d1
  else (withOrigin (bySource l)).foldl (fun d q => registerOne e d q.1 q.2 false) d1

/-- What FALLOW latched is registered: RESET reports first, then the others, in rising source number (R385). -/
def unlatch (e : Env) (d : Dev) : Dev :=
  let l := bySource d.flt.latched
  let d1 := onFlt d (fun f => { f with latched := [] })
  (l.filter (fun r => decide (classOf d r = 3)) ++ l.filter (fun r => decide (classOf d r ≠ 3))).foldl
    (fun d r => registerOne e d r (if r.forced then 2 else 1) (decide (classOf d r = 3))) d1

/-! ### Unit reset and return (R402) -/

/-- The fence of a unit code. -/
def fenceOf (d : Dev) (c : Nat) : Option Fence := (d.flt.fences.find? (fun q => decide (q.1 = c))).map Prod.snd

/-- FLT_STATUS.unit_refused. -/
def unitRefused (d : Dev) : Dev := stat d .customs 0 0 8

/-- FLT_UNIT reset of a unit code. -/
def fenceReset (e : Env) (d : Dev) (c : Nat) : Dev :=
  match codeUnit c, fenceOf d c with
  | some (u, n), some f => onFlt (resetUnit e d u n) (fun x => { x with fences := sIns c { f with wasReset := true } x.fences })
  | _, _ => unitRefused d

/-- A drover starts from DRV_START, or continues where it stopped; without its domain it stays in RESET (spec/07_jorran_isa.md R252). -/
def droverRun (d : Dev) (n : Nat) : Dev :=
  let v := vget d.drvs n
  if n ≠ 0 ∧ domainOn d (39 + n) = false then d
  else if v.state = .reset then onDrv d n (fun v => { v with state := .running, pc := getF d .drv n 4 16 2 * 4 })
  else if v.state = .halted then onDrv d n (fun v => { v with state := .running })
  else d

/-- FLT_UNIT return of a unit code. -/
def unitReturn (d : Dev) (c : Nat) : Dev :=
  match codeUnit c, fenceOf d c with
  | some (u, n), some f =>
    if f.wasReset && decide (heldBy d f.source = none) then
      let d1 := setFenced (onFlt d (fun x => { x with fences := sDel c x.fences })) c false
      let d2 := if u = .drv ∧ f.run then droverRun d1 n else d1
      if d2.flt.fences = [] then act d2 .restore else d2
    else unitRefused d
  | _, _ => unitRefused d

/-- A write of FLT_UNIT: action 1 reset, 2 return, others nothing (R402). -/
def unitAction (e : Env) (d : Dev) (w : Word) : Dev :=
  if fld w 9 8 = 1 then fenceReset e d (fld w 7 0) else if fld w 9 8 = 2 then unitReturn d (fld w 7 0) else d

/-! ### Force, heartbeat, ledger -/

/-- A write of FLT_FORCEi reports forced faults (R394). -/
def forceFaults (d : Dev) (master i : Nat) (w : Word) : Dev :=
  (List.range 32).foldl (fun d b =>
    if flag w b then
      { d with reports := d.reports ++ [{
          source := 32 * i + b, master := master, access := 2, addr := unitBase .customs 0 + 0x80 + 4 * i, forced := true }] }
    else d) d

/-- A write of FLT_LEDGER_PTR.rd: refused where it would leave more than 32 entries or a negative count (R399). -/
def ledgerAdvance (d : Dev) (rd : Nat) : Dev :=
  if (ledgerWr d + 64 - rd % 64) % 64 ≤ 32 then putF d .customs 0 0x48 5 0 rd else d

/-- The heartbeat restarts (R406). -/
def beat (e : Env) (d : Dev) : Dev := onFlt d (fun f => { f with beatAt := e.cycles })

/-- The heartbeat limit passes without a write (R406). -/
def beatMissed (e : Env) (d : Dev) : Dev :=
  let lim := getF d .customs 0 0x38 15 0
  if decide (lim ≠ 0) && decide (d.flt.beatAt + lim * 500000 ≤ e.cycles) then beat e (report d 169) else d

end Sys2Proof.Machine
end

