-- ==== Sys2Proof/Machine/Power.lean ====
section
/-! DEFINITION. Line supervision, the power governor, feeder lines, the profile and the thermal monitor
(spec/16_power_and_modes.md R461–R484; spec/01_architecture.md R33, R35). -/

namespace Sys2Proof.Machine

/-! ### Status -/

/-- An occurrence that sets PWR_STATUS bits raises event 45 too (R466). -/
def pwrStat (d : Dev) (mask : Nat) : Dev := raise (stat d .power 0 0 mask) 45

/-- A refusal by the governor: PWR_STATUS.refused and FS002 (R471, R472, R506). -/
def pwrRefused (d : Dev) : Dev := report (pwrStat d 1) 2

/-- The same, where a write caused it (spec/13_fault_collector.md R384). -/
def pwrRefusedBy (d : Dev) (x : Access) : Dev := reportAcc (pwrStat d 1) 2 x.master x.kind x.addr

/-! ### Charges and budgets, in 10 mW (R462, R470, R471) -/

/-- The governor budget of a class. -/
def classBudget (c : Nat) : Nat := if c = 1 then 1250 else if c = 2 then 1850 else if c = 3 then 2550 else 3850

/-- The class in force. -/
def classNow (d : Dev) : Nat := getF d .power 0 0xC 6 4

/-- The budget that an apply is judged against: that of a granted class that waits, else that of the class in force (R465). -/
def judgeBudget (d : Dev) : Nat := classBudget (d.power.granted.getD (classNow d))

/-- The charge of a pipe's front end under a profile code. -/
def frontCharge (req : Nat) : Nat := if req = 0 then 120 else if req = 1 then 125 else if req = 2 then 135 else 85

/-- The charge of a pipe's back end under a profile code. -/
def backCharge (req : Nat) : Nat := if req = 0 then 100 else if req = 1 then 115 else if req = 2 then 120 else 75

/-- The configuration that the governor charges a feeder's lanes at: the latched one while it is enabled, else the live one (R506). -/
def feederCharged (d : Dev) (f : Nat) : Nat :=
  if getB d .feeder f 0 0 then (vget d.groups (f + 1)).config else getF d .feeder f 0 2 1

/-- The charge of a trunk lane by configuration code. -/
def trunkCharge (c : Nat) : Nat := if c = 0 then 15 else if c = 1 then 20 else if c = 2 then 45 else 35

/-- The charge of a feeder lane by configuration code. -/
def feedCharge (c : Nat) : Nat := if c = 0 then 13 else if c = 1 then 18 else if c = 2 then 40 else 32

/-- The charge of domain k under the feeder configurations and a profile request. -/
def chargeOf (d : Dev) (cfg : Nat → Nat) (req k : Nat) : Nat :=
  if k ≤ 8 then 25
  else if k ≤ 12 then trunkCharge (vget d.groups 0).config
  else if k = 13 then 12
  else if k ≤ 17 then feedCharge (cfg 0)
  else if k ≤ 21 then feedCharge (cfg 1)
  else if k ≤ 23 then 12
  else if k ≤ 31 then (if k % 2 = 0 then frontCharge req else backCharge req)
  else if k ≤ 39 then 30
  else if k ≤ 42 then 15
  else if k ≤ 44 then 60
  else if k = 45 then 35
  else if k = 46 then 15
  else if k = 47 then 5
  else if k = 48 then 8
  else if k = 49 then 30
  else 6

/-- The charge of a set of domains, the fixed charge included. -/
def chargeSet (d : Dev) (cfg : Nat → Nat) (req : Nat) (on : Nat → Bool) : Nat :=
  280 + sumTo 50 (fun i => if on (i + 1) then chargeOf d cfg req (i + 1) else 0)

/-- A domain is switched on, usable or not yet. -/
def switched (d : Dev) (k : Nat) : Bool := domainOn d k || d.power.coming.contains k

/-- The profile in force in GLOBAL_PROFILE.req. -/
def profileReq (d : Dev) : Nat := getF d .glob 0 0x18 1 0

/-- The charge of the domains that are switched on (PWR_BUDGET). -/
def chargeNow (d : Dev) : Nat := chargeSet d (feederCharged d) (profileReq d) (switched d)

/-! ### Switching domains (R472–R474) -/

/-- The device holds an ID of 7–14, so PD14–PD23 stay off (spec/01_architecture.md R24). -/
def leafDevice (d : Dev) : Bool :=
  match deviceId d with
  | some n => decide (7 ≤ n)
  | none => false

/-- The wanted state of domain k: PWR_PDEN, or the device's own state for PD09–PD13 (R472). -/
def wanted (d : Dev) (k : Nat) : Bool :=
  if 9 ≤ k ∧ k ≤ 13 then switched d k
  else if 14 ≤ k ∧ k ≤ 23 ∧ leafDevice d then false
  else if k ≤ 32 then getB d .power 0 0x14 (k - 1) else getB d .power 0 0x18 (k - 33)

/-- All of a range of domains are on, or none is. -/
def allOrNone (on : Nat → Bool) (lo n : Nat) : Bool :=
  (List.range n).all (fun i => on (lo + i)) || (List.range n).all (fun i => !(on (lo + i)))

/-- The dependencies of R472 hold for a set of domains. -/
def dependOk (on : Nat → Bool) : Bool :=
  allOrNone on 32 8 && (List.range 4).all (fun p => allOrNone on (24 + 2 * p) 2) &&
  (on 32 || (List.range 8).all (fun i => !(on (24 + i))) && !(on 43) && !(on 44) && !(on 45) && !(on 46)) &&
  (on 50 || (List.range 8).all (fun i => !(on (24 + i))))

/-- Domains are switched on: each is usable when its turn has passed (R472). -/
def switchOn (d : Dev) (l : List Nat) : Dev :=
  onPower d (fun p => { p with coming := p.coming ++ l.filter (fun k => !(switched d k)) })

/-- A feeder whose line-up is complete trains once the lane PLLs are locked (spec/10_lanes.md R312, R321). -/
def feederTrain (d : Dev) (f : Nat) : Dev :=
  if d.power.pllUp ∧ (vget d.groups (f + 1)).state = .waitLine then beginAttempt d (f + 1) 1 else d

/-- A feeder's group leaves OFF when the feeder is enabled and its domains are on (spec/10_lanes.md R312); with its line off it waits
for DETECT, else its line-up counts as complete (R468). -/
def enterWaitLine (d : Dev) (f : Nat) : Dev :=
  let d1 := waitLine d (f + 1)
  if getB d1 .power 0 (0x40 + 8 * f) 31 then onFeed d1 f (fun _ => { state := .detect })
  else feederTrain (onFeed d1 f (fun _ => {})) f

/-- The feeder group starts where R312 lets it. -/
def feederStart (d : Dev) (f : Nat) : Dev :=
  let x := vget d.groups (f + 1)
  if x.state = .off ∧ getB d .feeder f 0 0 ∧ groupPowered d (f + 1) ∧ ¬ leafDevice d then enterWaitLine d f else d

/-- Domains are switched off at once (R472, R474). -/
def switchOff (e : Env) (d : Dev) (l : List Nat) : Dev := feedersOff (l.foldl (domainOff e) d)

/-- A domain is usable; PD14–PD23 stay off with an ID of 7–14 (spec/01_architecture.md R24). Every line of the pan is written with zeros
and a valid code as the banks come on (R472), but after FALLOW, which keeps the pan's content (R478). -/
def domainUsable (d : Dev) (k : Nat) : Dev :=
  let kept := d.power.retained.contains k
  let d0 := onPower d (fun p => { p with coming := p.coming.filter (· ≠ k), retained := p.retained.filter (· ≠ k) })
  let d1 := if 14 ≤ k ∧ k ≤ 23 ∧ leafDevice d then d0 else setDomain d0 k true
  let d2 := if k = 39 ∧ ¬ kept then eraseMem d1 panBase panSize else if k = 49 ∧ ¬ domainOn d 49 then verdictsTurn d1 else d1
  feederStart (feederStart d2 0) 1

/-- A domain of a pan bank. -/
def bankDomain (k : Nat) : Bool := decide (32 ≤ k) && decide (k ≤ 39)

/-- A class comes into force. -/
def classForce (d : Dev) (c : Nat) : Dev := onPower (putF d .power 0 0xC 6 4 c) (fun p => { p with granted := none })

/-- A class that waits comes into force once the charge fits (R465). -/
def settleGrant (d : Dev) : Dev :=
  match d.power.granted with
  | some c => if chargeNow d ≤ classBudget c then classForce d c else d
  | none => d

/-- The domain whose turn is next becomes usable; PD32–PD39 do so together, 100 µs after PD39's turn and so after every other domain of their
apply, of which PD50 is usable 95 µs after it at most (R472; of applies that overlap DESIGN CHOICE, log 142). A domain that an ID of 7–14 keeps
off may let a class that waits come into force (R465). -/
def domainUp (d : Dev) : Dev :=
  settleGrant (match d.power.coming.find? (fun k => !(bankDomain k)) with
    | some k => domainUsable d k
    | none => (d.power.coming.filter bankDomain).foldl domainUsable d)

/-- FLT_UNIT has been written: a feeder that a reset turns off may let a class that waits come into force (R465;
spec/13_fault_collector.md R402). -/
def unitWritten (e : Env) (d : Dev) (w : Word) : Dev :=
  let lit := fun (k : Nat) => match codeUnit k, fenceOf d k with
    | some (.feeder, _), some _ => true
    | _, _ => false
  if decide (fld w 9 8 = 1) && lit (fld w 7 0) then settleGrant (unitAction e d w) else unitAction e d w

/-- PWR_CTRL.apply (R465, R472). -/
def powerApply (e : Env) (d : Dev) (x : Access) : Dev :=
  if dependOk (wanted d) && decide (chargeSet d (feederCharged d) (profileReq d) (wanted d) ≤ judgeBudget d) then
    let off := ((List.range 50).map (· + 1)).filter (fun k => switched d k && !(wanted d k))
    let on := ((List.range 50).map (· + 1)).filter (fun k => !(switched d k) && wanted d k)
    settleGrant (switchOn (switchOff e d off) on)
  else pwrRefusedBy d x

/-! ### Grants (R464, R465) -/

/-- A GRANT arrives (R464, R465). -/
def grantClass (d : Dev) (c : Nat) : Dev :=
  let d1 := pwrStat (putF d .power 0 0xC 10 8 c) 4
  let k := min c (getF d1 .power 0 0xC 2 0)
  if chargeNow d1 ≤ classBudget k then classForce d1 k
  else report (pwrStat (onPower d1 (fun p => { p with granted := some k })) 2) 2

/-- The steps in which the governor switches domains off (R465). -/
def enforceSteps : List (List Nat) :=
  [[46], [45], [44], [43], [18], [19], [20], [21], [23], [14], [15], [16], [17], [22], [30, 31], [28, 29], [26, 27], [24, 25]]

/-- One step of the governor's order, taken while the charge does not fit. -/
def enforceStep (e : Env) (d : Dev) (l : List Nat) : Dev :=
  match d.power.granted with
  | some _ => settleGrant (switchOff e d (l.filter (switched d)))
  | none => d

/-- 1 s after a lowering GRANT (R465). -/
def grantEnforce (e : Env) (d : Dev) : Dev := enforceSteps.foldl (enforceStep e) (settleGrant d)

/-! ### Feeder configuration (R506) -/

/-- A write of FEED_CFG.config would raise the charge above the budget. -/
def configTooMuch (d : Dev) (f cfg : Nat) : Bool :=
  let c := chargeSet d (fun i => if i = f then cfg else feederCharged d i) (profileReq d) (switched d)
  !(getB d .feeder f 0 0) && decide (chargeNow d < c) && decide (judgeBudget d < c)

/-- FEED_CFG has been written from `old` (spec/09_caravan_link.md FEED_CFG; spec/10_lanes.md R312). -/
def feedCfgWritten (d : Dev) (f : Nat) (old : Word) : Dev :=
  let on := getB d .feeder f 0 0
  settleGrant (if on && !(flag old 0) then feederStart (groupConfig d (f + 1) (getF d .feeder f 0 2 1)) f
    else if !on && flag old 0 then feedersOff (groupOff d (f + 1))
    else d)

/-! ### Feeder lines (R468, R469) -/

/-- A feeder's line. -/
def feedOf (d : Dev) (f : Nat) : Feed := vget d.power.feeds f

/-- The bit of PWR_STATUS for a feeder line event. -/
def feedBit (f : Nat) : Nat := if f = 0 then 0x40 else 0x80

/-- The class of a signature current, in 0.1 mA (R462). -/
def signatureClass (ma : Nat) : Nat :=
  if 25 ≤ ma ∧ ma ≤ 55 then 1 else if 65 ≤ ma ∧ ma ≤ 95 then 2 else if 105 ≤ ma ∧ ma ≤ 135 then 3
  else if 160 ≤ ma ∧ ma ≤ 200 then 4 else 0

/-- Detection ends: a valid class goes to RAMP, any other reading waits (R468). -/
def feedDetect (d : Dev) (f ma : Nat) : Dev :=
  let x := feedOf d f
  if x.state = .detect ∧ ¬ x.wait then
    let c := signatureClass ma
    if 1 ≤ c ∧ c ≤ getF d .power 0 (0x40 + 8 * f) 26 24 then onFeed d f (fun _ => { state := .ramp, cls := c })
    else pwrStat (onFeed d f (fun x => { x with wait := true, cls := 0 })) (feedBit f)
  else d

/-- 1 s after an invalid reading, detection starts again (R468). -/
def feedRetry (d : Dev) (f : Nat) : Dev :=
  let x := feedOf d f
  if x.state = .detect ∧ x.wait then onFeed d f (fun _ => { state := .detect }) else d

/-- The ramp ends (R468). -/
def feedRamped (d : Dev) (f : Nat) : Dev :=
  if (feedOf d f).state = .ramp then onFeed d f (fun x => { x with state := .hold }) else d

/-- The hold ends: line-up completes and the group trains (R468, spec/10_lanes.md R312). -/
def feedHeld (d : Dev) (f : Nat) : Dev :=
  if (feedOf d f).state = .hold then
    feederTrain (onFeed d f (fun x => { x with state := .on })) f
  else d

/-- The line breaks its limit: it is removed, and the group returns to WAIT_LINE without a fault (R469). -/
def feedBroken (d : Dev) (f : Nat) : Dev :=
  let x := feedOf d f
  if x.state = .ramp ∨ x.state = .hold ∨ x.state = .on then
    pwrStat (onFeed (waitLine d (f + 1)) f (fun _ => { state := .backoff })) (feedBit f)
  else d

/-- BACKOFF ends: DETECT (R468). -/
def feedAgain (d : Dev) (f : Nat) : Dev :=
  if (feedOf d f).state = .backoff then onFeed d f (fun _ => { state := .detect }) else d

/-- PWR_FEEDf has been written from `old`: sourcing starts in WAIT_LINE, which the write does not bring about,
or ends with the line (R468; spec/10_lanes.md R312). -/
def feedWritten (d : Dev) (f : Nat) (old : Word) : Dev :=
  let on := getB d .power 0 (0x40 + 8 * f) 31
  let x := feedOf d f
  let off := decide ((vget d.groups (f + 1)).state = .off)
  if on && !(flag old 31) then
    (if (vget d.groups (f + 1)).state = .waitLine then onFeed d f (fun _ => { state := .detect }) else d)
  else if !on && flag old 31 then
    if off || decide (x.state = .off) then onFeed d f (fun _ => {}) else enterWaitLine d f
  else d

/-- The code of a feeder line's state. -/
def feedCode : FeedState → Nat
  | .off => 0
  | .detect => 1
  | .ramp => 2
  | .hold => 3
  | .on => 4
  | .backoff => 5

/-! ### The profile (spec/01_architecture.md R33; R471) -/

/-- GLOBAL_PROFILE.eff and therm_forced follow the request and the thermal monitor (R33). -/
def profileFollow (d : Dev) : Dev :=
  let d1 := putF d .glob 0 0x18 12 12 (bnat d.power.cool)
  putF d1 .glob 0 0x18 9 8 (if d.power.cool then 3 else profileReq d1)

/-- The staged GLOBAL_PROFILE.req comes due: applied, or refused by the governor (R33, R471). -/
def applyProfile (d : Dev) : Dev :=
  let a := unitBase .glob 0 + 0x18
  let r := fld (stagedAt d a) 1 0
  if chargeNow d < chargeSet d (feederCharged d) r (switched d) ∧ judgeBudget d < chargeSet d (feederCharged d) r (switched d) then
    pwrRefused (dropStaged d a 4)
  else settleGrant (profileFollow (dropStaged (putF d .glob 0 0x18 1 0 r) a 4))

/-! ### Line supervision (R466) -/

/-- The line enters 16–18 V or 57–60 V. -/
def lineRange (d : Dev) : Dev := pwrStat d 8

/-- The line has been below 16 V for 10 µs. -/
def lineWarn (d : Dev) : Dev := pwrStat d 0x10

/-- The line has been below 16 V for 1 ms, or above 60 V for 10 µs. -/
def lineFault (d : Dev) : Dev := report d 1

/-! ### The thermal monitor (R481–R483) -/

/-- Temperatures in 1/16 °C as a register shows them. -/
def tempWord (valid : Bool) (t : Int) : Word := BitVec.ofNat 32 (bnat valid * 2 ^ 31 + (t % 65536).toNat)

/-- A beginning or an end of an action: its status bit and event 46 (R482). -/
def thermStat (d : Dev) (mask : Nat) : Dev := raise (stat d .thermal 0 4 mask) 46

/-- The highest of sensors 0–12. -/
def tjOf (l : List Int) : Int := (l.take 13).foldl max (l.headD 0)

/-- The warning of a sample (R482). -/
def thermWarn (d : Dev) (tj : Int) : Dev :=
  let level := sInt 16 (get d .thermal 0 8).toNat
  if d.power.warned then
    if tj ≤ level - 16 then thermStat (onPower d (fun p => { p with warned := false })) 0x10 else d
  else if getB d .thermal 0 8 31 && decide (level ≤ tj) then thermStat (onPower d (fun p => { p with warned := true })) 0x10
  else d

/-- Forced COOL after a sample: it begins at 135 °C, and ends after 1 s of samples below 125 °C (R482; spec/01_architecture.md R35). -/
def thermCool (d : Dev) (tj : Int) : Dev :=
  if d.power.cool then
    if tj < 2000 then
      if 9999 ≤ d.power.coolRun then
        thermStat (profileFollow (onPower d (fun p => { p with cool := false, coolRun := 0 }))) 2
      else onPower d (fun p => { p with coolRun := p.coolRun + 1 })
    else onPower d (fun p => { p with coolRun := 0 })
  else if 2160 ≤ tj then
    report (thermStat (profileFollow (onPower d (fun p => { p with cool := true, coolRun := 0 }))) 1) 3
  else d

/-- The shedding request after a sample: it begins with its first step at 145 °C, and ends after 1 s of samples below 140 °C (R482;
spec/06_views_taps_convoys.md R192). -/
def thermShed (d : Dev) (tj : Int) : Dev :=
  if d.power.shedding then
    if tj < 2240 then
      if 9999 ≤ d.power.shedRun then
        thermStat (unshed (onPower d (fun p => { p with shedding := false, shedRun := 0 }))) 8
      else onPower d (fun p => { p with shedRun := p.shedRun + 1 })
    else onPower d (fun p => { p with shedRun := 0 })
  else if 2320 ≤ tj then
    stat (shedStep (onPower d (fun p => { p with shedding := true, shedRun := 0 }))) .thermal 0 4 4
  else d

/-- The sensors' registers of a sample (R481). -/
def thermShow (d : Dev) (temps : List Int) : Dev :=
  let tj := tjOf temps
  let d1 := put d .thermal 0 0 (tempWord true tj)
  let d2 := forN 14 (fun d k => put d .thermal 0 (0x40 + 4 * k) (tempWord true (temps.getD k 0))) d1
  if !d2.power.peaked || decide (sInt 16 (get d2 .thermal 0 0xC).toNat < tj) then
    onPower (put d2 .thermal 0 0xC (tempWord false tj)) (fun p => { p with peaked := true })
  else d2

/-- THERM_PEAK.clear (R481): the peak restarts from the current Tj, or from the next valid one. -/
def peakClear (d : Dev) : Dev :=
  let t := get d .thermal 0 0
  onPower (put d .thermal 0 0xC (setFld 0 15 0 (fld t 15 0))) (fun p => { p with peaked := flag t 31 })

/-- A sample of the fourteen sensors: valid while PD50 is on (R481, R482). -/
def thermSample (d : Dev) (temps : List Int) : Dev :=
  if domainOn d 50 then
    let tj := tjOf temps
    thermShed (thermCool (thermWarn (thermShow d temps) tj) tj) tj
  else d

end Sys2Proof.Machine
end

