-- ==== Sys2Proof/Machine/Toll.lean ====
section
/-! DEFINITION. The toll wheel, the pan's line errors and its scrubber (spec/05_pipe_sharing.md R170–R173, R504;
spec/13_fault_collector.md R404, R405). -/

namespace Sys2Proof.Machine

/-- The domain of the bank is on. -/
def bankOn (d : Dev) (b : Nat) : Bool := domainOn d (32 + b)

/-- Owner codes that R171 reserves. -/
def ownerReserved (o : Nat) : Bool := decide (o = 6) || decide (o = 7) || decide (0x1F ≤ o)

/-- A staged assignment that R172 accepts. -/
def tollOk (d : Dev) : Bool :=
  let l := (List.range 32).map (fun s => fld (stagedAt d (unitBase .toll 0 + 0x100 + 4 * s)) 5 0)
  l.all (fun o => !(ownerReserved o)) && l.contains 1 && l.contains 4 && l.contains 5

/-- The staged assignment applies together, or is refused; a hold keeps it waiting (R172, spec/12_register_access.md R366). -/
def applyToll (d : Dev) : Dev :=
  let a := unitBase .toll 0 + 0x100
  if getB d .toll 0 0 0 ∨ stagedIn d a 0x80 = [] then d
  else if tollOk d then applyStaged d a 0x80
  else report (stat (dropStaged d a 0x80) .toll 0 4 1) 68

/-- The owner of the position that bank b serves at pan clock t (R170). -/
def tollOwner (d : Dev) (b t : Nat) : Nat := getF d .toll 0 (0x100 + 4 * ((t + 128 - 4 * b) % 32)) 5 0

/-- A visit that served owner o, or none (TOLL_CNT). -/
def countVisit (d : Dev) (o : Nat) : Dev := put d .toll 0 (0x200 + 4 * o) (get d .toll 0 (0x200 + 4 * o) + 1)

/-- The drovers of a toll owner. -/
def ownerDrovers (o : Nat) : Nat × Nat := if o = 4 then (0, 1) else (2, 3)

/-- The oldest request of drover n for bank b; a fenced drover has no visits (R171). -/
def reqOf (d : Dev) (b n : Nat) : Option Nat :=
  if fenced d .drv n then none else findIdx? (fun (r : PanReq) => decide (r.drover = n) && decide (panBank (r.addr - panBase) = b)) d.panReqs

/-- The request that a visit of a drover owner serves: its two drovers take the visits to a bank in turn (R173). -/
def visitReq (d : Dev) (o b : Nat) : Option Nat :=
  let p := ownerDrovers o
  let q := if d.panTurn.contains (o * 8 + b) then (p.2, p.1) else p
  match reqOf d b q.1 with
  | some i => some i
  | none => reqOf d b q.2

/-- The turn of an owner at a bank passes to the other drover. -/
def passTurn (d : Dev) (o b n : Nat) : Dev :=
  let k := o * 8 + b
  let l := d.panTurn.filter (· ≠ k)
  { d with panTurn := if n = (ownerDrovers o).1 then l ++ [k] else l }

/-- A request is no longer queued. -/
def dropReq (d : Dev) (i : Nat) : Dev := { d with panReqs := d.panReqs.eraseIdx i }

/-- An uncorrectable line is counted in its bank and reported with its requester (R405). -/
def panUncorrectable (d : Dev) (line master : Nat) (t : AccType) : Dev :=
  reportAcc (addSat d .customs 0 (0xC0 + 4 * panBank (line - panBase)) 31 16 1) (132 + panBank (line - panBase)) master t line

/-- A line that was corrected is counted, and waits for the scrubber (R404). -/
def panCorrected (d : Dev) (line : Nat) : Dev :=
  let d1 := addSat d .customs 0 (0xC0 + 4 * panBank (line - panBase)) 15 0 1
  if d1.softLines.contains line then d1 else { d1 with softLines := d1.softLines ++ [line] }

/-- A visit serves request i: a read answers, a write of fewer than 64 bytes reads its line first and writes at its second visit; where that
read failed, its requester has the error and the second visit writes nothing (R171, R405). -/
def serveReq (d : Dev) (i : Nat) (r : PanReq) (corrected : Bool) : Dev :=
  let reads := !r.write || !r.half
  if r.void then dropReq d i
  else if reads && badAt d r.addr then
    let d1 := if r.write then { d with panReqs := lmod d.panReqs i (fun q => { q with half := true, void := true }) } else dropReq d i
    panReply (panUncorrectable d1 (lineOf r.addr) (2 + r.drover) (if r.write then .write else .read)) r none
  else
    let d1 := if reads && corrected then panCorrected d (lineOf r.addr) else d
    if !r.write then panReply (dropReq d1 i) r (some (BitVec.ofNat 32 (memVal d1 r.width r.addr)))
    else if !r.half then { d1 with panReqs := lmod d1.panReqs i (fun q => { q with half := true }) }
    else panReply (memWrite (dropReq d1 i) r.addr (leBytes r.width r.data.toNat)) r (some 0)

/-- The unit whose positions idle when it is fenced (R171). -/
def ownerUnitFenced (d : Dev) (o : Nat) : Bool :=
  if 8 ≤ o ∧ o ≤ 15 then fenced d .csi (o - 8)
  else if 0x10 ≤ o ∧ o ≤ 0x17 then fenced d .pipe ((o - 0x10) % 4)
  else if o = 2 then fenced d .harv 0
  else if o = 3 then fenced d .tap 0
  else if o = 0x1D ∨ o = 0x1E then fenced d .feeder (o - 0x1D)
  else false

/-- The corrected line that the scrubber has due in bank b (R404). -/
def scrubDue (d : Dev) (b : Nat) : Option Nat := d.softLines.find? (fun a => decide (panBank (a - panBase) = b))

/-- A line that the scrubber has due is rewritten (R404, R405). -/
def scrubLine (d : Dev) (a : Nat) : Dev :=
  let d1 := { d with softLines := d.softLines.filter (· ≠ a) }
  if badAt d a then panUncorrectable d1 a 8 .engine else d1

/-- The scrubber's visit to a bank rewrites the first corrected line it has due there. -/
def scrubVisit (d : Dev) (b : Nat) : Dev :=
  match scrubDue d b with
  | none => d
  | some a => scrubLine d a

/-- The scrubber's visits to a bank that come before another request there: every corrected line it has due is rewritten
(spec/12_register_access.md R354). -/
def scrubBank (d : Dev) (b : Nat) : Dev := (d.softLines.filter (fun a => decide (panBank (a - panBase) = b))).foldl scrubLine d

/-- A visit of owner o to bank b for line `busy` of the pan, or for none: a line that was corrected is counted (R171, R404). -/
def ownerVisit (d : Dev) (o b : Nat) (busy : Option Nat) (corrected : Bool) : Dev :=
  match busy with
  | none => countVisit d 0
  | some k =>
    if panBank (64 * k) = b then
      countVisit (if corrected && !(badAt d (panBase + 64 * k)) then panCorrected d (panBase + 64 * k) else d) o
    else countVisit d 0

/-- A visit of owner 0x01, which masters 0 and 1 share with the scrubber: the scrubber takes it when it has a line due
(spec/12_register_access.md R354). -/
def scrubberVisit (d : Dev) (b : Nat) (busy : Option Nat) (corrected : Bool) : Dev :=
  if (scrubDue d b).isSome then countVisit (scrubVisit d b) 1 else ownerVisit d 1 b busy corrected

/-- A visit of bank b at pan clock t: it serves one line of the position's owner, or idles (R170, R171). `busy` is the line that an owner other
than the drovers, or the boot ROM beside drovers 0 and 1, wants there; it is moved in the step of its own unit, and counted here, as is its
correction. Requests of drovers go before the boot ROM's: DESIGN CHOICE, log entry 105. -/
def tollVisit (d : Dev) (b t : Nat) (busy : Option Nat) (corrected : Bool) : Dev :=
  let o := tollOwner d b t
  if bankOn d b = false then d
  else if o = 4 ∨ o = 5 then
    match visitReq d o b with
    | none => if o = 4 then ownerVisit d o b busy corrected else countVisit d 0
    | some i =>
      match d.panReqs[i]? with
      | none => countVisit d 0
      | some r => passTurn (countVisit (serveReq d i r corrected) o) o b r.drover
  else if o = 1 then scrubberVisit d b busy corrected
  else if o ≠ 0 ∧ ¬ ownerUnitFenced d o ∧ o ≤ 0x1E then ownerVisit d o b busy corrected
  else countVisit d 0

/-- The scrubber reads a line: 0 clean, 1 corrected and rewritten, 2 uncorrectable (R404, R405). -/
def panScrub (d : Dev) (k found : Nat) : Dev :=
  let a := panBase + 64 * k
  if bankOn d (panBank (64 * k)) = false then d
  else if found = 2 ∨ badAt d a then
    panUncorrectable { d with badLines := if d.badLines.contains a then d.badLines else d.badLines ++ [a] } a 8 .engine
  else
    let d1 := { d with softLines := d.softLines.filter (· ≠ a) }
    if found = 1 then addSat d1 .customs 0 (0xC0 + 4 * panBank (64 * k)) 15 0 1 else d1

end Sys2Proof.Machine
end

