-- ==== Sys2Proof/Machine/Boot.lean ====
section
/-! DEFINITION. The boot ROM's choice and verification of a bundle, root keys, anti-rollback, and the security engine
(spec/15_boot_identity_heads.md R435–R450). -/

namespace Sys2Proof.Machine

/-! ### Straps -/

/-- A list of fields (value, low bit) as a word. -/
def packFields (l : List (Nat × Nat)) : Word := BitVec.ofNat 32 (l.foldl (fun a q => a + q.1 * 2 ^ q.2) 0)

/-- The word GLOBAL_STRAP. -/
def strapWord (s : Straps) : Word :=
  packFields [(s.role, 0), (s.trunk, 1), (s.boot, 3), (s.twaddr, 5), (s.lineclass, 8), (s.fallow, 10), (s.refclk, 11)]

/-! ### OTP (R444, R445, R448) -/

/-- One byte of OTP; an unprogrammed byte reads 0. -/
def otpByte (d : Dev) (a : Nat) : Byte := sGet (0 : Byte) d.otp a

/-- Bytes of OTP. -/
def otpBytes (d : Dev) (a n : Nat) : List Byte := (List.range n).map (fun i => otpByte d (a + i))

/-- A bit of OTP is blown. -/
def otpBlow (d : Dev) (a i : Nat) : Dev := { d with otp := sPut (0 : Byte) d.otp (a + i / 8) (otpByte d (a + i / 8) ||| BitVec.ofNat 8 (2 ^ (i % 8))) }

/-- The number of ones of a byte. -/
def ones (b : Byte) : Nat := sumTo 8 (fun i => bnat (b.toNat.testBit i))

/-- The number of blown bits of a range of OTP. -/
def blown (d : Dev) (a n : Nat) : Nat := (sSlice d.otp a n).foldl (fun s c => s + ones c.2) 0

/-- Root-key slot i. -/
def rootSlot (d : Dev) (i : Nat) : List Byte := otpBytes d (0x20 + 32 * i) 32

/-- Slot i is programmed. -/
def slotProgrammed (d : Dev) (i : Nat) : Bool := (rootSlot d i).any (fun b => decide (b ≠ 0))

/-- Slot i is revoked. -/
def slotRevoked (d : Dev) (i : Nat) : Bool := (otpByte d 0xA0).toNat.testBit i

/-- SEC_ROOTS. -/
def rootsWord (d : Dev) : Word :=
  BitVec.ofNat 32 (sumTo 4 (fun i => bnat (slotProgrammed d i) * 2 ^ i + bnat (slotRevoked d i) * 2 ^ (4 + i)))

/-- The anti-rollback count. -/
def rollbackCount (d : Dev) : Nat := blown d 0xA4 8

/-- The top leaves already used. -/
def leafCount (d : Dev) : Nat := blown d 0x1000 0x1000

/-- The word of OTP at OTP_ADDR; secret words and reserved words read 0. -/
def otpData (d : Dev) : Word :=
  let a := getF d .otp 0 0 13 2 * 4
  if 0x200 ≤ a ∧ a < 0x230 then 0 else BitVec.ofNat 32 (leVal (otpBytes d a 4))

/-- SEC_STATUS.refused. -/
def secRefused (d : Dev) : Dev := stat d .sec 0 4 0x20

/-- A completed pair of SEC_REVOKE (R444). -/
def secRevoke (d : Dev) (master slot : Nat) : Dev :=
  if master = 2 ∧ (List.range 4).any (fun i => decide (i ≠ slot) && slotProgrammed d i && !(slotRevoked d i)) then otpBlow d 0xA0 slot
  else secRefused d

/-- The lowest bits of the thermometer are blown until n are (R445). -/
def blowTo (d : Dev) (n : Nat) : Dev := forN n (fun d i => otpBlow d 0xA4 i) d

/-- A completed pair of SEC_ROLLBACK (R445); a count that the 64 bits cannot show is refused (DESIGN CHOICE, log 148). -/
def secRollback (m : Mode) (d : Dev) (master v : Nat) : Dev :=
  if master = 2 ∧ (m = .ready ∨ m = .run ∨ m = .degraded) ∧ rollbackCount d < v ∧ v ≤ getF d .boot 0 4 7 0 ∧ v ≤ 64 then blowTo d v
  else secRefused d

/-! ### Bundle tables (R440–R442) -/

/-- A little-endian field of bytes. -/
def fieldAt (l : List Byte) (i n : Nat) : Nat := leVal ((l.drop i).take n)

/-- A component entry. -/
def entryAt (l : List Byte) (i : Nat) : Component :=
  let b := l.drop (128 + 64 * i)
  { kind := fieldAt b 0 1, target := fieldAt b 1 1, offset := fieldAt b 4 4, length := fieldAt b 8 4, load := fieldAt b 12 4,
    entry := fieldAt b 16 4, hash := (b.drop 32).take 32 }

/-- The component count of a table. -/
def tableCount (l : List Byte) : Nat := fieldAt l 6 2

/-- The end of a table's signature. -/
def tableEnd (l : List Byte) : Nat := 128 + 64 * tableCount l + fieldAt l 92 4

/-- The bundle that a table describes. -/
def bundleOf (l : List Byte) : Bundle :=
  { length := fieldAt l 8 4, secver := fieldAt l 12 1, install := decide (fieldAt l 13 1 % 2 = 1), serial := fieldAt l 14 2,
    comps := (List.range (tableCount l)).map (entryAt l) }

/-- A table is readable: magic, format, component count and lengths (R437). -/
def readable (l : List Byte) : Bool :=
  decide (fieldAt l 0 4 = 0x5A424C43) && decide (fieldAt l 4 2 = 1) && decide (1 ≤ tableCount l) && decide (tableCount l ≤ 62) &&
  decide (fieldAt l 8 4 ≤ 0x800000) && decide (tableEnd l ≤ fieldAt l 8 4) &&
  (bundleOf l).comps.all (fun c => decide (c.offset + c.length ≤ fieldAt l 8 4))

/-- Bytes that R440 gives as 0. -/
def zeros (l : List Byte) (i n : Nat) : Bool := ((l.drop i).take n).all (fun b => decide (b = 0))

/-- A table lies within R440 (step 1 of R442). -/
def tableOk (l : List Byte) : Bool :=
  readable l && decide (fieldAt l 12 1 ≤ 64) && decide (fieldAt l 13 1 ≤ 1) && zeros l 96 32 &&
  (List.range (tableCount l)).all (fun i =>
    let c := entryAt l i
    decide (c.target ≤ (if c.kind = 2 ∨ c.kind = 3 then 3 else 0)) && zeros l (128 + 64 * i + 2) 2 &&
    zeros l (128 + 64 * i + 20) 12 && decide (c.offset % 64 = 0) && decide (tableEnd l ≤ c.offset) &&
    (decide (c.kind = 1) || decide (c.kind = 2) || decide (c.entry = 0)))

/-- The public key of a table. -/
def tableKey (l : List Byte) : List Byte := (l.drop 32).take 60

/-- The slot whose hash is that of the key, among the programmed ones. -/
def keySlot (d : Dev) (key : List Byte) : Option Nat :=
  (List.range 4).find? (fun i => slotProgrammed d i && decide (rootSlot d i = sha256 key))

/-- The download buffer: pan offset and size in bytes. -/
def bufBase (d : Dev) : Nat := getF d .sec 0 0xC 24 12 * 0x1000
def bufSize (d : Dev) : Nat := getF d .sec 0 0xC 11 0 * 0x1000

/-- The failing component of step 8, with its code: 0x0A for a type, 0x09 for a target or a range (R441, R442). -/
def compCode (d : Dev) (cs : List Component) (i : Nat) (c : Component) : Nat :=
  if c.kind = 0 ∨ 6 < c.kind then 0x0A
  else if c.kind = 1 then
    (if (cs.take i).any (fun q => decide (q.kind = 1)) then 0x0A else if c.target ≠ 0 ∨ 0x20000 < c.load + c.length then 0x09 else 0)
  else if c.kind = 2 then
    (if (cs.take i).any (fun q => decide (q.kind = 2) && decide (q.target = c.target)) then 0x0A
     else if c.target = 0 ∨ 3 < c.target ∨ 0x20000 < c.load + c.length then 0x09 else 0)
  else if c.kind = 3 then (if 3 < c.target ∨ 0x10000 < c.load + c.length then 0x09 else 0)
  else if c.target ≠ 0 then 0x09
  else if c.kind = 4 then (if 0x40000 < c.load + c.length then 0x09 else 0)
  else if c.kind = 5 then
    (if panSize < c.load + c.length ∨ (c.load < bufBase d + bufSize d ∧ bufBase d < c.load + c.length) then 0x09 else 0)
  else if c.length % 8 ≠ 0 then 0x09
  else 0

/-- The first component that a check fails, with its code. -/
def firstBad (f : Nat → Component → Nat) : Nat → List Component → Option (Nat × Nat)
  | _, [] => none
  | i, c :: t => if f i c = 0 then firstBad f (i + 1) t else some (f i c, i)

/-- Steps 1–9 of R442 on a bundle's bytes: the failure code with the failing entry, or the bundle and its slot. `bad` says of a range, its
offset and length, that a line of it cannot be read: the step that reads it fails, for the table step 1, for the signature step 6, for a
component step 9 (spec/13_fault_collector.md R405; DEDUCED, log 143). -/
def verifyBytes (d : Dev) (bad : Nat → Nat → Bool) (l : List Byte) (limit : Nat) : (Nat × Nat) ⊕ Bundle :=
  let b := bundleOf l
  let key := tableKey l
  let signed := 128 + 64 * tableCount l
  let sig := (l.drop signed).take (fieldAt l 92 4)
  if bad 0 128 || bad 0 signed || !(tableOk l) then .inl (0x01, 0)
  else if limit < b.length then .inl (0x02, 0)
  else match keySlot d key with
    | none => .inl (0x03, 0)
    | some slot =>
      if slotRevoked d slot then .inl (0x04, 0)
      else if !(keyParams key && hssLowerOk key sig) then .inl (0x05, 0)
      else if bad signed sig.length || !(hssVerify key (l.take signed) sig) then .inl (0x06, 0)
      else if b.secver < rollbackCount d then .inl (0x08, 0)
      else match firstBad (compCode d b.comps) 0 b.comps with
        | some q => .inl q
        | none =>
          if !(b.comps.any (fun c => decide (c.kind = 1))) then .inl (0x0A, 0)
          else match firstBad (fun _ c => if !(bad c.offset c.length) ∧ sha256 ((l.drop c.offset).take c.length) = c.hash then 0 else 0x07) 0 b.comps with
            | some q => .inl q
            | none => .inr { b with slot := slot }

/-- The bundle in the download buffer. -/
def bufferBytes (d : Dev) : List Byte := panBytes d (bufBase d) (min (bufSize d) (fieldAt (panBytes d (bufBase d) 12) 8 4))

/-- The bytes of the download buffer that verification reads. -/
def bufferRead (d : Dev) : List Byte := panBytes d (bufBase d) (min (bufSize d) (max 128 (fieldAt (panBytes d (bufBase d) 12) 8 4)))

/-- Verification of the download buffer (R442). -/
def verifyBuffer (d : Dev) : (Nat × Nat) ⊕ Bundle :=
  verifyBytes d (fun o n => panBad d (bufBase d + o) n) (bufferRead d) (bufSize d)

/-- The range of the buffer that verification stops at under a failure code, as offset and length. -/
def failedRange (d : Dev) (code k : Nat) : Nat × Nat :=
  let l := bufferRead d
  if code = 0x01 then (0, 128 + 64 * tableCount l)
  else if code = 0x06 then (128 + 64 * tableCount l, fieldAt l 92 4)
  else if code = 0x07 then ((entryAt l k).offset, (entryAt l k).length)
  else (0, 0)

/-- The lines that verification could not read and so stopped at are reported (spec/13_fault_collector.md R405). -/
def verifyReports (d : Dev) (code k : Nat) : Dev :=
  let r := failedRange d code k
  reportBanks d ((d.badLines.map (fun l => l - panBase)).filter (fun l =>
    decide (l < bufBase d + r.1 + r.2) && decide (bufBase d + r.1 < l + 64)))

/-! ### The trunk at boot (R315, R438, R446, R473) -/

/-- The trunk group trains at a configuration, its lane domains on (spec/10_lanes.md R312, spec/16_power_and_modes.md R473). -/
def trunkStart (d : Dev) (config : Nat) : Dev :=
  let d1 := groupConfig d 0 config
  beginAttempt ((useLanes d1 0).foldl (fun d n => setDomain d (laneDomain n) true) d1) 0 1

/-- The trunk at entry to TRAIN: a group that trained with TF0 alone retrains with the strapped lanes, and a strapped single-lane trunk
that is READY stays READY (R315). -/
def trunkTrain (d : Dev) (config : Nat) : Dev :=
  let x := vget d.groups 0
  if x.state = .off ∨ x.config ≠ config then trunkStart d config
  else if x.state = .ready then act d .trunkReady
  else d

/-! ### The security engine (R447–R449) -/

/-- The job that the engine serves: the first in arrival order, but that an attestation waits until a leaf is ready (R448, R449). -/
def secNow (d : Dev) : Option SecJob :=
  d.sec.jobs.find? (fun j => match j with
    | .attest _ => d.sec.ready
    | _ => true)

/-- The state that SEC_STATUS shows; preparing until the first preparation since the reset has ended. -/
def secState (d : Dev) : Nat :=
  match secNow d with
  | none => bnat (!d.sec.idle)
  | some .prepare => 1
  | some .verify => 2
  | some (.attest _) => 3
  | some (.head _ _ _) => 4

/-- Every counter bit is blown: no leaf is left (R448). -/
def leavesGone (d : Dev) : Bool := decide (32768 ≤ leafCount d)

/-- An attestation request is refused (R448). -/
def attExhausted (d : Dev) : Dev := report (stat d .sec 0 4 8) 143

/-- The attestation requests that wait are refused, each. -/
def attestsRefused (d : Dev) : Dev :=
  let waits := fun (j : SecJob) => match j with
    | .attest _ => true
    | _ => false
  times attExhausted (d.sec.jobs.filter waits).length (onSec d (fun s => { s with jobs := s.jobs.filter (fun j => !(waits j)) }))

/-- The next leaf is blown and named, and no leaf is ready until the preparation ends (R448). -/
def useLeaf (d : Dev) : Dev :=
  let n := leafCount d
  onSec (put (otpBlow d 0x1000 n) .sec 0 0x48 (BitVec.ofNat 32 n)) (fun s => { s with ready := false })

/-- The engine takes up the job it is to serve: a leaf is used before anything is signed, and an attestation whose leaf is spent first
prepares the next; with no leaf left attestations are refused (R448). -/
def secBegin (d : Dev) : Dev :=
  match secNow d with
  | some .prepare =>
    if leavesGone d then attestsRefused (onSec d (fun s => { s with jobs := s.jobs.erase .prepare, ready := false, idle := true }))
    else useLeaf d
  | some (.attest _) =>
    if 1024 ≤ getF d .sec 0 0x48 26 16 then
      if leavesGone d then attestsRefused (onSec d (fun s => { s with ready := false }))
      else useLeaf (onSec d (fun s => { s with jobs := .prepare :: s.jobs }))
    else d
  | _ => d

/-- A job joins the engine's queue (R449). -/
def secPush (d : Dev) (j : SecJob) : Dev :=
  let d1 := onSec d (fun s => { s with jobs := s.jobs ++ [j] })
  if secNow d = none then secBegin d1 else d1

/-- The job that the engine serves is finished. -/
def secPop (d : Dev) : Dev :=
  match secNow d with
  | some j => secBegin (onSec d (fun s => { s with jobs := s.jobs.erase j }))
  | none => d

/-- At each entry to TRAIN the engine prepares a leaf (R448). -/
def secTrain (d : Dev) : Dev := secPush d .prepare

/-- The preparation is finished (R448). -/
def attestPrepared (d : Dev) : Dev :=
  if secNow d = some .prepare ∧ domainOn d 49 then
    secBegin (onSec d (fun s => { s with jobs := s.jobs.erase .prepare, ready := true, idle := true }))
  else d

/-- SEC_CTRL.attest: a report over the nonce registers as they are now, or a refusal (R448, R449). -/
def attestRequest (d : Dev) : Dev :=
  if leavesGone d then attExhausted d
  else secPush d (.attest ((List.range 8).flatMap (fun i => leBytes 4 (get d .sec 0 (0x20 + 4 * i)).toNat)))

/-! ### Stages -/

/-- The boot ROM moves to a stage. -/
def bootStage (d : Dev) (s : BootStage) : Dev := onBoot d (fun b => { b with stage := s })

/-- A report of FS142 waits to be registered. -/
def romPending (d : Dev) : Bool := d.reports.any (fun r => decide (r.source = 142))

/-- The ROM has finished with the other copy: it acknowledges its FS142, or will when that is registered (R437). -/
def romDone (d : Dev) : Dev :=
  if d.boot.raised then (if romPending d then onBoot d (fun b => { b with ackDue := true }) else release d 142) else d

/-- The ROM's acknowledgement of its registration that came after it had finished, and of no later one (R437). -/
def romAck (d : Dev) : Dev :=
  if d.boot.ackDue && !(romPending d) then release (onBoot d (fun b => { b with ackDue := false })) 142 else d

/-- FS142, once per boot (R437). -/
def romRead (d : Dev) : Dev := if d.boot.raised then d else report (onBoot d (fun b => { b with raised := true })) 142

/-- RESCUE is entered: the trunk trains with TF0 alone, and a bundle is awaited (R446). -/
def toRescue (d : Dev) : Dev := act (bootStage (romDone (trunkTrain d 0)) .download) (.mode (modeCode .rescue))

/-- A download over TRET is awaited in BOOT (R437). -/
def toDownload (d : Dev) : Dev := bootStage (romDone (trunkStart d 0)) .download

/-- DIAG is entered from BOOT: the strapped trunk trains (R438). -/
def toDiag (e : Env) (d : Dev) : Dev := act (bootStage (trunkStart d e.straps.trunk) .done) (.mode (modeCode .diag))

/-- A verification joins the engine's queue, the boot ROM standing at stage s (R449). -/
def bootVerify (d : Dev) (s : BootStage) : Dev := secPush (bootStage d s) .verify

/-- BOOT_STATUS bits. -/
def bootStat (d : Dev) (mask : Nat) : Dev := stat d .boot 0 0 mask

/-- Copies of the flash have failed (R446). -/
def copiesFail (d : Dev) (a b : Bool) : Dev := onBoot d (fun x => { x with failA := x.failA || a, failB := x.failB || b })

/-- A bundle of copy A (0), copy B (1) or the buffer (2) is rejected with a code (R437, R442). -/
def rejectBundle (d : Dev) (source code : Nat) : Dev :=
  report (putF (bootStat (copiesFail d (decide (source = 0)) (decide (source = 1))) (2 ^ source)) .boot 0 8 (8 * source + 7) (8 * source) code) 141

/-- The order in which two copies are taken: higher security version, then higher serial, then copy A (R437). -/
def preferB (a b : Bundle) : Bool := decide (a.secver < b.secver) || (decide (a.secver = b.secver) && decide (a.serial < b.serial))

/-- A table as the ROM read it, when it is readable. -/
def readTable (t : Option (List Byte)) : Option Bundle :=
  match t with
  | some l => if readable l then some (bundleOf l) else none
  | none => none

/-- The ROM goes by CFG_BOOT (R437). -/
def bootByStrap (e : Env) (d : Dev) (a b : Option (List Byte)) : Dev :=
  if e.straps.boot = 1 then toDownload d
  else if e.straps.boot = 3 then toDiag e d
  else
    let ta := readTable a
    let tb := readTable b
    let mask := 8 * bnat ta.isNone + 16 * bnat tb.isNone
    let d1 := if mask = 0 then d else romRead (bootStat (copiesFail d ta.isNone tb.isNone) mask)
    let verify := fun (copyB other : Bool) => act (bootVerify d1 (.verifyQspi copyB other)) (.mode (modeCode .verify))
    match ta, tb with
    | some x, some y => verify (preferB x y) true
    | some _, none => verify false false
    | none, some _ => verify true false
    | none, none => if e.straps.boot = 0 then toRescue d1 else toDownload d1

/-- The boot ROM chooses what it verifies (R437): after a rescue reset the bundle still in the buffer first. -/
def bootTableRead (e : Env) (d : Dev) (a b : Option (List Byte)) : Dev :=
  if e.mode = .boot ∧ d.boot.stage = .reading ∧ e.sys.resetLow = false then
    if getB d .glob 0 0x20 5 then
      match verifyBuffer d with
      | .inr _ => act (bootVerify d .verifyBuffer) (.mode (modeCode .verify))
      | .inl q => bootByStrap e (rejectBundle (verifyReports d q.1 q.2) 2 q.1) a b
    else bootByStrap e d a b
  else d

/-- The components of a QSPI copy are read into the download buffer in entry order, up to the first that fails (step 9). -/
def bufferComps (d : Dev) (l : List Byte) (b : Bundle) (n : Nat) : Dev :=
  (b.comps.take n).foldl (fun d c => panWrite d (bufBase d + c.offset) ((l.drop c.offset).take c.length)) d

/-- Verification of a QSPI copy ends (R437, R442): loading, the other copy, or RESCUE. -/
def qspiVerified (d' : Dev) (copyB other : Bool) (image : Option (List Byte)) : Dev :=
  let d := secPop d'
  let source := if copyB then 1 else 0
  let d0 := if image.isNone then romRead d else d
  let l := image.getD []
  match (if image.isNone then .inl (0x07, 0) else verifyBytes d (fun _ _ => false) l 0x800000 : (Nat × Nat) ⊕ Bundle) with
  | .inr b =>
    let d1 := bufferComps d0 l b b.comps.length
    onBoot d1 (fun x => { x with stage := .loading source, bundle := some b })
  | .inl (code, k) =>
    let d1 := rejectBundle (if code = 0x07 then bufferComps d0 l (bundleOf l) (k + 1) else d0) source code
    if other then bootVerify d1 (.verifyQspi (!copyB) false) else toRescue d1

/-- The flash address of a copy (R436). -/
def copyBase (copyB : Bool) : Nat := if copyB then 0x800000 else 0

/-- The ROM erases and programs the copy that failed, copy A where both did: write enable, sector erase and page program (R446). -/
def startInstall (d : Dev) : Dev :=
  let copyB := d.boot.failB && !d.boot.failA
  bootStage d (.install copyB (copyBase copyB) [0x06, 0x20, 0x02])

/-- Verification of the download buffer ends in BOOT's VERIFY or in RESCUE (R437, R446). -/
def bufferVerified (e : Env) (d' : Dev) : Dev :=
  let d := secPop d'
  match verifyBuffer d with
  | .inr b =>
    if e.mode = .rescue then
      if b.install ∧ e.straps.boot ≠ 1 then startInstall (onBoot d (fun x => { x with bundle := some b }))
      else act (bootStage d .done) (.reset 5)
    else onBoot d (fun x => { x with stage := .loading 2, bundle := some b })
  | .inl q =>
    let d1 := rejectBundle (verifyReports d q.1 q.2) 2 q.1
    if e.mode = .rescue then bootStage d1 .download else toRescue d1

/-- The boot ROM has written the failed copy and resets the device (R446). -/
def qspiProgrammed (d : Dev) : Dev :=
  match d.boot.stage with
  | .install _ _ _ => act (bootStage d .done) (.reset 5)
  | _ => d

/-- In DIAG entered from BOOT the ROM acknowledges a registration of class RETRY or FENCE (R438). -/
def diagAck (e : Env) (d : Dev) (s : Nat) : Dev :=
  if e.mode = .diag ∧ e.straps.boot = 3 ∧ e.sys.prev = modeCode .boot then
    match heldBy d s with
    | some u => if u.cls = 1 ∨ u.cls = 2 then release d s else d
    | none => d
  else d

/-! ### Verification at boot and at run time (R442, R447) -/

/-- SEC_CTRL.verify: the buffer becomes the bundle presented to VERIFY, or a run-time verification begins (R439, R447). -/
def secVerify (e : Env) (d : Dev) : Dev :=
  if (e.mode = .boot ∨ e.mode = .rescue) ∧ d.boot.stage = .download then
    let d1 := bootVerify d .verifyBuffer
    if e.mode = .boot then act d1 (.mode (modeCode .verify)) else d1
  else if e.mode = .ready ∨ e.mode = .run ∨ e.mode = .degraded ∨ e.mode = .diag then
    secPush (onSec d (fun s => { s with passed := none })) .verify
  else d

/-- A run-time verification ends (R442, R447). -/
def runtimeVerified (d : Dev) : Dev :=
  match verifyBuffer d with
  | .inr b =>
    secPop (onSec (stat (put d .sec 0 8 (BitVec.ofNat 32 (b.secver % 256))) .sec 0 4 1) (fun s => { s with passed := some b }))
  | .inl (code, k) =>
    let sv := fieldAt (panBytes d (bufBase d) 16) 12 1
    secPop (rejectBundle (verifyReports (stat (put d .sec 0 8 (BitVec.ofNat 32 (code * 2 ^ 24 + k * 2 ^ 16 + sv))) .sec 0 4 2) code k) 2 code)

/-- Verification completes (R442): the boot ROM's, or the one of run time, that the engine serves now (R449). -/
def verifyDone (e : Env) (d : Dev) (image : Option (List Byte)) : Dev :=
  if secNow d = some .verify ∧ domainOn d 49 then
    match d.boot.stage with
    | .verifyQspi copyB other => if e.mode = .verify then qspiVerified d copyB other image else d
    | .verifyBuffer => if e.mode = .verify ∨ e.mode = .rescue then bufferVerified e d else d
    | _ => runtimeVerified d
  else d

/-- SEC_CTRL.record (R447): the passing bundle's hashes join the log, flagged replaced, or are refused as a whole. -/
def secRecord (d : Dev) : Dev :=
  match d.sec.passed with
  | none => d
  | some b =>
    if 64 < d.sec.log.length + b.comps.length then stat d .sec 0 4 0x10
    else onSec d (fun s => { s with
      log := s.log ++ b.comps.map (fun c => { kind := c.kind, target := c.target, replaced := true, hash := c.hash }) })

/-- A report without its signature (R450). -/
def reportBytes (e : Env) (d : Dev) (nonce : List Byte) : List Byte :=
  let m := d.sec.log.length
  let roots := rootsWord d
  let head := leBytes 2 1 ++ leBytes 2 m ++ leBytes 4 (5876 + 40 * m) ++ nonce ++ otpBytes d 0 16
    ++ leBytes 4 (get d .glob 0 0).toNat ++ leBytes 4 (strapWord e.straps).toNat ++ leBytes 4 (get d .glob 0 0x10).toNat
    ++ leBytes 1 (rollbackCount d) ++ leBytes 1 roots.toNat ++ leBytes 1 (getF d .boot 0 4 15 8)
    ++ leBytes 1 (bnat (getB d .sec 0 4 4) + 2 * bnat (d.flt.forced || d.flt.unlocked))
    ++ leBytes 2 (getF d .sec 0 0x48 15 0) ++ leBytes 2 (getF d .sec 0 0x48 26 16 + 1) ++ timeBytes e.now ++ List.replicate 42 0
  head
    ++ d.sec.log.flatMap (fun x => leBytes 1 x.kind ++ leBytes 1 x.target ++ leBytes 1 (bnat x.replaced) ++ List.replicate 5 0 ++ x.hash)
    ++ (List.range 16).flatMap (fun c =>
      let h := vget d.heads c
      h.record.take 24 ++ List.replicate (24 - h.record.length) 0 ++ leBytes 1 (headVerdict d c) ++ leBytes 1 h.policy ++ List.replicate 6 0)

/-- The report is written to the pan (R449, R450). -/
def attestDone (e : Env) (d : Dev) : Dev :=
  match secNow d with
  | some (.attest nonce) =>
    if domainOn d 49 then
      let body := reportBytes e d nonce
      let sig := (Config.hssSign (getF d .sec 0 0x48 15 0) (getF d .sec 0 0x48 26 16 + 1) body).toList
      let d1 := if domainOn d 32 then panWrite d (getF d .sec 0 0x40 24 12 * 0x1000) (body ++ sig) else d
      let d2 := putF (put d1 .sec 0 0x44 (BitVec.ofNat 32 (body.length + sig.length))) .sec 0 0x48 26 16 (getF d .sec 0 0x48 26 16 + 1)
      secPop (stat d2 .sec 0 4 4)
    else d
  | _ => d

/-- A head certificate check ends (R455). -/
def headCertDone (d : Dev) (c : Nat) : Dev :=
  match secNow d with
  | some (.head c' record cert) => if c' = c ∧ domainOn d 49 then secPop (certDone d c record cert) else d
  | _ => d

/-- SEC_CTRL: record, verify, attest, each acting once (R447, R449). -/
def secCtrl (e : Env) (d : Dev) (w : Word) : Dev :=
  let d1 := if flag w 2 then secRecord d else d
  let d2 := if flag w 1 then secVerify e d1 else d1
  if flag w 0 then attestRequest d2 else d2

end Sys2Proof.Machine
end

