-- ==== Sys2Proof/Machine/Reads.lean ====
section
/-! DEFINITION. What a register reads as: the stored word, with the fields that show the state of a unit computed from that state
(spec/12_register_access.md R361, R363). -/

namespace Sys2Proof.Machine

/-- The code of a group's state (LINK_GROUP). -/
def groupCode : GroupState → Nat
  | .off => 0
  | .waitLine => 1
  | .training => 2
  | .ready => 3
  | .eidle => 4
  | .wake => 5
  | .listen => 6
  | .test => 7

/-- The code of a receiver's state (LANE_STATUS). -/
def rxCode : RxState → Nat
  | .off => 0
  | .hunt => 1
  | .verify => 2
  | .locked => 3
  | .hold => 4
  | .monitor => 5

/-- The code of a drover's state (DRV_STATE). -/
def drvCode : DrvState → Nat
  | .reset => 0
  | .running => 1
  | .waiting => 2
  | .halted => 3
  | .trapped => 4

/-- A signed number in w bits. -/
def sBits (w : Nat) (v : Int) : Nat := (v % (2 ^ w : Nat)).toNat

/-- The sets a drover holds. -/
def heldSets (v : Drover) : List StagedSet := v.armed ++ v.openSet.toList

/-- The entries that the sets of a drover hold (DRV_SETS). -/
def entriesHeld (v : Drover) : Nat := (heldSets v).foldl (fun a s => a + s.entries.length) 0

/-- Complete stripes not yet released of a context (CTX_RING_STAT). -/
def stripesWaiting (d : Dev) (c : Nat) : Nat :=
  (framesOf d c).foldl (fun a f =>
    if f.memfed then
      a + ((if f.ended || decide (frameHeight f ≤ completeRows f) then ceilDiv (completeRows f) (stripeRows f.profile)
        else completeRows f / stripeRows f.profile) - f.released)
    else a) 0

/-- The word CTX_RING_STAT: row slot size, waiting stripes, stripe slots for the profile in force. -/
def ringStat (d : Dev) (c : Nat) : Word :=
  let cfg := get d .ctx c 0
  let exps := fld cfg 9 8 + 1
  let row := slotSpan (getF d .ctx c 4 13 0) (expWidths d (fld cfg 6 4) c exps) exps
  packFields [(row / 64 % 4096, 16), (stripesWaiting d c % 256, 8), (ringSlots d c (profileEff d) % 256, 0)]

/-- The ID of the latest convoy tick (TIME_CV_NOW). -/
def convoyNow (e : Env) (d : Dev) : Word :=
  if getB d .time 0 0x400 0 then BitVec.ofNat 32 (convoyId (convoyTick d ((e.now / 64 : Nat) : Int))) else 0xFFFFFFFF

/-- A latched or snapped time in 2^-30 ns as its seconds, nanoseconds and fraction words. -/
def timeWord (t k : Nat) : Word :=
  if k = 0 then BitVec.ofNat 32 (secOf t)
  else if k = 1 then BitVec.ofNat 32 (secOf t / 2 ^ 32)
  else if k = 2 then BitVec.ofNat 32 (nsOf t)
  else BitVec.ofNat 32 (fracOf t)

/-- The registers of GLOBAL, as a block reads. -/
def viewGlobal (e : Env) (o : Nat) (w : Word) : Word :=
  if o = 4 then strapWord e.straps else if o = 0x14 then modeWord e.sys else w

/-- The registers of CUSTOMS. -/
def viewCustoms (e : Env) (d : Dev) (o : Nat) (w : Word) : Word :=
  if o = 0x4C then summaryWord e d else if 0x60 ≤ o ∧ o < 0x78 then unackWord d ((o - 0x60) / 4) else w

/-- The registers of POWER. -/
def viewPower (d : Dev) (o : Nat) (w : Word) : Word :=
  if o = 0x10 then packFields [(classBudget (classNow d), 16), (chargeNow d, 0)]
  else if o = 0x14 then
    setFld w 12 8 (sumTo 5 (fun i => bnat (switched d (9 + i)) * 2 ^ i))
  else if o = 0x40 ∨ o = 0x48 then
    let x := feedOf d ((o - 0x40) / 8)
    setFld (setFld w 18 16 x.cls) 10 8 (feedCode x.state)
  else w

/-- The registers of THERMAL. -/
def viewThermal (d : Dev) (o : Nat) (w : Word) : Word :=
  if o = 4 then setFld w 9 8 (bnat d.power.cool + 2 * bnat d.power.shedding) else w

/-- The registers of SEC and OTP. -/
def viewSec (d : Dev) (o : Nat) (w : Word) : Word :=
  if o = 4 then setFld w 10 8 (secState d)
  else if o = 0x50 then BitVec.ofNat 32 (rollbackCount d)
  else if o = 0x60 then rootsWord d
  else w

/-- The registers of TIME, as a master reads them. -/
def viewTime (e : Env) (d : Dev) (master o : Nat) (w : Word) : Word :=
  let snap := sGet 0 d.snaps master
  if o = 4 then setFld w 9 8 (clockCode e.clk.state)
  else if o = 0x20 then timeWord snap 2
  else if o = 0x24 then timeWord snap 0
  else if o = 0x28 then timeWord snap 1
  else if o = 0x2C then timeWord snap 3
  else if o = 0x34 then packFields ((List.range 6).map (fun q => ((vget d.tsq q).length, 5 * q)))
  else if o = 0x410 then convoyNow e d
  else if o = 0x414 then setFld w 0 0 (bnat e.hold)
  else if 0x200 ≤ o ∧ o < 0x2C0 then
    let q := (o - 0x200) / 0x20
    let t := sGet 0 d.latches (tsqKey master q)
    let k := (o - 0x200) % 0x20
    if k = 0 then (match vget d.tsq q with
      | [] => 0
      | x :: _ => tsqHeader x)
    else if k = 4 then timeWord t 0 else if k = 8 then timeWord t 1 else if k = 0xC then timeWord t 2
    else if k = 0x10 then timeWord t 3 else w
  else if 0x800 ≤ o ∧ o < 0x900 then
    let n := (o - 0x800) / 0x20
    let t := sGet 0 d.latches (capKey master n) * 2 ^ 29
    let k := (o - 0x800) % 0x20
    if k = 0xC then (match (vget d.caps n).fifo with
      | [] => 0
      | x :: _ => capHeader x)
    else if k = 0x10 then timeWord t 0 else if k = 0x14 then timeWord t 1 else if k = 0x18 then timeWord t 2 else w
  else w

/-- The registers of HEAD for context c. -/
def viewHead (d : Dev) (o : Nat) (w : Word) : Word :=
  let c := o / 0x40
  let k := o % 0x40
  let h := vget d.heads c
  if k = 4 then setFld (setFld w 10 8 (headVerdict d c)) 7 7 (bnat h.eol)
  else if 8 ≤ k ∧ k < 0x20 then BitVec.ofNat 32 (leVal ((h.record.drop (k - 8)).take 4))
  else if k = 0x20 then BitVec.ofNat 32 h.phr
  else if k = 0x24 then BitVec.ofNat 32 h.hot
  else if k = 0x28 then BitVec.ofNat 32 h.cyc
  else if 0x30 ≤ k then BitVec.ofNat 32 (leVal (((headPage h).drop (k - 0x30)).take 4))
  else w

/-- The registers of LINK. -/
def viewLink (d : Dev) (o : Nat) (w : Word) : Word :=
  if o = 0 then
    packFields ((List.range 3).flatMap (fun g => [(groupCode (vget d.groups g).state, 8 * g + 5), ((vget d.groups g).attempt, 8 * g)]))
  else if o = 0x14 then
    packFields [(d.trunk.classH.length, 16), (min 65535 (d.bestEff.length + d.tapQueue.length), 0)]
  else w

/-- The registers of lane n. -/
def viewLane (d : Dev) (n o : Nat) (w : Word) : Word :=
  let l := vget d.lanes n
  let tap := fun (i : Nat) => l.dfe.getD i 0
  if o = 8 then
    packFields [(l.fom, 16), (l.ctle, 8), (bnat l.signal, 5), (bnat l.partner, 4), (bnat (laneReady d n), 3), (rxCode l.rx, 0)]
  else if o = 0x10 then packFields [(sBits 7 (tap 3), 22), (sBits 7 (tap 2), 15), (sBits 7 (tap 1), 8), (sBits 8 (tap 0), 0)]
  else if o = 0x14 then packFields ((List.range 5).map (fun i => (sBits 6 (tap (4 + i)), 6 * i)))
  else if o = 0x18 then packFields ((List.range 3).map (fun i => (sBits 6 (tap (9 + i)), 6 * i)))
  else if o = 0x24 then packFields [(bnat l.checkLock, 16), (l.relocks, 0)]
  else w

/-- The registers of drover n. -/
def viewDrv (d : Dev) (n o : Nat) (w : Word) : Word :=
  let v := vget d.drvs n
  if o = 8 then BitVec.ofNat 32 (drvCode v.state)
  else if o = 0xC then BitVec.ofNat 32 (v.pc % 2 ^ 17)
  else if o = 0x28 then BitVec.ofNat 32 v.pend
  else if o = 0x2C then BitVec.ofNat 32 (v.pend / 2 ^ 32)
  else if o = 0x38 then
    packFields [(entriesHeld v, 16), (bnat v.openSet.isSome, 8), ((v.armed.map (fun s => 2 ^ s.handle)).foldl (· + ·) 0, 0)]
  else w

/-- A unit's register as a master reads it at offset o of the block's lower half, from its stored word. -/
def regView (e : Env) (d : Dev) (master : Nat) (u : UnitKind) (n o : Nat) (w : Word) : Word :=
  match u with
  | .glob => viewGlobal e o w
  | .customs => viewCustoms e d o w
  | .power => viewPower d o w
  | .thermal => viewThermal d o w
  | .sec => viewSec d o w
  | .otp => if o = 4 then otpData d else w
  | .time => viewTime e d master o w
  | .head => viewHead d o w
  | .tws => if o = 0x18 then donePeek d n else w
  | .twt => if o = 0x1018 then donePeek d 8 else w
  | .ctx => if o = 0x74C then BitVec.ofNat 32 (wsSize (profileEff d) (getF d .ctx n 4 13 0)) else if o = 0x750 then ringStat d n else w
  | .link => viewLink d o w
  | .lane => viewLane d n o w
  | .feeder => if o = 0x14 then BitVec.ofNat 32 (d.trunk.fill.getD n 0) else w
  | .drv => viewDrv d n o w
  | _ => w

/-- The staged bits of a unit's register at an offset. -/
def stagedBits (u : UnitKind) (o : Nat) : Word :=
  match findRow (unitRegs u) o with
  | some r => BitVec.ofNat 32 r.rws
  | none => 0

/-- The word a register reads as: in the lower half the staged values of its staged fields and the current values of the others, in the
mirror the word in force (R361, R363). -/
def regRead (e : Env) (d : Dev) (master : Nat) (u : UnitKind) (n o : Nat) (mirror : Bool) : Word :=
  let a := unitBase u n + o
  regView e d master u n o (if mirror then rd d a else mixBits (rd d a) (stagedAt d a) (stagedBits u o))

end Sys2Proof.Machine
end

