-- ==== Sys2Proof/Machine/Bus.lean ====
section
/-! DEFINITION. The register crossbar: every access of a master to the register space, the drover memories, the pan window and the bit
alias window, with its effects (spec/12_register_access.md R353–R381). -/

namespace Sys2Proof.Machine

/-! ### Where an access may go -/

/-- Units whose block lies in AON (R379). -/
def aonUnit : UnitKind → Bool
  | .glob | .customs | .power | .thermal | .otp | .time | .twt | .head => true
  | _ => false

/-- The domain of a unit's block is on (R359, R379). -/
def blockOn (d : Dev) (u : UnitKind) (n : Nat) : Bool :=
  match u with
  | .boot => domainOn d 48
  | .sec => domainOn d 49
  | .tws => domainOn d 47
  | .csi => domainOn d (n + 1)
  | .view => domainOn d (if n < 16 then 43 else 44)
  | .tap => domainOn d 46
  | .harv => domainOn d 45
  | .lane => domainOn d (laneDomain n)
  | .feeder => (feederDomains n).any (domainOn d)
  | _ => true

/-- The memories of the register space (R379; spec/07_jorran_isa.md R210). -/
inductive MemKind where
  | im (n : Nat)
  | dm (n : Nat)
  | shared
deriving DecidableEq, Repr, Inhabited

/-- The drover memory at an address. -/
def memAt (a : Nat) : Option MemKind :=
  if 0x700000 ≤ a ∧ a < 0x780000 then some (.im ((a - 0x700000) / 0x20000))
  else if 0x780000 ≤ a ∧ a < 0x7C0000 then some (.dm ((a - 0x780000) / 0x10000))
  else if 0x7C0000 ≤ a ∧ a < 0x800000 then some .shared
  else none

/-- The pan window holds the address. -/
def inPan (a : Nat) : Bool := decide (panBase ≤ a) && decide (a < panBase + panSize)

/-- The bit alias window holds the address. -/
def inAlias (a : Nat) : Bool := decide (0x40000000 ≤ a) && decide (a < 0x60000000)

/-- The mode lets a master make an access (R355; spec/16_power_and_modes.md R479). -/
def modeAllows (e : Env) (master : Nat) (read : Bool) (a : Nat) : Bool :=
  match e.mode with
  | .lineup | .fallow => false
  | .halt => decide (master = 0) && read && decide (a < 0x8000) && decide ((unitAt a).isSome)
  | _ =>
    if e.sys.resetLow then
      match unitAt a with
      | some (u, _, _) => aonUnit u
      | none => false
    else true

/-- A mode in which an access that it does not allow is answered with an error and leaves no report (R355). -/
def refusesMutely (e : Env) : Bool := decide (e.mode = .lineup) || decide (e.mode = .fallow) || decide (e.mode = .halt)

/-- The access is rejected: logged, with an error response (R356, R378). -/
def rejected (d : Dev) (master : Nat) (t : AccType) (a : Nat) : Dev := reportAcc d 131 master t a

/-! ### Guarded pairs in progress (R371, R372) -/

/-- The pair a master has in progress. -/
def guardOf (d : Dev) (master : Nat) : Option Guard := (d.guards.find? (fun q => decide (q.1 = master))).map Prod.snd

/-- A master has no pair in progress. -/
def guardDrop (d : Dev) (master : Nat) : Dev := { d with guards := d.guards.filter (fun q => decide (q.1 ≠ master)) }

/-- A pair fails: the value write is discarded and logged (R371). -/
def guardFail (d : Dev) (master : Nat) : Dev :=
  match guardOf d master with
  | some g => reportAcc (guardDrop d master) 129 master .guard g.addr
  | none => d

/-- The access is the complement write that the master's pair waits for. -/
def isComplement (d : Dev) (master a : Nat) : Bool :=
  match guardOf d master with
  | some g => decide (a = g.addr + 4)
  | none => false

/-! ### Register rows -/

/-- The row of a unit's register at an offset. -/
def rowAt (u : UnitKind) (o : Nat) : Option RegRow := findRow (unitRegs u) o

/-- The offset is the complement word of a guarded register. -/
def isPairWord (u : UnitKind) (o : Nat) : Bool :=
  decide (o % 8 = 4) && (match rowAt u (o - 4) with
    | some r => decide (r.grd ≠ 0)
    | none => false)

/-- A word that a table names as reserved (R357): DRV_PORTMAP of DRV1–DRV3, words 6 and 7 of each ledger entry
(spec/13_fault_collector.md), and offset + 0xC of each knee (spec/02_intake.md). -/
def isReservedWord (u : UnitKind) (n o : Nat) : Bool :=
  match u with
  | .drv => decide (n ≠ 0) && decide (o = 0x44)
  | .customs => decide (0x400 ≤ o) && decide (o < 0x800) && decide (0x18 ≤ o % 0x20)
  | .ctx => decide (0x800 ≤ o) && decide (o < 0x1800) && decide (o % 0x400 < 0x210) && decide (o % 0x10 = 0xC)
  | _ => false

/-- Pop registers (R356). -/
def isPop (u : UnitKind) (o : Nat) : Bool :=
  match u with
  | .time => (decide (0x200 ≤ o) && decide (o < 0x2C0) && decide (o % 0x20 = 0)) ||
      (decide (0x800 ≤ o) && decide (o < 0x900) && decide (o % 0x20 = 0xC))
  | .tws => decide (o = 0x18)
  | .twt => decide (o = 0x1018)
  | _ => false

/-- The register accepts no write: every field of it is read-only or reserved (R363). -/
def rowReadOnly (r : RegRow) : Bool :=
  decide (r.rw = 0) && decide (r.rws = 0) && decide (r.sqc = 0) && decide (r.grd = 0) && decide (r.once = 0) && decide (r.pulse = 0) &&
  decide (r.wo = 0)

/-- The masters that other chapters let write a register (R380, spec/07_jorran_isa.md R253, spec/11_time.md, spec/13_fault_collector.md,
spec/14_two_wire.md, spec/15_boot_identity_heads.md, spec/16_power_and_modes.md). -/
def writeAllowed (master : Nat) (u : UnitKind) (n o : Nat) : Bool :=
  match u with
  | .customs => decide (master = 2) || decide (master = 6)
  | .power => decide (master ≤ 2) || decide (master = 6)
  | .glob => if o = 8 ∨ o = 0xC ∨ o = 0x10 then decide (master ≤ 2) else true
  | .time => if o = 0xC ∨ o = 0x18 ∨ o = 0x1C then decide (master ≤ 2) else true
  | .sec => if o = 0 ∨ (0x20 ≤ o ∧ o < 0x40) then decide (master ≤ 2) else true
  | .twt => if 0x10 ≤ o ∧ o < 0x20 then decide (master = 2) || decide (master = 6) else true
  | .drv =>
    if o = 0 then (if n = 0 then decide (master = 6) else decide (master = 2) || decide (master = 6))
    else if o = 4 ∨ o = 0x40 ∨ o = 0x44 then decide (master = 2) || decide (master = 6)
    else if o = 0x20 ∨ o = 0x24 then decide (master = 2) || decide (master = 6) || decide (master = 2 + n)
    else true
  | _ => true

/-- A controller port of a block: TWS ports, and TWT's copy at 0x1000 (spec/14_two_wire.md). -/
def ctlPort (u : UnitKind) (n o : Nat) : Option (Nat × Nat) :=
  match u with
  | .tws => some (n, o)
  | .twt => if 0x1000 ≤ o then some (8, o - 0x1000) else none
  | _ => none

/-- A write that the register's own chapter rejects: LANE_TEST (spec/10_lanes.md R322), TWS_SUBMIT and busy descriptors
(spec/14_two_wire.md R424), FEED_CFG (spec/16_power_and_modes.md R506), ring and waystation places of a running memory-fed context
(spec/05_pipe_sharing.md R154), VIEW_STAGE of an enabled view and the set-up of an active tap channel
(spec/06_views_taps_convoys.md R178, R194). -/
def writeFits (e : Env) (d : Dev) (u : UnitKind) (n o : Nat) (v : Word) : Bool :=
  match u with
  | .lane => if o = 0x20 then laneTestOk e.mode d n v else true
  | .feeder => if o = 0 then !(configTooMuch d n (fld v 2 1)) else true
  | .ctx => if o = 0x740 ∨ o = 0x744 ∨ o = 0x748 then !(getB d .ctx n 0 0 && getB d .ctx n 0 1) else true
  | .view => if o = 0x24 then !(getB d .view n 0 0) else true
  | .tap => if o % 0x40 < 0xC then !(getB d .tap 0 (o / 0x40 * 0x40 + 0x10) 0) else true
  | .tws | .twt =>
    match ctlPort u n o with
    | some (p, k) =>
      if k = 0x14 then submitOk d p (fld v 3 0)
      else if 0x100 ≤ k ∧ k < 0x140 then !(descBusy d p ((k - 0x100) / 4))
      else if 0x400 ≤ k ∧ k < 0x600 then !(descBusy d p ((k - 0x400) / 0x20))
      else true
    | none => true
  | _ => true

/-- The read-write mask of a register as it stands: the device's own bits of PWR_PDEN0, a latched buffer size, and a ledger index that
has a rule of its own, are left out. -/
def rwNow (d : Dev) (u : UnitKind) (n o : Nat) (r : RegRow) : Nat :=
  match u with
  | .power => if o = 0x14 then r.rw - r.rw / 2 ^ 8 % 32 * 2 ^ 8 else r.rw
  | .feeder =>
    if o = 4 ∧ getB d .feeder n 0 0 then r.rw - r.rw % 512
    else if o = 0 ∧ getB d .feeder n 0 0 then r.rw - r.rw / 2 % 4 * 2
    else r.rw
  | .customs => if o = 0x48 then 0 else r.rw
  | _ => r.rw

/-! ### Drover control (spec/07_jorran_isa.md R252) -/

/-- DRV_CTRL.reset: RESET, registers and pending events cleared, armed sets discarded without a squash. -/
def droverReset (d : Dev) (n : Nat) : Dev :=
  let d1 := onDrv d n (fun v => { stores := v.stores, pc := getF d .drv n 4 16 2 * 4 })
  let d2 := put { d1 with panReqs := d1.panReqs.filter (fun r => !(decide (r.drover = n) && !r.write)) } .drv n 0x30 0
  match fenceOf d2 (0x28 + n) with
  | some f => onFlt d2 (fun x => { x with fences := sIns (0x28 + n) { f with wasReset := true } x.fences })
  | none => d2

/-- DRV_CTRL.halt: HALTED at the next instruction boundary, which a load whose response is outstanding has not reached; a sleeping WAIT does
not retire. -/
def droverHalt (d : Dev) (n : Nat) : Dev :=
  let v := vget d.drvs n
  if v.state = .running ∧ v.load ≠ none then onDrv d n (fun v => { v with haltDue := true })
  else if v.state = .running ∨ v.state = .waiting then onDrv d n (fun v => { v with state := .halted, sleep := none }) else d

/-- DRV_CTRL.run: ignored and logged in TRAPPED; while the drover is fenced it takes effect at the return (R252, R402). -/
def droverRunWrite (d : Dev) (x : Access) (n : Nat) : Dev :=
  match fenceOf d (0x28 + n) with
  | some f => onFlt d (fun q => { q with fences := sIns (0x28 + n) { f with run := true } q.fences })
  | none => if (vget d.drvs n).state = .trapped then reportAcc d 131 x.master x.kind x.addr else droverRun d n

/-- A write of DRV_CTRL. -/
def droverCtrl (d : Dev) (x : Access) (n : Nat) (v : Word) : Dev :=
  let d1 := if flag v 2 then droverReset d n else d
  let d2 := if flag v 1 then droverHalt d1 n else d1
  if flag v 0 then droverRunWrite d2 x n else d2

/-! ### Effects of writes -/

/-- CSI_CFG has been written from `old` (spec/02_intake.md R42). -/
def csiCfgWritten (d : Dev) (p : Nat) (old : Word) : Dev :=
  let w := get d .csi p 0
  if flag w 0 && !(flag old 0) then onPort d p (fun x => { x with latched := w })
  else if !(flag w 0) && flag old 0 then onPort (closePort d p) p (fun x => { x with resetting := false })
  else d

/-- CSI_CTRL: steps 1, 2 and 4 of R40, and the counters cleared (spec/02_intake.md). -/
def csiCtrl (d : Dev) (p : Nat) (v : Word) : Dev :=
  let d1 := if flag v 0 then put (put d .csi p 8 0) .csi p 0xC 0 else d
  if flag v 1 then portReset d1 p else d1

/-- TAP_CTRL of channel c (spec/06_views_taps_convoys.md R194). -/
def tapCtrl (e : Env) (d : Dev) (c : Nat) (x : Access) (v : Word) : Dev :=
  let d1 := if flag v 0 then tapArm e.mode d c x else d
  if flag v 1 then tapStop d1 c false else d1

/-- LINK_GROUP: retrain pulses (spec/10_lanes.md R313, R505). -/
def linkRetrain (d : Dev) (v : Word) : Dev :=
  forN 3 (fun d g =>
    let s := (vget d.groups g).state
    if flag v (24 + g) && (decide (s = .ready) || decide (s = .listen)) then retrain d g else d) d

/-- LANE_TEST has been written from `old` with v (spec/10_lanes.md R322–R324). -/
def laneTestWritten (d : Dev) (n : Nat) (old v : Word) : Dev :=
  let d1 := if fld old 2 0 ≠ fld v 2 0 ∨ fld old 6 4 ≠ fld v 6 4 then laneTestApply d n (fld old 2 0) else d
  let d2 := if flag v 9 then onLane d1 n (fun l => { l with tx := { l.tx with inject := l.tx.inject + 1 } }) else d1
  let d3 := if flag v 10 then checkSnap d2 n else d2
  if flag v 11 then checkClear d3 n else d3

/-- A controller port's enable has changed (TWS_CFG, TWT_CFG.ctl_enable; spec/14_two_wire.md R410). -/
def twsEnable (d : Dev) (p : Nat) (was now : Bool) : Dev :=
  if was && !now then twsStop d p else if now && !was then onTws d p (fun t => { t with busy := true }) else d

/-- A controller register has been written (spec/14_two_wire.md R424, R426, R429). -/
def ctlWritten (d : Dev) (p k : Nat) (v : Word) : Dev :=
  if k = 0x14 then submit d p (fld v 3 0)
  else if k = 0x10 then
    let d1 := if flag v 1 then twsFlush d p else d
    if flag v 0 then recoverAsked d1 p else d1
  else d

/-- HEAD registers of context c (spec/15_boot_identity_heads.md R452, R456). -/
def headWritten (d : Dev) (c k : Nat) (old v : Word) : Dev :=
  if k = 0 then (if flag v 31 && !(flag old 31) then probeStart d c else d)
  else if k = 0x2C then onHead d c (fun h => { h with tempOk := true })
  else d

/-- TIME registers (spec/11_time.md R327, R331, R332, R348). -/
def timeWritten (e : Env) (d : Dev) (o : Nat) (old v : Word) : Dev :=
  if o = 0 then
    let d1 := if flag v 0 then act d (.step (stepArgs d)) else d
    let d2 := if flag v 1 then act d1 .holdoverSet else d1
    if flag v 2 then act d2 .holdoverClear else d2
  else if o = 8 then act d (.addend v.toNat)
  else if 0x800 ≤ o ∧ o < 0x900 ∧ o % 0x20 = 0 then capWritten e d ((o - 0x800) / 0x20) old
  else d

/-- FLT_CTRL: first_clear and forced_clear (spec/13_fault_collector.md R396, R399). -/
def fltCtrl (d : Dev) (v : Word) : Dev :=
  let d1 := if flag v 0 then putF d .customs 0 0x34 9 9 0 else d
  if flag v 1 then onFlt d1 (fun f => { f with forced := false }) else d1

/-- CUSTOMS registers (spec/13_fault_collector.md). -/
def customsWritten (e : Env) (d : Dev) (master o : Nat) (v : Word) : Dev :=
  if o = 4 then fltCtrl d v
  else if o = 0x3C then beat e d
  else if o = 0x38 then beat e d
  else if o = 0x40 then acknowledge d (fld v 7 0) (fld v 31 24) (flag v 8)
  else if o = 0x44 then unitWritten e d v
  else if o = 0x48 then ledgerAdvance d (fld v 5 0)
  else if 0x80 ≤ o ∧ o < 0x98 then forceFaults d master ((o - 0x80) / 4) v
  else d

/-- A mode request is passed to the mode machine with the write that made it (spec/16_power_and_modes.md R475). -/
def modeRequest (d : Dev) (x : Access) (code : Nat) : Dev := act d (.request x code)

/-- POWER registers (spec/16_power_and_modes.md). -/
def powerWritten (e : Env) (d : Dev) (x : Access) (o : Nat) (old v : Word) : Dev :=
  if o = 4 then modeRequest d x (fld v 3 0)
  else if o = 0x24 then (if flag v 0 then powerApply e d x else d)
  else if o = 0x40 ∨ o = 0x48 then feedWritten d ((o - 0x40) / 8) old
  else d

/-- What the write x of v does beside the stored bits; `old` is the word before. -/
def afterWrite (e : Env) (d : Dev) (x : Access) (u : UnitKind) (n o : Nat) (old v : Word) : Dev :=
  match u with
  | .customs => customsWritten e d x.master o v
  | .power => powerWritten e d x o old v
  | .thermal => if o = 0xC ∧ flag v 31 then peakClear d else d
  | .sec => if o = 0 then secCtrl e d v else d
  | .time => timeWritten e d o old v
  | .twt =>
    if o = 0 then twsEnable d 8 (flag old 0) (flag v 0)
    else if 0x1000 ≤ o then ctlWritten d 8 (o - 0x1000) v
    else d
  | .tws => if o = 0 then twsEnable d n (flag old 0) (flag v 0) else ctlWritten d n o v
  | .head => headWritten d (o / 0x40) (o % 0x40) old v
  | .csi => if o = 0 then csiCfgWritten d n old else if o = 0x10 then csiCtrl d n v else d
  | .ctx => if o = 0x708 ∧ flag v 0 then epochWrite e d n else d
  | .tap => if o % 0x40 = 0xC then tapCtrl e d (o / 0x40) x v else d
  | .link => if o = 0 then linkRetrain d v else d
  | .lane => if o = 0x20 then laneTestWritten d n old (get d .lane n 0x20 ||| (v &&& 0xE00)) else d
  | .feeder => if o = 0 then feedCfgWritten d n old else d
  | .drv => if o = 0 then droverCtrl d x n v else d
  | .tt =>
    if 0x400 ≤ o then onTrunk d (fun t => { t with
      age := 0, since := (if t.cycle = none ∨ t.since.contains ((o - 0x400) / 4) then t.since else t.since ++ [(o - 0x400) / 4]) }) else d
  | _ => d

/-! ### Guarded writes that complete -/

/-- A completed pair with a value its register does not take (R378, R380). -/
def badPair (d : Dev) (master a : Nat) : Dev := reportAcc d 129 master .guard a

/-- A guarded pair of a master completes with value v (R371, R380; spec/11_time.md R333, spec/13_fault_collector.md R386, R395, R400,
spec/15_boot_identity_heads.md R444, R445). -/
def pairDone (e : Env) (d : Dev) (master a : Nat) (v : Word) : Dev :=
  match unitAt a with
  | some (.glob, _, _) => if v = 0x9616 then act d (.reset 2) else badPair d master a
  | some (.customs, _, o) =>
    if o = 8 then putF d .customs 0 8 2 0 (fld v 2 0)
    else if o = 0x10 then
      if v ≠ 1 then badPair d master a
      else if d.flt.unlocked then reportAcc d 130 master .guard a
      else onFlt d (fun f => { f with unlocked := true })
    else if fld v 2 0 ≤ 4 then putF d .customs 0 o 2 0 (fld v 2 0)
    else reportAcc d 131 master .guard a
  | some (.time, _, _) => if flag v 0 then act d (.force (stepArgs d)) else d
  | some (.sec, _, o) => if o = 0x50 then secRollback e.mode d master (fld v 6 0) else secRevoke d master (fld v 1 0)
  | _ => d

/-- A write of the complement word at a + 4 (R371). -/
def pairWrite (e : Env) (d : Dev) (master a : Nat) (v : Word) : Dev :=
  match guardOf d master with
  | some g =>
    if g.addr = a ∧ v = ~~~ g.value then pairDone e (guardDrop d master) master a g.value
    else guardFail d master
  | none => reportAcc d 129 master .guard (a + 4)

/-! ### Registers -/

/-- A write-once field: GLOBAL_TREE.tree_id_set, which the root copies to tree_id and sends on (R374; spec/01_architecture.md R28). -/
def onceWrite (e : Env) (d : Dev) (master : Nat) (v : Word) : Dev :=
  let a := unitBase .glob 0 + 0x10
  if e.straps.role = 1 then reportAcc d 130 master .write a
  else if d.onceTree then (if fld v 7 0 = getF d .glob 0 0x10 7 0 then d else reportAcc d 130 master .write a)
  else takeId { putF d .glob 0 0x10 7 0 (fld v 7 0) with onceTree := true } 0 (fld v 7 0)

/-- The bits of v enter a register by their access codes (R363, R364, R369). -/
def storeBits (e : Env) (d : Dev) (master : Nat) (u : UnitKind) (n o : Nat) (r : RegRow) (v : Word) : Dev :=
  let a := unitBase u n + o
  let mask := BitVec.ofNat 32 (rwNow d u n o r)
  let s := stagedAt d a
  let d1 := if r.rw ≠ 0 then wr d a (mixBits (rd d a) v mask) else d
  let d2 := if r.rws ≠ 0 then stage d1 a (mixBits (mixBits s v mask) v (BitVec.ofNat 32 r.rws)) else d1
  let d3 := if r.sqc ≠ 0 then wr d2 a (sqcClear (rd d2 a) v (BitVec.ofNat 32 r.sqc)) else d2
  if r.once ≠ 0 then onceWrite e d3 master v else d3

/-- A 32-bit write of v to the register at offset o of a unit, or to a bit of it through its alias (R356–R374). The Bool answers
whether the write was accepted; a is the address that is logged. -/
def regStore (e : Env) (d : Dev) (master : Nat) (t : AccType) (a : Nat) (u : UnitKind) (n o : Nat) (v : Word) : Bool × Dev :=
  if isReservedWord u n o then (if u = .customs ∧ ¬ writeAllowed master u n o then (false, rejected d master t a) else (true, d))
  else if isPairWord u o then
    if writeAllowed master u n o && blockOn d u n then (true, pairWrite e d master (unitBase u n + o - 4) v)
    else (false, rejected (guardFail d master) master t a)
  else match rowAt u o with
    | none => (false, rejected d master t a)
    | some r =>
      if rowReadOnly r || !(blockOn d u n) || (fenced d u n && !(decide (u = .drv) && decide (o = 0))) || !(writeAllowed master u n o)
      then (false, rejected d master t a)
      else if !(writeFits e d u n o v) then
        (false, rejected (if u = .feeder then pwrRefusedBy d { master := master, kind := t, addr := a } else d) master t a)
      else if r.grd ≠ 0 then (true, { d with guards := sIns master { addr := unitBase u n + o, value := v } d.guards })
      else
        (true, afterWrite e (storeBits e d master u n o r v) { master := master, kind := t, addr := a } u n o (rd d (unitBase u n + o)) v)

/-- The bits of a register that an alias write may change: read-write, staged, pulse and write-only (R376). -/
def aliasBits (r : RegRow) : Word := BitVec.ofNat 32 (r.rw + r.rws + r.pulse + r.wo)

/-- The register address that an alias address names. -/
def aliasAddr (x : Nat) : Nat := (x - 0x40000000) / 128 * 4

/-- The bit that an alias address names. -/
def aliasBit (x : Nat) : Nat := (x - 0x40000000) % 128 / 4

/-- An alias write (R375, R376): an indivisible read-modify-write that leaves the other bits' pulses and clears alone. -/
def aliasStore (e : Env) (d : Dev) (master x : Nat) (v : Word) : Bool × Dev :=
  match unitAt (aliasAddr x) with
  | none => (false, rejected d master .bitAlias x)
  | some (u, n, o) =>
    match (if 0x2000 ≤ o then none else rowAt u o) with
    | none => (false, rejected d master .bitAlias x)
    | some r =>
      if flag (aliasBits r) (aliasBit x) && !(isReservedWord u n o) then
        let cur := stagedAt d (unitBase u n + o) &&& BitVec.ofNat 32 (r.rw + r.rws)
        regStore e d master .bitAlias x u n o (if flag v 0 then setBit cur (aliasBit x) else clearBit cur (aliasBit x))
      else (false, rejected d master .bitAlias x)

/-- What a read of a register does beside answering (R361; spec/11_time.md R330, R342, R349; spec/14_two_wire.md R426;
spec/07_jorran_isa.md R233). -/
def afterRead (e : Env) (d : Dev) (master : Nat) (u : UnitKind) (n o : Nat) : Dev :=
  match u with
  | .time =>
    if o = 0x20 then takeSnap e d master
    else if isPop .time o then
      (if o < 0x2C0 then (tsqPop d master ((o - 0x200) / 0x20)).2 else (capPop d master ((o - 0x800) / 0x20)).2)
    else d
  | .tws => if o = 0x18 then (donePop d n).2 else d
  | .twt => if o = 0x1018 then (donePop d 8).2 else d
  | .drv => if o = 0x30 then onDrv d n (fun v => { v with ovrArm := true }) else d
  | _ => d

/-- The value that a read of a register answers. -/
def readValue (e : Env) (d : Dev) (master : Nat) (u : UnitKind) (n o : Nat) (mirror : Bool) : Word :=
  if u = .time ∧ o = 0x20 ∧ mirror = false then timeWord e.now 2 else regRead e d master u n o mirror

/-- Bytes [a, a + width) of a word. -/
def bytesOf (w : Word) (a width : Nat) : Word := BitVec.ofNat 32 (w.toNat / 2 ^ (8 * (a % 4)) % 2 ^ (8 * width))

/-- The OTP word at OTP_ADDR cannot be read: FS006, and no response but an error (spec/16_power_and_modes.md R484). -/
def otpLost (d : Dev) (u : UnitKind) (o : Nat) : Bool :=
  decide (u = .otp) && decide (o = 4) && d.otpBad.contains (getF d .otp 0 0 13 2 * 4)

/-- A word of AON memory: a collector record, a counter of a head, or the time base (spec/16_power_and_modes.md R484). -/
def aonMem (u : UnitKind) (o : Nat) : Bool :=
  decide (u = .customs) && decide (0x400 ≤ o) && decide (o < 0x800) || decide (u = .head) || decide (u = .time)

/-- A word read from an AON memory: one with an uncorrectable error raises FS005 and answers a free value (spec/16_power_and_modes.md R484;
DESIGN CHOICE, log 145). -/
def aonRead (d : Dev) (master : Nat) (t : AccType) (u : UnitKind) (o a : Nat) (w : Word) : Word × Dev :=
  if aonMem u o && d.aonBad.contains a then
    let (k, d1) := drawFree d
    (Config.aonWord k, reportAcc d1 5 master t a)
  else (w, d)

/-- A read of width bytes at an address of a unit block (R356–R361). -/
def regLoad (e : Env) (d : Dev) (master : Nat) (t : AccType) (a width : Nat) : Option Word × Dev :=
  match unitAt (a / 4 * 4) with
  | none => (none, rejected d master t a)
  | some (u, n, x) =>
    let o := x % 0x2000
    let mirror := decide (0x2000 ≤ x)
    if isReservedWord u n o then (some 0, d)
    else if !(isPairWord u o) && (rowAt u o).isNone then (none, rejected d master t a)
    else if !(blockOn d u n) || (isPop u o && decide (width ≠ 4)) then (none, rejected d master t a)
    else if otpLost d u o then (none, reportAcc d 6 master t a)
    else
      let (w, d1) := aonRead (if mirror then d else afterRead e d master u n o) master t u o (a / 4 * 4) (readValue e d master u n o mirror)
      (some (bytesOf w a width), d1)

/-- A read through the alias window (R375, R376). -/
def aliasLoad (e : Env) (d : Dev) (master x : Nat) : Option Word × Dev :=
  match unitAt (aliasAddr x) with
  | none => (none, rejected d master .bitAlias x)
  | some (u, _, o) =>
    if isPop u (o % 0x2000) then (none, rejected d master .bitAlias x)
    else match regLoad e d master .bitAlias (aliasAddr x) 4 with
      | (some w, d1) => (some (BitVec.ofNat 32 (bnat (flag w (aliasBit x)))), d1)
      | (none, _) => (none, rejected d master .bitAlias x)

/-! ### Drover memories (R356; spec/07_jorran_isa.md R212, R214; spec/08_drover_programs.md R257) -/

/-- The memory's domain is on. -/
def memOn (d : Dev) : MemKind → Bool
  | .im n => n = 0 || domainOn d (39 + n)
  | .dm n => n = 0 || domainOn d (39 + n)
  | .shared => true

/-- The master may read the memory. -/
def memReads (master : Nat) : MemKind → Bool
  | .im 0 => decide (master = 2) || decide (master = 6)
  | .dm 0 => decide (master = 2) || decide (master = 6)
  | _ => true

/-- The drover is stopped: RESET, HALTED or TRAPPED. -/
def drvStopped (d : Dev) (n : Nat) : Bool :=
  let s := (vget d.drvs n).state
  decide (s = .reset) || decide (s = .halted) || decide (s = .trapped)

/-- The master may write the memory. -/
def memWrites (d : Dev) (master width : Nat) : MemKind → Bool
  | .im n => decide (width = 4) && (decide (master = 2) || decide (master = 6)) && drvStopped d n
  | .dm n =>
    if n = 0 then decide (master = 2) || decide (master = 6) else !(decide (3 ≤ master) && decide (master ≤ 5) && decide (master ≠ 2 + n))
  | .shared => true

/-- The shared memory's line cannot be read (spec/13_fault_collector.md R405). -/
def sharedBad (d : Dev) (k : MemKind) (a : Nat) : Bool := decide (k = .shared) && badAt d a

/-- A read of a drover memory. -/
def memLoad (d : Dev) (master : Nat) (k : MemKind) (a width : Nat) : Option Word × Dev :=
  if !(memOn d k) || !(memReads master k) then (none, rejected d master .read a)
  else if sharedBad d k a then (none, reportAcc d 140 master .read (lineOf a))
  else (some (BitVec.ofNat 32 (memVal d width a)), d)

/-- A write of a drover memory. -/
def memStore (d : Dev) (master : Nat) (k : MemKind) (a width : Nat) (v : Word) : Bool × Dev :=
  if !(memOn d k) || !(memWrites d master width k) then (false, rejected d master .write a)
  else if decide (width < 4) && sharedBad d k a then (false, reportAcc d 140 master .write (lineOf a))
  else (true, memWrite d a (leBytes width v.toNat))

/-! ### The pan window (R354, R356; spec/05_pipe_sharing.md R171) -/

/-- Masters 0 and 1 reach the bank at a visit of owner 0x01, after every line that the scrubber has due there (R354). -/
def panTurnOf (d : Dev) (master a : Nat) : Dev := if master < 2 then scrubBank d (panBank (a - panBase)) else d

/-- A read of the pan by a master without a queue of its own. The access of master 0 or 1 stands for the visit of owner 0x01 that serves
it, which TOLL_VISIT counts: DESIGN CHOICE, log entry 48. -/
def panLoad (d : Dev) (master a width : Nat) : Option Word × Dev :=
  if !(bankOn d (panBank (a - panBase))) then (none, rejected d master .read a)
  else
    let d1 := panTurnOf d master a
    if badAt d1 a then (none, panUncorrectable d1 (lineOf a) master .read)
    else (some (BitVec.ofNat 32 (memVal d1 width a)), d1)

/-- A write of the pan by a master without a queue of its own: fewer than 64 bytes, so the line is read first. -/
def panStore (d : Dev) (master a width : Nat) (v : Word) : Bool × Dev :=
  if !(bankOn d (panBank (a - panBase))) then (false, rejected d master .write a)
  else
    let d1 := panTurnOf d master a
    if badAt d1 a then (false, panUncorrectable d1 (lineOf a) master .write)
    else (true, memWrite d1 a (leBytes width v.toNat))

/-! ### The crossbar -/

/-- Before any crossbar access of a master but the complement write, its pair in progress fails (R371). -/
def breakPair (d : Dev) (master a : Nat) (write : Bool) (width : Nat) : Dev :=
  if write && decide (width = 4) && isComplement d master a then d else guardFail d master

/-- A read of width bytes by a master: the data, or an error response (R353–R381). -/
def busRead (e : Env) (d : Dev) (master width a : Nat) : Option Word × Dev :=
  if inPan a then
    if !(modeAllows e master true a) then (none, if refusesMutely e then d else rejected d master .read a)
    else if a % width ≠ 0 then (none, rejected d master .read a)
    else panLoad d master a width
  else
    let d1 := breakPair d master a false width
    let t := if inAlias a then AccType.bitAlias else AccType.read
    if !(modeAllows e master true (if inAlias a then aliasAddr a else a)) then
      (none, if refusesMutely e then d else rejected d1 master t a)
    else if a % width ≠ 0 then (none, rejected d1 master t a)
    else if inAlias a then (if width = 4 then aliasLoad e d1 master a else (none, rejected d1 master .bitAlias a))
    else match memAt a with
      | some k => memLoad d1 master k a width
      | none => regLoad e d1 master .read a width

/-- A write of width bytes by a master: accepted, or an error response (R353–R381). -/
def busWrite (e : Env) (d : Dev) (master width a : Nat) (v : Word) : Bool × Dev :=
  if inPan a then
    if !(modeAllows e master false a) then (false, if refusesMutely e then d else rejected d master .write a)
    else if a % width ≠ 0 then (false, rejected d master .write a)
    else panStore d master a width v
  else
    let d1 := breakPair d master a true width
    let t := if inAlias a then AccType.bitAlias else AccType.write
    if !(modeAllows e master false (if inAlias a then aliasAddr a else a)) then
      (false, if refusesMutely e then d else rejected d1 master t a)
    else if a % width ≠ 0 then (false, rejected d1 master t a)
    else if inAlias a then (if width = 4 then aliasStore e d1 master a v else (false, rejected d1 master .bitAlias a))
    else match memAt a with
      | some k => memStore d1 master k a width v
      | none =>
        if width ≠ 4 then (false, rejected d1 master .write a)
        else match unitAt a with
          | none => (false, rejected d1 master .write a)
          | some (u, n, o) => if 0x2000 ≤ o then (false, rejected d1 master .write a) else regStore e d1 master .write a u n o v

/-- 1,024 CORE cycles pass without the complement (R371). -/
def guardExpire (d : Dev) (master : Nat) : Dev := guardFail d master

end Sys2Proof.Machine
end

