-- ==== Sys2Proof/Machine/Idle.lean ====
section
/-! DEFINITION. Staged writes of idle units (spec/12_register_access.md R365; spec/02_intake.md R43, R47;
spec/05_pipe_sharing.md R157, R172; spec/06_views_taps_convoys.md R178, R198; spec/11_time.md R343, R346). -/

namespace Sys2Proof.Machine

/-- A context has no frame open, so its staged set applies within 1 µs (spec/02_intake.md R47). -/
def ctxIdle (d : Dev) (c : Nat) : Bool := (openFrame d c).isNone

/-- A view is disabled, or its source context is (spec/06_views_taps_convoys.md R178). -/
def viewIdle (d : Dev) (v : Nat) : Bool := !(getB d .view v 0 0) || !(getB d .ctx (getF d .view v 0 11 8) 0 0)

/-- The staged set of an idle context applies; a set that disables it ends its frames' further use (R47). -/
def applyIdleCtx (d : Dev) (c : Nat) : Dev := if ctxIdle d c then applyCtxSet d c else d

/-- The staged set of an idle view applies (R178). -/
def applyIdleView (d : Dev) (v : Nat) : Dev := if viewIdle d v then applyViewSet d v else d

/-- The staged timetable of a disabled pipe applies (spec/05_pipe_sharing.md R157). -/
def applyIdleTt (d : Dev) (p : Nat) : Dev := if getB d .pipe p 0 31 then d else applyTt d p

/-- The staged routes of a disabled port apply (spec/02_intake.md R43). -/
def applyIdleRoutes (d : Dev) (p : Nat) : Dev := if getB d .csi p 0 0 then d else forN 16 (fun d k => applyRoute d p k) d

/-- The staged set of a control cycle that does not run applies (spec/11_time.md R343). -/
def applyIdleCycle (d : Dev) (u : Nat) : Dev := if cycleOn d u then d else applyCycle d u

/-- The staged set of a trigger that is disabled or held inactive applies (spec/11_time.md R346). -/
def applyIdleTrig (e : Env) (d : Dev) (n : Nat) : Dev := if trigActive e.mode d n then d else applyTrig e d n

end Sys2Proof.Machine
end

