-- ==== Sys2Proof/Machine/Operands.lean ====
section
/-! DEFINITION. The words of the drovers' instruction set: fields, formats, rows and legality (spec/07_jorran_isa.md R215–R217). -/

namespace Sys2Proof.Machine

/-! ### Fields (R215) -/

/-- The opcode. -/
def opField (w : Word) : Nat := fld w 5 0

/-- rd, or rs of a store, or rs1 of a branch: bits [9:6]. -/
def fieldA (w : Word) : Nat := fld w 9 6

/-- rs1, or rs2 of a branch: bits [13:10]. -/
def fieldB (w : Word) : Nat := fld w 13 10

/-- rs2: bits [17:14]. -/
def fieldC (w : Word) : Nat := fld w 17 14

/-- sub: bits [20:18]. -/
def subField (w : Word) : Nat := fld w 20 18

/-- imm11: bits [31:21]. -/
def imm11 (w : Word) : Nat := fld w 31 21

/-- The 18-bit immediate or offset, sign-extended: bits [31:14]. -/
def imm18 (w : Word) : Int := sInt 18 (fld w 31 14)

/-- An integer as a word, modulo 2^32. -/
def wordOf (i : Int) : Word := BitVec.ofInt 32 i

/-! ### Rows (R217) -/

/-- What a word of the instruction memory spells: one name per instruction, with the forms of WAIT, STAGE, ARM and TIME apart. -/
inductive JRow where
  | add | sub | and | or | xor | shl | shr | sra | mul | mulh | jr
  | addi | lui | ldB | ldH | ldW | stB | stH | stW
  | beq | bne | blt | bge | bltu | jal
  | wait | waitPoll | stageT | stage | commit | post | send | recv
  | arm | disarm | timeSnapshot | timeRead | fence | trap | halt
  | illegal
deriving DecidableEq, Repr, Inhabited

/-- The row of a word: by its opcode, and by the field that tells two forms apart. -/
def rowOf (w : Word) : JRow :=
  match opField w with
  | 0x01 => .add
  | 0x02 => .sub
  | 0x03 => .and
  | 0x04 => .or
  | 0x05 => .xor
  | 0x06 => .shl
  | 0x07 => .shr
  | 0x08 => .sra
  | 0x09 => .mul
  | 0x0A => .mulh
  | 0x0B => .jr
  | 0x10 => .addi
  | 0x11 => .lui
  | 0x12 => .ldB
  | 0x13 => .ldH
  | 0x14 => .ldW
  | 0x15 => .stB
  | 0x16 => .stH
  | 0x17 => .stW
  | 0x20 => .beq
  | 0x21 => .bne
  | 0x22 => .blt
  | 0x23 => .bge
  | 0x24 => .bltu
  | 0x25 => .jal
  | 0x30 => if subField w = 1 then .waitPoll else .wait
  | 0x31 => if subField w = 1 then .stageT else .stage
  | 0x32 => .commit
  | 0x33 => .post
  | 0x34 => .send
  | 0x35 => .recv
  | 0x36 => if imm11 w / 4 % 2 = 1 then .disarm else .arm
  | 0x37 => if imm11 w = 0 then .timeSnapshot else .timeRead
  | 0x38 => .fence
  | 0x39 => .trap
  | 0x3A => .halt
  | _ => .illegal

/-- The fields of an EV word that must be 0: rd, rs1, rs2, sub, imm11, as the flags say (R216). -/
def zeroFields (w : Word) (d a b s i : Bool) : Bool :=
  (!d || decide (fieldA w = 0)) && (!a || decide (fieldB w = 0)) && (!b || decide (fieldC w = 0)) &&
  (!s || decide (subField w = 0)) && (!i || decide (imm11 w = 0))

/-- Every field that the instruction does not use is 0, and no sub or imm11 value is a reserved one (R216, R217). -/
def legalWord (w : Word) : Bool :=
  match rowOf w with
  | .add | .sub | .and | .or | .xor | .shl | .shr | .sra | .mul | .mulh => zeroFields w false false false true true
  | .jr => zeroFields w false false true true true
  | .addi | .ldB | .ldH | .ldW | .stB | .stH | .stW => true
  | .lui => decide (fieldB w = 0)
  | .beq | .bne | .blt | .bge | .bltu => true
  | .jal => decide (fieldA w = 0) && decide (fieldB w = 0)
  | .wait => zeroFields w false false false true true
  | .waitPoll => zeroFields w false false false false true
  | .stage => zeroFields w true false false true true
  | .stageT => zeroFields w true false false false true
  | .commit => zeroFields w false true true true true
  | .post => zeroFields w true false true true true
  | .send => zeroFields w false false false true false && decide (imm11 w ≤ 4)
  | .recv => zeroFields w false false true true false && decide (imm11 w ≤ 4)
  | .arm => zeroFields w false false false true false && decide (imm11 w ≤ 3)
  | .disarm => zeroFields w false true true true false && decide (imm11 w ≤ 7)
  | .timeSnapshot => zeroFields w false true true true true
  | .timeRead => zeroFields w false true true true false && decide (imm11 w ≤ 6)
  | .fence => zeroFields w true true true true true
  | .trap => zeroFields w true true true true false
  | .halt => zeroFields w true true true true true
  | .illegal => false

/-! ### Arithmetic and conditions (R218, R219, R225) -/

/-- The result of an RR arithmetic or logic row on two registers; 0 for the other rows. -/
def aluOf (r : JRow) (a b : Word) : Word :=
  match r with
  | .add => a + b
  | .sub => a - b
  | .and => a &&& b
  | .or => a ||| b
  | .xor => a ^^^ b
  | .shl => a <<< (b.toNat % 32)
  | .shr => a >>> (b.toNat % 32)
  | .sra => a.sshiftRight (b.toNat % 32)
  | .mul => a * b
  | .mulh => wordOf (a.toInt * b.toInt / 2 ^ 32)
  | _ => 0

/-- The condition of a branch row on two registers; false for the other rows. -/
def condOf (r : JRow) (a b : Word) : Bool :=
  match r with
  | .beq => decide (a = b)
  | .bne => decide (a ≠ b)
  | .blt => decide (a.toInt < b.toInt)
  | .bge => decide (b.toInt ≤ a.toInt)
  | .bltu => decide (a.toNat < b.toNat)
  | _ => false

/-- The lowest set bit of a mask of 64 events, none where no bit is set (R234). -/
def lowestBit (m : Nat) : Option Nat := (List.range 64).find? (fun i => m.testBit i)

end Sys2Proof.Machine
end

