-- ==== Sys2Proof/Machine/Drover.lean ====
section
/-! DEFINITION. The drovers: fetch, the shared parts of their instructions, traps, memory accesses and their responses, events
(spec/07_jorran_isa.md R206–R252). -/

namespace Sys2Proof.Machine

/-! ### Registers and pc (R206) -/

/-- The drover. -/
def drvOf (d : Dev) (n : Nat) : Drover := vget d.drvs n

/-- A work register; w0 reads as zero. -/
def wReg (v : Drover) (r : Nat) : Word := if r = 0 then 0 else sGet 0 v.regs r

/-- A work register written; writes to w0 are discarded. -/
def wSet (v : Drover) (r : Nat) (x : Word) : Drover := if r = 0 then v else { v with regs := sPut 0 v.regs r x }

/-- The bytes of instruction memory. -/
def imSize : Nat := 0x20000

/-- The address of a byte of drover n's instruction memory. -/
def imBase (n : Nat) : Nat := 0x700000 + n * imSize

/-- The address of drover n's data memory. -/
def dmBase (n : Nat) : Nat := 0x780000 + n * 0x10000

/-! ### Traps (R250) -/

/-- A trap: TRAPPED, with its cause, its code, the pc and the address recorded; the open set is discarded, the source raised. -/
def takeTrap (d : Dev) (n cause code pc : Nat) (a : Word) : Dev :=
  let d1 := onDrv d n (fun v => { v with
    state := .trapped, sleep := none, openSet := none, load := none, failed := none, haltDue := false })
  report (put (put (put d1 .drv n 0x10 (BitVec.ofNat 32 (code % 2048 * 2 ^ 16 + cause))) .drv n 0x14 (BitVec.ofNat 32 (pc % imSize)))
    .drv n 0x18 a) (103 + n)

/-- An instruction retires with the drover's record changed: the pc moves on, and past the end of the instruction memory the drover
traps with cause FETCH (R226). -/
def retireWith (d : Dev) (n : Nat) (f : Drover → Drover) : Dev :=
  let pc := (drvOf d n).pc
  if pc + 4 < imSize then onDrv d n (fun v => { f v with pc := pc + 4 })
  else takeTrap (onDrv d n f) n 2 0 pc (BitVec.ofNat 32 (pc + 4))

/-- An instruction retires that writes register r. -/
def retireReg (d : Dev) (n r : Nat) (x : Word) : Dev := retireWith d n (fun v => wSet v r x)

/-- A drover stops before the instruction at its pc: a trap with no code. -/
def trapHere (d : Dev) (n cause : Nat) (a : Word) : Dev := takeTrap d n cause 0 (drvOf d n).pc a

/-! ### Fetch (R208, R214, R216) -/

/-- The drover executes instructions: RUNNING, its domain on, no load outstanding. -/
def canRun (d : Dev) (n : Nat) : Bool :=
  decide ((drvOf d n).state = .running) && decide ((drvOf d n).load = none) && (decide (n = 0) || domainOn d (39 + n))

/-- The word at the pc. -/
def fetchWord (d : Dev) (n : Nat) : Word := BitVec.ofNat 32 (memVal d 4 (imBase n + (drvOf d n).pc))

/-- The fetch of a word succeeds: no store's error waits for the boundary, the pc is in range, the memory line is good. -/
def fetchOk (d : Dev) (n : Nat) : Bool :=
  decide ((drvOf d n).failed = none) && decide ((drvOf d n).pc < imSize) && !(badAt d (imBase n + (drvOf d n).pc))

/-- What stops a drover whose fetch does not succeed (R214, R223, R226). -/
def fetchTrap (d : Dev) (n : Nat) : Dev :=
  let v := drvOf d n
  match v.failed with
  | some (pc, a) => takeTrap d n 5 0 pc (BitVec.ofNat 32 a)
  | none =>
    if v.pc < imSize then takeTrap d n 8 0 v.pc (BitVec.ofNat 32 (lineOf (imBase n + v.pc)))
    else takeTrap d n 2 0 (v.pc - 4) (BitVec.ofNat 32 v.pc)

/-- One instruction of drover n that belongs to a row: it runs where the word at the pc spells that row, and traps with cause ILLEGAL
where a field is wrong (R216); where the word spells another row, or the drover does not execute, nothing happens. -/
def droverStep (d : Dev) (n : Nat) (row : JRow) (f : Word → Dev) : Dev :=
  if !(canRun d n) then d
  else if !(fetchOk d n) then fetchTrap d n
  else if rowOf (fetchWord d n) ≠ row then d
  else if !(legalWord (fetchWord d n)) then trapHere d n 1 0
  else f (fetchWord d n)

/-! ### Arithmetic, branches and jumps (R218, R219, R225, R226) -/

/-- An RR arithmetic or logic instruction. -/
def doAlu (d : Dev) (n : Nat) (row : JRow) : Dev :=
  droverStep d n row (fun w =>
    let v := drvOf d n
    retireReg d n (fieldA w) (aluOf row (wReg v (fieldB w)) (wReg v (fieldC w))))

/-- ADDI. -/
def doAddi (d : Dev) (n : Nat) : Dev :=
  droverStep d n .addi (fun w => retireReg d n (fieldA w) (wReg (drvOf d n) (fieldB w) + wordOf (imm18 w)))

/-- LUI. -/
def doLui (d : Dev) (n : Nat) : Dev :=
  droverStep d n .lui (fun w => retireReg d n (fieldA w) (BitVec.ofNat 32 (fld w 31 14 * 2 ^ 14)))

/-- A jump to an address that links into register r: it traps with cause FETCH where the target is no instruction address. -/
def jumpTo (d : Dev) (n : Nat) (t : Word) (r : Nat) : Dev :=
  let v := drvOf d n
  if t.toNat % 4 ≠ 0 ∨ imSize ≤ t.toNat then trapHere d n 2 t
  else onDrv d n (fun x => { wSet x r (BitVec.ofNat 32 (v.pc + 4)) with pc := t.toNat })

/-- The target of a BR word at the pc. -/
def branchTarget (d : Dev) (n : Nat) (w : Word) : Word := wordOf ((drvOf d n).pc + 4 * imm18 w)

/-- A conditional branch. -/
def doBranch (d : Dev) (n : Nat) (row : JRow) : Dev :=
  droverStep d n row (fun w =>
    let v := drvOf d n
    if condOf row (wReg v (fieldA w)) (wReg v (fieldB w)) then jumpTo d n (branchTarget d n w) 0 else retireWith d n id)

/-- JAL. -/
def doJal (d : Dev) (n : Nat) : Dev := droverStep d n .jal (fun w => jumpTo d n (branchTarget d n w) 15)

/-- JR. -/
def doJr (d : Dev) (n : Nat) : Dev := droverStep d n .jr (fun w => jumpTo d n (wReg (drvOf d n) (fieldB w)) (fieldA w))

/-! ### Loads and stores (R210, R220–R224) -/

/-- The path an address takes from drover n. -/
inductive Path where
  | own | shared | pan | bus
deriving DecidableEq, Repr, Inhabited

/-- The region of R210 that holds an address: own data memory, shared memory, the pan, or the register crossbar, which also answers for
addresses that nothing lies at. -/
def pathOf (n a : Nat) : Path :=
  if dmBase n ≤ a ∧ a < dmBase n + 0x10000 then .own
  else if 0x7C0000 ≤ a ∧ a < 0x800000 then .shared
  else if inPan a then .pan
  else .bus

/-- The effective address of an RI word. -/
def effAddr (d : Dev) (n : Nat) (w : Word) : Nat := (wReg (drvOf d n) (fieldB w) + wordOf (imm18 w)).toNat

/-- A pan access joins its bank's queue, or is answered at once with an error where the bank has no power (R171, R378). -/
def panIssue (d : Dev) (r : PanReq) : Dev :=
  if bankOn d (panBank (r.addr - panBase)) then { d with panReqs := d.panReqs ++ [r] }
  else panReply (rejected d (2 + r.drover) (if r.write then .write else .read) r.addr) r none

/-- A load of `width` bytes: from local memory at once, else its response is awaited. -/
def doLoad (d : Dev) (n : Nat) (row : JRow) (width : Nat) : Dev :=
  droverStep d n row (fun w =>
    let a := effAddr d n w
    let wait := { addr := a, width := width, rd := fieldA w, pc := (drvOf d n).pc : PendingLoad }
    if a % width ≠ 0 then trapHere d n 3 (BitVec.ofNat 32 a)
    else match pathOf n a with
      | .own =>
        if badAt d a then trapHere d n 8 (BitVec.ofNat 32 (lineOf a))
        else retireReg d n (fieldA w) (BitVec.ofNat 32 (memVal d width a))
      | .shared =>
        if badAt d a then trapHere (reportAcc d 140 (2 + n) .read (lineOf a)) n 4 (BitVec.ofNat 32 a)
        else retireReg d n (fieldA w) (BitVec.ofNat 32 (memVal d width a))
      | .pan =>
        panIssue (onDrv d n (fun v => { v with load := some wait }))
          { drover := n, addr := a, width := width, write := false, pc := (drvOf d n).pc }
      | .bus => onDrv d n (fun v => { v with load := some wait }))

/-- A store of `width` bytes: local memory at once, else posted into the store queue; a full queue stalls it (R222). -/
def doStore (d : Dev) (n : Nat) (row : JRow) (width : Nat) : Dev :=
  droverStep d n row (fun w =>
    let v := drvOf d n
    let a := effAddr d n w
    let x := wReg v (fieldA w)
    let posted := { addr := a, data := x, width := width, pc := v.pc : PostedStore }
    if a % width ≠ 0 then trapHere d n 3 (BitVec.ofNat 32 a)
    else match pathOf n a with
      | .own =>
        if width < 4 ∧ badAt d a then trapHere d n 8 (BitVec.ofNat 32 (lineOf a))
        else retireWith (memWrite d a (leBytes width x.toNat)) n id
      | .shared =>
        if width < 4 ∧ badAt d a then trapHere (reportAcc d 140 (2 + n) .write (lineOf a)) n 5 (BitVec.ofNat 32 a)
        else retireWith (memWrite d a (leBytes width x.toNat)) n id
      | .pan =>
        if 8 ≤ v.stores.length then d
        else panIssue (retireWith d n (fun v => { v with stores := v.stores ++ [posted] }))
          { drover := n, addr := a, width := width, write := true, data := x, pc := v.pc }
      | .bus =>
        if 8 ≤ v.stores.length then d else retireWith d n (fun v => { v with stores := v.stores ++ [posted] }))

/-- A store's error response takes effect now where the drover is at an instruction boundary of a running program, else at the next one
(R223). -/
def storeFailed (d : Dev) (n pc a : Nat) : Dev :=
  let v := drvOf d n
  if v.state = .running ∧ v.load = none then takeTrap d n 5 0 pc (BitVec.ofNat 32 a)
  else if v.state = .trapped ∨ v.state = .reset then d
  else onDrv d n (fun v => { v with failed := some (v.failed.getD (pc, a)) })

/-- A boundary has been reached: an error response that waited takes effect, and else a halt that waited (R223, R252). -/
def atBoundary (d : Dev) (n : Nat) : Dev :=
  match (drvOf d n).failed with
  | some (pc, a) => if (drvOf d n).state = .running then takeTrap d n 5 0 pc (BitVec.ofNat 32 a) else d
  | none =>
    if (drvOf d n).haltDue && decide ((drvOf d n).state = .running) then onDrv d n (fun v => { v with state := .halted, haltDue := false })
    else d

/-- The load's answer arrives: data into rd, or LOAD_ERR (R221). -/
def loadAnswer (d : Dev) (n : Nat) (l : PendingLoad) (v : Option Word) : Dev :=
  let d1 := onDrv d n (fun x => { x with load := none })
  match v with
  | some x => atBoundary (retireReg d1 n l.rd x) n
  | none => takeTrap d1 n 4 0 l.pc (BitVec.ofNat 32 l.addr)

/-- An address of drover n's own instruction memory. -/
def ownInstr (n a : Nat) : Bool := decide (imBase n ≤ a) && decide (a < imBase n + imSize)

/-- The response of drover n's load: one from the pan when its visit has come, one from the crossbar after every earlier store there; an
uncorrectable line of its own instruction memory traps it with cause ECC, after the access has passed the crossbar (R213, R214, R221, R227). -/
def loadResponse (e : Env) (d : Dev) (n : Nat) : Dev :=
  match (drvOf d n).load with
  | none => d
  | some l =>
    if inPan l.addr then
      match l.reply with
      | some v => loadAnswer d n l v
      | none => d
    else if (drvOf d n).stores.any (fun s => !(inPan s.addr)) then d
    else if ownInstr n l.addr ∧ badAt d l.addr then takeTrap (breakPair d (2 + n) l.addr false l.width) n 8 0 l.pc (BitVec.ofNat 32 (lineOf l.addr))
    else
      let r := busRead e d (2 + n) l.width l.addr
      loadAnswer r.2 n l r.1

/-- The response of posted store i of drover n: stores to the crossbar complete in program order (R223, R227). -/
def storeResponse (e : Env) (d : Dev) (n i : Nat) : Dev :=
  match (drvOf d n).stores[i]? with
  | none => d
  | some s =>
    let gone := fun (d : Dev) => onDrv d n (fun v => { v with stores := v.stores.eraseIdx i })
    if inPan s.addr then
      match s.reply with
      | some true => gone d
      | some false => storeFailed (gone d) n s.pc s.addr
      | none => d
    else if ((drvOf d n).stores.take i).any (fun q => !(inPan q.addr)) then d
    else
      let r := busWrite e (gone d) (2 + n) s.width s.addr s.data
      if r.1 then r.2 else storeFailed r.2 n s.pc s.addr

/-- Every earlier access of the drover is complete (R228). -/
def fenceDone (d : Dev) (n : Nat) : Bool := decide ((drvOf d n).stores = [])

/-- FENCE. -/
def doFence (d : Dev) (n : Nat) : Dev := droverStep d n .fence (fun _ => if fenceDone d n then retireWith d n id else d)

/-! ### Events (R232–R236) -/

/-- The events a drover enables. -/
def eventsOn (d : Dev) (n : Nat) : Nat := (get d .drv n 0x20).toNat + (get d .drv n 0x24).toNat * 2 ^ 32

/-- An occurrence reaches drover n: pending, or an overrun (R232, R233). -/
def eventReaches (d : Dev) (ev n : Nat) : Dev :=
  if !((eventsOn d n).testBit ev) then d
  else if !((drvOf d n).pend.testBit ev) then onDrv d n (fun v => { v with pend := v.pend + 2 ^ ev })
  else
    let d1 := putF (addSat d .drv n 0x30 31 16 1) .drv n 0x30 5 0 ev
    if (drvOf d n).ovrArm then onDrv (reportAt d1 107 (unitBase .drv n)) n (fun v => { v with ovrArm := false }) else d1

/-- The oldest occurrence of an event that is on its way reaches the drovers it is for; nothing where none is on its way. -/
def eventPending (d : Dev) (ev : Nat) : Dev :=
  match d.events.find? (fun x => decide (x.num = ev)), findIdx? (fun (x : Ev) => decide (x.num = ev)) d.events with
  | some x, some i =>
    let d1 := { d with events := d.events.eraseIdx i }
    match x.drover with
    | some n => eventReaches d1 ev n
    | none => forN 4 (fun d n => eventReaches d ev n) d1
  | _, _ => d

/-- The wanted events of a WAIT word. -/
def wanted64 (v : Drover) (w : Word) : Nat := (wReg v (fieldB w)).toNat + (wReg v (fieldC w)).toNat * 2 ^ 32

/-- WAIT consumes an event into register r, and the watchdog restarts (R234, R235). -/
def consume (d : Dev) (n r ev : Nat) : Dev :=
  retireWith d n (fun v => wSet { v with pend := v.pend - 2 ^ ev, wdog := 0 } r (BitVec.ofNat 32 ev))

/-- WAIT: the lowest pending wanted event, or sleep (R234). -/
def doWait (d : Dev) (n : Nat) : Dev :=
  droverStep d n .wait (fun w =>
    let v := drvOf d n
    let m := wanted64 v w
    if m &&& eventsOn d n = 0 then trapHere d n 1 0
    else match lowestBit (v.pend &&& m) with
      | some ev => consume d n (fieldA w) ev
      | none => onDrv d n (fun v => { v with state := .waiting, sleep := some { mask := m, rd := fieldA w }, wdog := 0 }))

/-- WAIT with poll: the lowest pending wanted event, or 0xFFFF_FFFF (R234). -/
def doWaitPoll (d : Dev) (n : Nat) : Dev :=
  droverStep d n .waitPoll (fun w =>
    let v := drvOf d n
    match lowestBit (v.pend &&& wanted64 v w) with
    | some ev => consume d n (fieldA w) ev
    | none => retireReg (onDrv d n (fun v => { v with wdog := 0 })) n (fieldA w) 0xFFFFFFFF)

/-- A sleeping WAIT retires once a wanted event is pending (R234). -/
def waitWake (d : Dev) (n : Nat) : Dev :=
  let v := drvOf d n
  match v.state, v.sleep with
  | .waiting, some s =>
    match lowestBit (v.pend &&& s.mask) with
    | some ev => atBoundary (consume (onDrv d n (fun v => { v with state := .running, sleep := none })) n s.rd ev) n
    | none => d
  | _, _ => d

/-- `us` more microseconds of CORE time pass for drover n: in RUNNING its watchdog counts them since its restart, and at the limit the
drover traps (R235). CORE time passes for the watchdog here alone: DESIGN CHOICE, log entry 106. -/
def watchdogExpire (d : Dev) (n us : Nat) : Dev :=
  let limit := getF d .drv n 0x40 15 0
  let t := (drvOf d n).wdog + us
  if (drvOf d n).state ≠ .running ∨ limit = 0 then d
  else if limit ≤ t then trapHere d n 10 0
  else onDrv d n (fun v => { v with wdog := t })

/-- POST: fence, then a doorbell (R229, R236). -/
def doPost (d : Dev) (n : Nat) : Dev :=
  droverStep d n .post (fun w =>
    let x := wReg (drvOf d n) (fieldB w)
    let ev := fld x 5 0
    if !(fenceDone d n) then d
    else if ev < 47 then trapHere d n 7 x
    else raise (retireWith d n id) ev)

/-! ### Messages (R237–R240) -/

/-- A message buffer of `len` bytes at an address lies in the drover's own data memory or in the shared memory. -/
def bufferOk (n a len : Nat) : Bool :=
  (decide (dmBase n ≤ a) && decide (a + len ≤ dmBase n + 0x10000)) || (decide (0x7C0000 ≤ a) && decide (a + len ≤ 0x800000))

/-- The trap that an address of SEND or RECV takes, if any. -/
def bufferTrap (d : Dev) (n a len : Nat) : Option Dev :=
  if a % 4 ≠ 0 then some (trapHere d n 3 (BitVec.ofNat 32 a))
  else if !(bufferOk n a len) then some (trapHere d n 4 (BitVec.ofNat 32 a))
  else none

/-- Some byte of a range lies on an uncorrectable line. -/
def badRange (d : Dev) (a len : Nat) : Option Nat := ((List.range len).map (fun i => lineOf (a + i))).find? (fun l => d.badLines.contains l)

/-- SEND (R238; spec/09_caravan_link.md R276, R286). -/
def doSend (d : Dev) (n : Nat) : Dev :=
  droverStep d n .send (fun w =>
    let v := drvOf d n
    let p := imm11 w
    let a := (wReg v (fieldB w)).toNat
    let len := (wReg v (fieldC w)).toNat
    let read := if 1 ≤ len ∧ len ≤ 32 then len else 1
    if portOwner d p ≠ some n then trapHere d n 6 (BitVec.ofNat 32 p)
    else match bufferTrap d n a read with
      | some t => t
      | none =>
        if len = 0 ∨ 32 < len then retireReg d n (fieldA w) 2
        else match badRange d a len with
          | some l =>
            if pathOf n a = .own then trapHere d n 8 (BitVec.ofNat 32 l)
            else trapHere (reportAcc d 140 (2 + n) .read l) n 4 (BitVec.ofNat 32 a)
          | none =>
            let m := memBytes d a len
            let t := (m.headD 0).toNat
            if 2 ≤ p ∧ t ≠ 0x48 ∧ t ≠ 0x4B then retireReg d n (fieldA w) 2
            else if 8 ≤ (vget d.boxes p).outbox.length then retireReg d n (fieldA w) 1
            else retireReg (refill (onBox d p (fun b => { b with outbox := b.outbox ++ [m] }))) n (fieldA w) 0)

/-- RECV (R240). -/
def doRecv (d : Dev) (n : Nat) : Dev :=
  droverStep d n .recv (fun w =>
    let v := drvOf d n
    let p := imm11 w
    let a := (wReg v (fieldB w)).toNat
    if portOwner d p ≠ some n then trapHere d n 6 (BitVec.ofNat 32 p)
    else match bufferTrap d n a 32 with
      | some t => t
      | none =>
        match (vget d.boxes p).inbox with
        | [] => retireReg d n (fieldA w) 0
        | m :: rest =>
          retireReg (memWrite (onBox d p (fun b => { b with inbox := rest })) a (m ++ List.replicate (32 - m.length) 0)) n (fieldA w)
            (BitVec.ofNat 32 m.length))

/-! ### Time (R241, R242) -/

/-- TIME with selector 0: a snapshot, and linear nanoseconds [31:0]. -/
def doTimeSnapshot (e : Env) (d : Dev) (n : Nat) : Dev :=
  droverStep d n .timeSnapshot (fun w =>
    retireReg (onDrv d n (fun v => { v with snap := e.now })) n (fieldA w) (BitVec.ofNat 32 (e.now / 2 ^ 30)))

/-- What selector s of TIME reads of a snapshot t. -/
def timePart (hold : Bool) (t s : Nat) : Nat :=
  if s = 1 then t / 2 ^ 62 % 256
  else if s = 2 then secOf t
  else if s = 3 then secOf t / 2 ^ 32
  else if s = 4 then nsOf t
  else if s = 5 then fracOf t
  else bnat hold

/-- TIME with another selector. -/
def doTimeRead (e : Env) (d : Dev) (n : Nat) : Dev :=
  droverStep d n .timeRead (fun w => retireReg d n (fieldA w) (BitVec.ofNat 32 (timePart e.hold (drvOf d n).snap (imm11 w))))

/-- ARM (R242). -/
def doArm (d : Dev) (n : Nat) : Dev :=
  droverStep d n .arm (fun w =>
    let v := drvOf d n
    let t := fld (wReg v (fieldC w)) 7 0 * 2 ^ 32 + (wReg v (fieldB w)).toNat
    if cycleOn d (imm11 w) then retireReg d n (fieldA w) 1
    else retireReg (onCompare d (imm11 w) (fun c => { c with armed := true, target := t })) n (fieldA w) 0)

/-- DISARM (R242). -/
def doDisarm (d : Dev) (n : Nat) : Dev :=
  droverStep d n .disarm (fun w => retireReg (onCompare d (imm11 w % 4) (fun c => { c with armed := false })) n (fieldA w) 0)

/-! ### Staged sets (R243–R247) -/

/-- STAGE.T (R244). -/
def doStageT (d : Dev) (n : Nat) : Dev :=
  droverStep d n .stageT (fun w =>
    retireWith d n (fun v => { v with
      openSet := some { ctx := fld (wReg v (fieldB w)) 3 0, epoch := fld (wReg v (fieldC w)) 15 0 } }))

/-- An entry is appended to a set, or marks it overflowed: `held` is what the drover's sets hold in all. -/
def stageEntry (s : StagedSet) (held : Nat) (x : Nat × Word) : StagedSet :=
  if 64 ≤ s.entries.length ∨ 256 ≤ held then { s with overflow := true } else { s with entries := s.entries ++ [x] }

/-- STAGE (R244). -/
def doStage (d : Dev) (n : Nat) : Dev :=
  droverStep d n .stage (fun w =>
    retireWith d n (fun v => { v with
      openSet := v.openSet.map (fun s => stageEntry s (entriesHeld v) ((wReg v (fieldB w)).toNat, wReg v (fieldC w))) }))

/-- An entry's view names a context in its live VIEW_CFG or in an entry of the same set. -/
def viewNamed (d : Dev) (s : StagedSet) (v : Nat) : Bool :=
  decide (getF d .view v 0 11 8 = s.ctx) ||
  s.entries.any (fun x => decide (x.1 = unitBase .view v) && decide (fld x.2 11 8 = s.ctx))

/-- An entry holds the address of a staged register of the target context or of one of its views (R246). -/
def entryOk (d : Dev) (s : StagedSet) (x : Nat × Word) : Bool :=
  decide (x.1 % 4 = 0) && decide (rwsMask x.1 ≠ 0) &&
  (match unitAt x.1 with
    | some (.ctx, c, _) => decide (c = s.ctx)
    | some (.view, v, _) => viewNamed d s v
    | _ => false)

/-- The lowest handle that names no armed set. -/
def freeHandle (v : Drover) : Option Nat := (List.range 8).find? (fun h => v.armed.all (fun s => decide (s.handle ≠ h)))

/-- COMMIT's code for an open set that fails, in the order of R245; none where it passes. -/
def commitCode (d : Dev) (v : Drover) (s : StagedSet) : Option Word :=
  if s.overflow then some 0xFFFFFFFC
  else if !(getB d .ctx s.ctx 0 0) then some 0xFFFFFFFB
  else if !(s.entries.all (entryOk d s)) then some 0xFFFFFFFE
  else if 8 ≤ v.armed.length then some 0xFFFFFFFD
  else none

/-- COMMIT (R245, R246). -/
def doCommit (d : Dev) (n : Nat) : Dev :=
  droverStep d n .commit (fun w =>
    let v := drvOf d n
    match v.openSet with
    | none => retireReg d n (fieldA w) 0xFFFFFFFF
    | some s =>
      let d1 := onDrv d n (fun v => { v with openSet := none })
      match commitCode d v s, freeHandle v with
      | none, some h =>
        let late := epochReached (getF d .ctx s.ctx 0x704 15 0) s.epoch
        retireReg (onDrv { d1 with commitNo := d.commitNo + 1 } n (fun v => { v with
          armed := v.armed ++ [{ s with handle := h, order := d.commitNo }] })) n (fieldA w)
          (BitVec.ofNat 32 (h + 256 * bnat late))
      | some c, _ => retireReg d1 n (fieldA w) c
      | none, none => retireReg d1 n (fieldA w) 0xFFFFFFFD)

/-! ### TRAP, HALT, illegal words (R216, R250, R251) -/

/-- TRAP. -/
def doTrap (d : Dev) (n : Nat) : Dev := droverStep d n .trap (fun w => takeTrap d n 9 (imm11 w) (drvOf d n).pc 0)

/-- HALT. -/
def doHalt (d : Dev) (n : Nat) : Dev :=
  droverStep d n .halt (fun _ =>
    if n = 0 then trapHere d n 1 0 else onDrv d n (fun v => { v with state := .halted, pc := v.pc + 4 }))

/-- A word whose opcode is not in the opcode map. -/
def doIllegal (d : Dev) (n : Nat) : Dev := droverStep d n .illegal (fun _ => d)

end Sys2Proof.Machine
end

