-- ==== Sys2Proof/Machine/Load.lean ====
section
/-! DEFINITION. Loading a bundle that passed VERIFY (spec/08_drover_programs.md R256; spec/15_boot_identity_heads.md R443). -/

namespace Sys2Proof.Machine

/-- The bytes of a component, from the download buffer. -/
def compBytes (d : Dev) (c : Component) : List Byte := panBytes d (bufBase d + c.offset) c.length

/-- The program of a drover in a bundle: the customs program of drover 0, an application program of drovers 1–3 (R441). -/
def programOf (b : Bundle) (n : Nat) : Option Component :=
  b.comps.find? (fun c => if n = 0 then decide (c.kind = 1) else decide (c.kind = 2) && decide (c.target = n))

/-- Step 1 of R256: the domain of drover n is wanted and on where the bundle gives it a program. -/
def powerDrover (b : Bundle) (d : Dev) (n : Nat) : Dev :=
  if (programOf b n).isSome then setDomain (putF d .power 0 0x18 (6 + n) (6 + n) 1) (39 + n) true else d

/-- A drover has power. -/
def drvPowered (d : Dev) (n : Nat) : Bool := decide (n = 0) || domainOn d (39 + n)

/-- Step 2 of R256: the data memories of powered drovers and the shared memory are filled with zeros. -/
def zeroMemories (d : Dev) : Dev :=
  eraseMem (forN 4 (fun d n => if drvPowered d n then eraseMem d (0x780000 + n * 0x10000) 0x10000 else d) d) 0x7C0000 0x40000

/-- Step 3 of R256: one image of a drover memory. A data memory image of a drover without power is rejected and logged
(spec/12_register_access.md R359), as one write: DESIGN CHOICE, log entry 107. -/
def loadImage (d : Dev) (c : Component) : Dev :=
  let bs := compBytes d c
  if c.kind = 1 then memWrite d (0x700000 + c.load) bs
  else if c.kind = 2 then memWrite d (0x700000 + c.target * 0x20000 + c.load) bs
  else if c.kind = 3 then
    let a := 0x780000 + c.target * 0x10000 + c.load
    if drvPowered d c.target then memWrite d a bs else rejected d 6 .write a
  else if c.kind = 4 then memWrite d (0x7C0000 + c.load) bs
  else d

/-- A pan image (R443). -/
def loadPan (d : Dev) (c : Component) : Dev := if c.kind = 5 then panWrite d c.load (compBytes d c) else d

/-- The pairs of address and value of a register script. -/
def scriptPairs : Nat → List Byte → List (Nat × Word)
  | 0, _ => []
  | n + 1, l => (leVal (l.take 4), BitVec.ofNat 32 (leVal ((l.drop 4).take 4))) :: scriptPairs n (l.drop 8)

/-- The register script, applied as master 6; a rejected write is logged and the script goes on (R443). -/
def runScript (e : Env) (d : Dev) (c : Component) : Dev :=
  if c.kind = 6 then
    (scriptPairs (c.length / 8) (compBytes d c)).foldl (fun d q => (busWrite e d 6 4 q.1 q.2).2) d
  else d

/-- Step 4 of R256: DRV_START of a powered drover, from the entry point of its program. -/
def setStart (b : Bundle) (d : Dev) (n : Nat) : Dev :=
  match programOf b n with
  | some c => if drvPowered d n then putF d .drv n 4 16 2 (c.entry / 4) else d
  | none => d

/-- What BOOT_STATUS, BOOT_BUNDLE and the measurement log say of a bundle that was loaded (R447). -/
def showBundle (d : Dev) (b : Bundle) (source : Nat) : Dev :=
  onSec (put (putF d .boot 0 0 9 8 source) .boot 0 4 (packFields [(b.serial % 65536, 16), (b.slot % 256, 8), (b.secver % 256, 0)]))
    (fun s => { s with log := b.comps.map (fun c => { kind := c.kind, target := c.target, replaced := false, hash := c.hash }) })

/-- The boot ROM loads the components and runs drover 0; the device enters TRAIN and the trunk trains as strapped (R256, R443; R315). -/
def loadBundle (e : Env) (d : Dev) (b : Bundle) (source : Nat) : Dev :=
  let d1 := forN 3 (fun d i => powerDrover b d (i + 1)) d
  let d2 := b.comps.foldl loadImage (zeroMemories d1)
  let d3 := b.comps.foldl (runScript e) (b.comps.foldl loadPan d2)
  let d4 := droverRun (forN 4 (setStart b) d3) 0
  act (trunkTrain (romDone (bootStage (showBundle d4 b source) .done)) e.straps.trunk) (.mode (modeCode .train))

/-- LOAD_DONE. -/
def loadDone (e : Env) (d : Dev) : Dev :=
  match d.boot.stage, d.boot.bundle with
  | .loading source, some b => if e.mode = .verify then loadBundle e d b source else d
  | _, _ => d

end Sys2Proof.Machine
end

