-- ==== Sys2Proof/Machine/Packets.lean ====
section
/-! DEFINITION. CSI-2 packets at a port: frame starts and ends, image lines, embedded lines, ignored short packets, stuck lanes
(spec/02_intake.md R38–R46, R52–R63). -/

namespace Sys2Proof.Machine

/-- A port's channel waits for the frame start that follows a reset of the receiver, and delivers nothing before it (R40; log 97). -/
def vcWaits (d : Dev) (p v : Nat) : Bool := (vget d.ports p).waits.contains v

/-- The open frames of a context's exposures on a channel follow the routes that have just applied there (R43, R150). -/
def followRoutes (d : Dev) (p v : Nat) : Dev :=
  (ctxsOnVc d p v).foldl (fun d c => if (vget d.ctxs c).phase = .open then
    onLast d c (fun f => { f with widths := expWidths d p c f.exps.length }) else d) d

/-- A frame start short packet on channel v (R39, R43, R45, R46): routes apply, and each context whose exposure 0 arrives there starts. -/
def frameStartPacket (e : Env) (d : Dev) (p v : Nat) (h : Header) : Dev :=
  if !(portLive d p && vcSeen d p v) then d
  else
    let d1 := headerSeen d p h
    if h = .bad then d1
    else
      let d2 := followRoutes (applyRoutes (onPort d1 p (fun x => { x with waits := x.waits.filter (fun k => decide (k ≠ v)) })) p v) p v
      ((ctxsOnVc d2 p v).filter (carriesExp0 d2 p v)).foldl (fun d c => viewsFrameStart e.mode (ctxFrameStart e d c) c) d2

/-- Every channel that carries an exposure of the context has ended (R46). -/
def allEnded (d : Dev) (p c : Nat) : Bool := (exposureVcs d p c).all (fun v => (vget d.ctxs c).endedVcs.contains v)

/-- The frame end of a context is seen on one more channel; on the last it is the context's frame end (R46; spec/14_two_wire.md R431). -/
def endSeen (e : Env) (d : Dev) (p v c : Nat) : Dev :=
  let d1 := onCtx d c (fun x => { x with endedVcs := x.endedVcs ++ [v] })
  if allEnded d1 p c then onCtx d1 c (fun x => { x with lastEnd := some e.cycles }) else d1

/-- A frame end reaches a context (R46, R56, R57). -/
def ctxFrameEnd (e : Env) (d : Dev) (p v c : Nat) : Dev :=
  let ph := (vget d.ctxs c).phase
  let d1 := endSeen e d p v c
  match ph with
  | .noFrame | .orphan => stat d .ctx c 0x14 0x400
  | .open => if allEnded d1 p c then frameEndReached d1 c else d1
  | .closed | .dropped =>
    if allEnded d1 p c then onCtx d1 c (fun x => { x with phase := .noFrame, endedVcs := [] }) else d1

/-- A frame end short packet on channel v (R39, R45, R46). -/
def frameEndPacket (e : Env) (d : Dev) (p v : Nat) (h : Header) : Dev :=
  if !(portLive d p && vcSeen d p v) then d
  else
    let d1 := headerSeen d p h
    if h = .bad || vcWaits d1 p v then d1 else (ctxsOnVc d1 p v).foldl (fun d c => ctxFrameEnd e d p v c) d1

/-- Image data types (R38). -/
def isImageDt (dt : Nat) : Bool := [0x2A, 0x2B, 0x2C, 0x2D, 0x2E, 0x2F, 0x27].contains dt || isUserDt dt

/-- Every data type that a port accepts (R38). -/
def dtAccepted (dt : Nat) : Bool := decide (dt ≤ 3) || (decide (8 ≤ dt) && decide (dt ≤ 15)) || decide (dt = 0x12) || isImageDt dt

/-- The route entry that takes a long packet (R44). -/
def routeFor (d : Dev) (p v dt : Nat) : Option Route := (routes d p).find? (fun r => r.valid && decide (r.vc = v) && decide (r.dt = dt))

/-- A payload CRC failed. -/
def crcFailed (d : Dev) (p : Nat) : Dev := addSat (stat d .csi p 4 8) .csi p 0xC 31 16 1

/-- An image line for exposure e of the open frame of a context: unpacked and accepted (R38), concealed (R54), or beyond what is expected
(R55). A line of an exposure that the context does not have is beyond it too (DESIGN CHOICE, log 98). -/
def lineForExp (d : Dev) (c e : Nat) (bits : Nat) (payload : List Byte) (good : Bool) : Dev :=
  match openFrame d c with
  | none => d
  | some f =>
    if f.exps.length ≤ e ∨ frameHeight f ≤ (f.exps.getD e []).length then extraLine d c
    else if good && decide (payload.length * 8 = frameWidth f * bits) then
      acceptRow d c e { bits := bits, codes := unpackCodes bits payload, black := false } payload false
    else conceal d c e

/-- The interleave offset of exposure e of a frame (CTX_ILV). -/
def offOf (f : Frame) (e : Nat) : Nat := if e = 0 then 0 else fld (pw f.params 8) (8 * e - 1) (8 * (e - 1))

/-- The largest interleave offset of a frame (R51). -/
def offMax (f : Frame) : Nat := (List.range f.exps.length).foldl (fun a e => max a (offOf f e)) 0

/-- An image line of all exposures in sequence (R53): row slots of one line per exposure, with padding. -/
def lineInSequence (d : Dev) (c : Nat) (bits : Nat) (payload : List Byte) (good : Bool) : Dev :=
  match openFrame d c with
  | none => d
  | some f =>
    let n := max 1 f.exps.length
    let e := f.slotLines % n
    let r := f.slotLines / n
    let d1 := onLast d c (fun f => { f with slotLines := f.slotLines + 1 })
    if frameHeight f + offMax f ≤ r then extraLine d1 c
    else if r < offOf f e ∨ frameHeight f + offOf f e ≤ r then d1
    else lineForExp d1 c e bits payload good

/-- An embedded line for a context with a frame open (R62, R63): kept without its packing bytes. -/
def embeddedLine (d : Dev) (c : Nat) (payload : List Byte) (good : Bool) : Dev :=
  match openFrame d c with
  | none => d
  | some f =>
    let cfg := pw f.params 0x80
    let keep := fun (d : Dev) (i : Nat) => if good then onCtx d c (fun x => { x with embedded := x.embedded ++ [(i, edUnpack (fld cfg 9 8) payload)] }) else d
    let x := vget d.ctxs c
    if touchedRows f = 0 then
      if x.edTop < fld cfg 2 0 then keep (onCtx d c (fun x => { x with edTop := x.edTop + 1 })) x.edTop else extraLine d c
    else if x.edBottom < fld cfg 6 4 then
      keep (onCtx d c (fun x => { x with edBottom := x.edBottom + 1 })) (fld cfg 2 0 + x.edBottom)
    else extraLine d c

/-- An image line reaches its context: orphan, discarded, cut by an overflow of the elastic buffer, or written (R41, R44, R53–R56). The
route's role says whether it carries one exposure or all in sequence; CTX_CFG.exp_mode is not read where the two disagree (DESIGN CHOICE,
log 99). -/
def imageLine (e : Env) (d : Dev) (r : Route) (payload : List Byte) (good overflow : Bool) : Dev :=
  match (vget d.ctxs r.ctx).phase with
  | .noFrame => orphanLine e d r.ctx
  | .open =>
    if overflow then closeFrame d r.ctx 6
    else if r.role = 2 then lineInSequence d r.ctx (packBits r.pack r.dt) payload good
    else lineForExp d r.ctx r.exposure (packBits r.pack r.dt) payload good
  | _ => d

/-- A long packet on a port (R38, R39, R44): its header, its CRC, its route. A packet lost to its header reaches no context, so an embedded line
lost so takes no line index, and the next one takes it (R62; DESIGN CHOICE, log 130). -/
def longPacket (d : Dev) (p v dt : Nat) (h : Header) (good : Bool) (f : Dev → Route → Dev) : Dev :=
  if !(portLive d p && vcSeen d p v) then d
  else
    let d1 := headerSeen d p h
    if h = .bad || vcWaits d1 p v then d1
    else
      let d2 := if good then d1 else crcFailed d1 p
      if !(dtAccepted dt) then unrouted d2 p
      else match routeFor d2 p v dt with
        | none => unrouted d2 p
        | some r => if ctxOn d2 p r.ctx then f d2 r else misroute d2 p

/-- A long packet of an image data type. Where its entry has the role embedded, it is read as an embedded line (DESIGN CHOICE, log 100). -/
def imagePacket (e : Env) (d : Dev) (p v dt : Nat) (h : Header) (payload : List Byte) (good overflow : Bool) : Dev :=
  longPacket d p v dt h good (fun d r =>
    if r.role = 1 then embeddedLine d r.ctx payload good else imageLine e d r payload good overflow)

/-- A long packet of embedded data. Where its entry has another role, it is dropped without a count (DESIGN CHOICE, log 100). -/
def embeddedPacket (d : Dev) (p v : Nat) (h : Header) (payload : List Byte) (good : Bool) : Dev :=
  longPacket d p v 0x12 h good (fun d r => if r.role = 1 then embeddedLine d r.ctx payload good else d)

/-- A line start, line end or generic short packet: accepted and ignored; another data type is unrouted (R38). -/
def shortPacket (d : Dev) (p v dt : Nat) (h : Header) : Dev :=
  if !(portLive d p && vcSeen d p v) then d
  else
    let d1 := headerSeen d p h
    if h = .bad || vcWaits d1 p v || dtAccepted dt then d1 else unrouted d1 p

/-- A stuck lane or trio (R40): frames close, the receiver resets, the source is raised. -/
def hsTimeout (d : Dev) (p : Nat) : Dev := if portLive d p then report (stat (portReset d p) .csi p 4 0xC0) (8 + p) else d

/-- The receiver reset of a port completes: each virtual channel resumes at its next frame start (R40). -/
def portResetDone (d : Dev) (p : Nat) : Dev :=
  if (vget d.ports p).resetting then onPort d p (fun x => { x with resetting := false, waits := List.range 16 }) else d

/-- A frame has not ended tmax after its start (R59). -/
def frameTimeout (d : Dev) (c : Nat) : Dev := closeFrame d c 3

end Sys2Proof.Machine
end

