-- ==== Sys2Proof/Machine/Requests.lean ====
section
/-! DEFINITION. The requests that arrive on TRET, executed one at a time in arrival order as master 1 (spec/09_caravan_link.md R287–R289;
spec/15_boot_identity_heads.md R439; spec/16_power_and_modes.md R464, R465). -/

namespace Sys2Proof.Machine

/-- The request at the front of the queue, when its type is t, the trunk group is READY (spec/10_lanes.md R315) and a response can be queued. -/
def frontRequest (d : Dev) (t : Nat) : Option Request :=
  match d.trunk.requests with
  | [] => none
  | r :: _ => if (r.head.getD 0 0).toNat = t ∧ r.status = 0 ∧ (vget d.groups 0).state = .ready ∧ roomH d then some r else none

/-- The front request is taken from the queue. -/
def popRequest (d : Dev) : Dev := onTrunk d (fun t => { t with requests := t.requests.drop 1 })

/-- Request fields: address, word count, data blocks, write value, ack, guarded. -/
def reqAddr (r : Request) : Nat := fieldAt r.head 4 4
def reqCount (r : Request) : Nat := fieldAt r.head 8 2
def reqLen (r : Request) : Nat := fieldAt r.head 10 2
def reqValue (r : Request) : Word := BitVec.ofNat 32 (fieldAt r.head 12 4)
def reqAck (r : Request) : Bool := (r.head.getD 28 0).toNat.testBit 0
def reqGuarded (r : Request) : Bool := (r.head.getD 28 0).toNat.testBit 1

/-- Word k of a request's data. -/
def reqWord (r : Request) (k : Nat) : Word := BitVec.ofNat 32 (fieldAt r.data (4 * k) 4)

/-- A request of type t is executed: f answers the response, if one is due, and the device after; those behind it that are answered with a
status alone then move up (R286). -/
def runRequest (d : Dev) (t : Nat) (f : Request → Dev → Dev) : Dev :=
  match frontRequest d t with
  | some r => refill (f r (popRequest d))
  | none => d

/-- A response with a status only. -/
def answer (d : Dev) (r : Request) (status addr count : Nat) : Dev := respond d r.head status addr count 0 []

/-- A response to a write: due when ack is set or the status is not 0. -/
def answerWrite (d : Dev) (r : Request) (status addr count : Nat) : Dev :=
  if reqAck r ∨ status ≠ 0 then answer d r status addr count else d

/-- REGRD. -/
def doRegRd (e : Env) (d : Dev) : Dev :=
  runRequest d 0x60 (fun r d =>
    if reqLen r ≠ 0 ∨ reqAddr r % 4 ≠ 0 then answer d r 2 (reqAddr r) 0
    else match busRead e d 1 4 (reqAddr r) with
      | (some w, d1) => respond d1 r.head 0 (reqAddr r) 1 w.toNat []
      | (none, d1) => answer d1 r 1 (reqAddr r) 0)

/-- REGWR: one write, or the two accesses of a guarded pair. -/
def doRegWr (e : Env) (d : Dev) : Dev :=
  runRequest d 0x61 (fun r d =>
    let a := reqAddr r
    if reqLen r ≠ 0 ∨ a % 4 ≠ 0 then answerWrite d r 2 a 0
    else
      let w := busWrite e d 1 4 a (reqValue r)
      if !w.1 then answerWrite w.2 r 1 a 0
      else if reqGuarded r then
        let g := busWrite e w.2 1 4 (a + 4) (~~~ (reqValue r))
        if g.1 then answerWrite g.2 r 0 a 1 else answerWrite g.2 r 1 (a + 4) 0
      else answerWrite w.2 r 0 a 1)

/-- Reads of n words from rising addresses, up to the first error: the words so far, the failing address and the device. -/
def readBurst (e : Env) : Nat → Dev → Nat → List Word → List Word × Option Nat × Dev
  | 0, d, _, acc => (acc, none, d)
  | n + 1, d, a, acc =>
    match busRead e d 1 4 a with
    | (some w, d1) => readBurst e n d1 (a + 4) (acc ++ [w])
    | (none, d1) => (acc, some a, d1)

/-- Writes of n words to rising addresses, up to the first error: how many were made, the failing address and the device. -/
def writeBurst (e : Env) (word : Nat → Word) : Nat → Dev → Nat → Nat → Nat × Option Nat × Dev
  | 0, d, _, k => (k, none, d)
  | n + 1, d, a, k =>
    match busWrite e d 1 4 a (word k) with
    | (true, d1) => writeBurst e word n d1 (a + 4) (k + 1)
    | (false, d1) => (k, some a, d1)

/-- A word count that a burst takes. -/
def countOk (r : Request) : Bool := decide (1 ≤ reqCount r) && decide (reqCount r ≤ 256) && decide (reqAddr r % 4 = 0)

/-- BURSTRD. -/
def doBurstRd (e : Env) (d : Dev) : Dev :=
  runRequest d 0x62 (fun r d =>
    if !(countOk r) || decide (reqLen r ≠ 0) then answer d r 2 (reqAddr r) 0
    else
      let x := readBurst e (reqCount r) d (reqAddr r) []
      let data := x.1.flatMap (fun w => leBytes 4 w.toNat)
      match x.2.1 with
      | none => respond x.2.2 r.head 0 (reqAddr r) x.1.length 0 data
      | some a => respond x.2.2 r.head 1 a x.1.length 0 data)

/-- BURSTWR. -/
def doBurstWr (e : Env) (d : Dev) : Dev :=
  runRequest d 0x63 (fun r d =>
    if !(countOk r) || decide (reqLen r ≠ ceilDiv (reqCount r) 8) then answerWrite d r 2 (reqAddr r) 0
    else
      let x := writeBurst e (reqWord r) (reqCount r) d (reqAddr r) 0
      match x.2.1 with
      | none => answerWrite x.2.2 r 0 (reqAddr r) x.1
      | some a => answerWrite x.2.2 r 1 a x.1)

/-- DOWNLOAD is accepted in this mode and stage (R439). -/
def downloadAllowed (e : Env) (d : Dev) : Bool :=
  ((decide (e.mode = .boot) && decide (d.boot.stage = .download)) || decide (e.mode = .rescue) || decide (e.mode = .ready) ||
    decide (e.mode = .run) || decide (e.mode = .degraded) || decide (e.mode = .diag)) &&
  decide (d.boot.stage ≠ .verifyBuffer) && decide (secNow d ≠ some .verify)

/-- DOWNLOAD (R439); a part of its data whose read half fails is discarded, and its response carries the error
(spec/05_pipe_sharing.md R171; spec/13_fault_collector.md R405). -/
def doDownload (e : Env) (d : Dev) : Dev :=
  runRequest d 0x64 (fun r d =>
    if !(downloadAllowed e d) then answer d r 5 (reqAddr r) 0
    else if reqLen r < 1 ∨ 64 < reqLen r ∨ reqAddr r % 32 ≠ 0 ∨ bufSize d < reqAddr r + 32 * reqLen r then answer d r 2 (reqAddr r) 0
    else
      let off := bufBase d + reqAddr r
      let bad := (panParts d off (32 * reqLen r)).lines
      answer (panWrite d off (r.data.take (32 * reqLen r))) r (if bad = [] then 0 else 1) (reqAddr r) 0)

/-- MAILBOX: a message to port MBOX_PANEL (R287, R289). -/
def doMailbox (d : Dev) : Dev :=
  runRequest d 0x65 (fun r d =>
    let n := (r.head.getD 16 0).toNat
    if reqLen r ≠ 1 ∨ n < 1 ∨ 32 < n then (if reqAck r then answer d r 2 0 0 else d)
    else if 8 ≤ (vget d.boxes 0).inbox.length then answer (deliverMsg d 0 (r.data.take n)) r 3 0 0
    else if reqAck r then answer (deliverMsg d 0 (r.data.take n)) r 0 0 0
    else deliverMsg d 0 (r.data.take n))

/-- The 256 map words of a TTSTAGE are written; the first failing address is kept. -/
def stageMap (e : Env) (r : Request) : Nat → Nat → Option Nat → Dev → Option Nat × Dev
  | 0, _, bad, d => (bad, d)
  | n + 1, k, bad, d =>
    let a := unitBase .tt 0 + 0x400 + 4 * k
    match busWrite e d 1 4 a (reqWord r k) with
    | (true, d1) => stageMap e r n (k + 1) bad d1
    | (false, d1) => stageMap e r n (k + 1) (some (bad.getD a)) d1

/-- TTSTAGE: hold, 256 writes, release (R287). -/
def doTtStage (e : Env) (d : Dev) : Dev :=
  runRequest d 0x66 (fun r d =>
    if reqLen r ≠ 32 then answer d r 2 0 0
    else
      let x := stageMap e r 256 0 none (putF d .tt 0 0 0 0 1)
      let d1 := putF x.2 .tt 0 0 0 0 0
      match x.1 with
      | none => answer d1 r 0 0 0
      | some a => answer d1 r 1 a 0)

/-- The kind of a POWER request's message, 0 for one that is none of R464. -/
def powerKind (r : Request) : Nat :=
  let k := (r.data.getD 0 0).toNat
  if 1 ≤ k ∧ k ≤ 3 then k else 0

/-- The response to a POWER request. -/
def answerPower (d : Dev) (r : Request) (status : Nat) : Dev := respond d r.head status 0 0 (get d .power 0 0xC).toNat []

/-- A POWER request of a kind; a message of no kind of R464 is answered by the row of QUERY. -/
def runPower (d : Dev) (kind : Nat) (f : Request → Dev → Dev) : Dev :=
  match frontRequest d 0x67 with
  | some r =>
    if powerKind r = kind ∨ (powerKind r = 0 ∧ kind = 3) then
      if reqLen r < 1 ∨ 2 < reqLen r ∨ powerKind r = 0 then refill (answerPower (popRequest d) r 2) else refill (f r (popRequest d))
    else d
  | none => d

/-- GRANT (R464, R465). -/
def doGrant (d : Dev) : Dev :=
  runPower d 1 (fun r d =>
    let c := (r.data.getD 1 0).toNat
    if 1 ≤ c ∧ c ≤ 4 then answerPower (grantClass d c) r 0 else answerPower d r 2)

/-- NOTICE (R464). -/
def doNotice (d : Dev) : Dev := runPower d 2 (fun r d => answerPower (pwrStat d 0x20) r 0)

/-- QUERY (R464). -/
def doQuery (d : Dev) : Dev := runPower d 3 (fun r d => answerPower d r 0)

/-- RESET: its response's departure, or 1 ms, brings the device reset (R287). -/
def doReset (d : Dev) : Dev :=
  runRequest d 0x68 (fun r d =>
    if reqLen r ≠ 0 ∨ reqValue r ≠ 0x9616 ∨ fieldAt r.head 16 4 ≠ 0xFFFF69E9 then answer d r 2 0 0
    else onTrunk (answer d r 0 0 0) (fun t => { t with resetTag := some (r.head.getD 3 0).toNat }))

end Sys2Proof.Machine
end

