-- ==== Sys2Proof/Machine/Training.lean ====
section
/-! DEFINITION. The time limits of training, LISTEN, electrical idle and the test modes (spec/10_lanes.md R311–R324). -/

namespace Sys2Proof.Machine

/-- 40 epochs after READY the trunk transmitter may send packet blocks (R311). -/
def holdEnd (d : Dev) : Dev := if (vget d.groups 0).state = .ready then onGroup d 0 (fun x => { x with hold := false }) else d

/-- 100 ms since a training attempt began: the next attempt, or LISTEN after attempt 16 (R312). -/
def attemptTimeout (d : Dev) (g : Nat) : Dev :=
  let x := vget d.groups g
  if x.state = .training then
    if x.attempt < 16 then beginAttempt (groupEvent d g 2) g (x.attempt + 1) else enterListen (groupEvent d g 2) g true
  else d

/-- A receive lane of a READY group that left LOCKED is not locked again within 2 ms (R313). -/
def relockTimeout (d : Dev) (n : Nat) : Dev :=
  let g := laneGroup n
  let r := (vget d.lanes n).rx
  if (vget d.groups g).state = .ready ∧ (rxLanes d g).contains n ∧ r ≠ .locked ∧ r ≠ .hold then retrain d g else d

/-- The partner has reported rx_lock = 0 for 2 ms (R313). -/
def partnerTimeout (d : Dev) (g : Nat) : Dev :=
  let x := vget d.groups g
  if x.state = .ready ∧ x.lockNow = false then retrain d g else d

/-- A burst of the training stream starts on the trunk in LISTEN (R314). -/
def listenBurst (d : Dev) : Dev :=
  if (vget d.groups 0).state = .listen then onGroup (startStream d 0) 0 (fun x => { x with tx := .training }) else d

/-- The burst ends, and the trunk transmitters are silent (R314). -/
def listenSilent (d : Dev) : Dev :=
  if (vget d.groups 0).state = .listen then onGroup (groupQuiet d 0) 0 (fun x => { x with tx := .silent }) else d

/-- 10 µs of WAKE without READY (R312). -/
def wakeTimeout (d : Dev) (g : Nat) : Dev := if (vget d.groups g).state = .wake then beginAttempt d g 1 else d

/-- TRET is in the far-end loop mode (R322, R324). -/
def farEnd (d : Dev) : Bool := decide (getF d .lane 4 0x20 2 0 = 3)

/-- 1 ms after the write, the far-end loop starts: the trunk group is in TEST, TF1–TF3 are silent, and TRET's bits leave on TF0 (R312, R324). -/
def loopApply (d : Dev) : Dev := if farEnd d ∧ (vget d.groups 0).state ≠ .off then groupTests d 0 .loop else d

/-- LANE_TEST.timeout has passed: mode 0, and the trunk group retrains (R324). -/
def loopTimeout (d : Dev) : Dev := if farEnd d then laneTestApply (putF d .lane 4 0x20 2 0 0) 4 3 else d

end Sys2Proof.Machine
end

