-- ==== Sys2Proof/Machine/Twt.lean ====
section
/-! DEFINITION. TWT, the two-wire target port: slots, views, commands, PEC, reads and held writes (spec/14_two_wire.md R411–R423). -/

namespace Sys2Proof.Machine

/-! ### Slots (R411, R412, R421) -/

/-- A slot. -/
def slotOf (d : Dev) (k : Nat) : TwtSlot := vget d.twt.slots k

/-- The device with a slot changed. -/
def onSlot (d : Dev) (k : Nat) (f : TwtSlot → TwtSlot) : Dev := onTwt d (fun t => { t with slots := vmod t.slots k f })

/-- The device with the transaction replaced. -/
def setTx (d : Dev) (t : Option TwtTx) : Dev := onTwt d (fun x => { x with tx := t })

/-- A slot word matches an address. -/
def slotMatches (cfg : Word) (a : Nat) : Bool :=
  flag cfg 31 && decide (Nat.land (Nat.xor a (fld cfg 6 0)) (fld cfg 14 8) = 0)

/-- The slot that serves an address under the slot words that `word` gives: the lowest that matches, never for the reserved addresses. -/
def slotUnder (word : Nat → Word) (a : Nat) : Option Nat :=
  if a < 8 ∨ 0x78 ≤ a then none else (List.range 4).find? (fun k => slotMatches (word k) a)

/-- The slot that serves an address. -/
def slotFor (d : Dev) (a : Nat) : Option Nat := slotUnder (fun k => get d .twt 0 (0x10 + 4 * k)) a

/-- The slot that serves an address at a repeated START: the slot of the transaction in progress stands as it began (R411). -/
def slotAgain (d : Dev) (t : TwtTx) (a : Nat) : Option Nat :=
  slotUnder (fun k => if k = t.slot then t.cfg else get d .twt 0 (0x10 + 4 * k)) a

/-- The view of a slot word: 0 FULL, 1 CUSTOMS-READ, 2 LEGACY, 3 MAILBOX. -/
def viewOf (cfg : Word) : Nat := fld cfg 21 20

/-- The PEC mode of a slot word: 0 disabled, 1 accepted, 2 required. -/
def pecMode (cfg : Word) : Nat := min 2 (fld cfg 25 24)

/-- A transaction meets an error: LASTERR of its slot, and the count of transactions with an error, once (R419, R421). -/
def twtErr (d : Dev) (t : TwtTx) (code : Nat) (a : Word) : TwtTx × Dev :=
  let d1 := onSlot d t.slot (fun s => { s with err := code, cmd := t.cmd.getD 0, addr := a })
  ({ t with errored := true }, if t.errored then d1 else addSat d1 .twt 0 0x24 31 16 1)

/-- An error that no access caused: the address field is free. -/
def twtErrFree (d : Dev) (t : TwtTx) (code : Nat) : TwtTx × Dev :=
  let (i, d1) := drawFree d
  twtErr d1 t code (Config.twtErrAddr i)

/-- A byte is refused: the write phase issues nothing (R419). -/
def refuseByte (d : Dev) (t : TwtTx) (code : Nat) : TwtTx × Dev :=
  twtErrFree (stat d .twt 0 0x20 2) { t with fault := true } code

/-! ### Addressing and reads (R411, R415, R416) -/

/-- n bytes of free value. -/
def freeBytes : Nat → Dev → List Byte × Dev
  | 0, d => ([], d)
  | n + 1, d =>
    let (i, d1) := drawFree d
    let (l, d2) := freeBytes n d1
    (Config.twtByte i :: l, d2)

/-- One read access of a transaction: its bytes. A place outside the view and an error response supply free bytes. -/
def twtAccess (e : Env) (d : Dev) (t : TwtTx) (a width : Nat) : List Byte × TwtTx × Dev :=
  if viewOf t.cfg = 1 ∧ 0x8000 ≤ a then
    let (l, d1) := freeBytes width d
    let (t1, d2) := twtErr d1 t 2 (BitVec.ofNat 32 a)
    (l, t1, d2)
  else
    match busRead e d 0 width a with
    | (some w, d1) => (leBytes width w.toNat, t, d1)
    | (none, d1) =>
      let (l, d2) := freeBytes width d1
      let (t1, d3) := twtErr d2 t 6 (BitVec.ofNat 32 a)
      (l, t1, d3)

/-- The width of the widest aligned access at an address within n bytes (R415). -/
def widest (a n : Nat) : Nat := if a % 4 = 0 ∧ 4 ≤ n then 4 else if a % 2 = 0 ∧ 2 ≤ n then 2 else 1

/-- The accesses that cover n bytes from an address. The first argument bounds the recursion. -/
def chunksOf : Nat → Nat → Nat → List (Nat × Nat)
  | 0, _, _ => []
  | k + 1, a, n => if n = 0 then [] else (a, widest a n) :: chunksOf k (a + widest a n) (n - widest a n)

/-- The legacy table entry of legacy word i (R422). -/
def legacyEntry (d : Dev) (i : Nat) : Nat := memVal d 4 (0x7C0000 + getF d .twt 0 0x28 5 0 * 0x1000 + 4 * i)

/-- The bytes of a legacy word, most significant first. -/
def legacyWord (e : Env) (d : Dev) (t : TwtTx) (i : Nat) : List Byte × TwtTx × Dev :=
  if 1024 ≤ i then
    let (l, d1) := freeBytes 4 d
    (l, t, d1)
  else if legacyEntry d i = 0 then (List.replicate 4 0, t, d)
  else
    let (l, t1, d1) := twtAccess e d t (legacyEntry d i) 4
    (l.reverse, t1, d1)

/-- The next word of a read is fetched into the buffer (R416). -/
def prefetch (e : Env) (d : Dev) (t : TwtTx) : TwtTx × Dev :=
  match t.legacy with
  | some a =>
    let (l, t1, d1) := legacyWord e d t (a / 4)
    ({ t1 with buf := l.drop (a % 4), legacy := some (a / 4 * 4 + 4) }, d1)
  | none =>
    if t.cmd = some 0x11 then
      let (l, t1, d1) := twtAccess e d t (slotOf d t.slot).ptr 4
      ({ t1 with buf := l }, d1)
    else
      match t.chunks with
      | [] => (t, d)
      | (a, w) :: rest =>
        let (l, t1, d1) := twtAccess e d t a w
        ({ t1 with buf := l, chunks := rest }, d1)

/-- The two bytes of STATUS (R414). -/
def statusBytes (e : Env) (d : Dev) (slot : Nat) : List Byte :=
  [BitVec.ofNat 8 (bnat (decide ((slotOf d slot).err ≠ 0)) + 2 * bnat (decide ((vget d.boxes 1).outbox ≠ [])) +
    4 * bnat (decide (8 ≤ (vget d.boxes 1).inbox.length)) + 8 * bnat (faultLow e.mode d)),
   BitVec.ofNat 8 (modeCode e.mode)]

/-- The six bytes of LASTERR (R414). -/
def lasterrBytes (d : Dev) (slot : Nat) : List Byte :=
  let s := slotOf d slot
  BitVec.ofNat 8 s.err :: BitVec.ofNat 8 s.cmd :: leBytes 4 s.addr.toNat

/-- The first byte of a read phase is due: the data of STATUS, LASTERR and MBPOP, and the count byte of a BLKRD, with what reading them
does (R414, R417). -/
def startRead (e : Env) (d : Dev) (t : TwtTx) : TwtTx × Dev :=
  match t.cmd with
  | some 0x13 => ({ t with buf := BitVec.ofNat 8 t.count :: t.buf }, onSlot d t.slot (fun s => { s with ptr := (s.ptr + t.count) % 2 ^ 32 }))
  | some 0x20 => ({ t with buf := statusBytes e d t.slot }, d)
  | some 0x21 => ({ t with buf := lasterrBytes d t.slot }, onSlot d t.slot (fun s => { s with err := 0 }))
  | some 0x31 =>
    match (vget d.boxes 1).outbox with
    | [] => ({ t with buf := [0] }, d)
    | m :: rest => ({ t with buf := BitVec.ofNat 8 m.length :: m }, onBox d 1 (fun b => { b with outbox := rest }))
  | _ => (t, d)

/-- The last byte fetched has been supplied: the pointer of an RD32 moves on, and the next word is fetched where one follows. -/
def wordSent (e : Env) (d : Dev) (t : TwtTx) : TwtTx × Dev :=
  if t.cmd = some 0x11 then
    let d1 := onSlot d t.slot (fun s => { s with ptr := (s.ptr + 4) % 2 ^ 32 })
    if pecMode t.cfg = 2 then (t, d1) else prefetch e d1 t
  else if t.legacy.isSome || decide (t.cmd = some 0x13) then prefetch e d t
  else (t, d)

/-- The read carries a PEC byte after its data (R418). -/
def readPec (t : TwtTx) : Bool :=
  if t.cmd = some 0x11 then decide (pecMode t.cfg = 2) else t.cmd.isSome && decide (1 ≤ pecMode t.cfg)

/-- The byte after the data: the PEC once, then 0xFF. -/
def afterData (t : TwtTx) : TwtTx :=
  if readPec t && decide (t.endErr = 0) then
    { t with out := t.out ++ [BitVec.ofNat 8 (crc8 (t.wire ++ t.out))], endErr := 1 }
  else { t with out := t.out ++ [0xFF] }

/-- One byte of a read phase is supplied. -/
def readByte (e : Env) (d : Dev) (t : TwtTx) : TwtTx × Dev :=
  let (t1, d1) := if t.out = [] then startRead e d t else (t, d)
  match t1.buf with
  | [] => (afterData t1, d1)
  | b :: rest =>
    let t2 := { t1 with out := t1.out ++ [b], buf := rest }
    if rest = [] then wordSent e d1 t2 else (t2, d1)

/-- n bytes of a read phase are supplied. -/
def readMany (e : Env) : Nat → Dev → TwtTx → Dev
  | 0, d, t => setTx d (some t)
  | n + 1, d, t =>
    let (t1, d1) := readByte e d t
    readMany e n d1 t1

/-- A transaction opens under a slot (R411, R412). -/
def openTx (d : Dev) (k a : Nat) (read : Bool) : Dev :=
  let t := { slot := k, cfg := get d .twt 0 (0x10 + 4 * k), read := read, wire := [BitVec.ofNat 8 (2 * a + bnat read)] : TwtTx }
  let d1 := incWrap d .twt 0 0x24 15 0
  if read then
    let (t1, d2) := twtErrFree d1 t 1
    setTx d2 (some t1)
  else setTx d1 (some t)

/-- The command opens a read phase. -/
def readCommand (t : TwtTx) : Bool :=
  decide (t.cmd = some 0x11) || decide (t.cmd = some 0x13) || decide (t.cmd = some 0x20) || decide (t.cmd = some 0x21) ||
  decide (t.cmd = some 0x31) || (t.cmd.isNone && t.legacy.isSome)

/-- A START and an address on TWT (R411): the read phase of the transaction in progress, or a new transaction, or no answer. -/
def twtAddress (e : Env) (d : Dev) (a : Nat) (read : Bool) : Dev :=
  let d0 := onTws d 8 (fun x => { x with busy := true })
  match d.twt.tx with
  | some t =>
    if read && !t.read && decide (slotAgain d t a = some t.slot) then
      let t1 := { t with read := true, wire := t.wire ++ [BitVec.ofNat 8 (2 * a + 1)], endErr := 0 }
      if readCommand t && !t.fault then
        let (t2, d1) := prefetch e d0 t1
        setTx d1 (some t2)
      else
        let (t2, d1) := twtErrFree d0 { t1 with cmd := none, legacy := none } 1
        setTx d1 (some t2)
    else match slotFor d a with
      | some k => openTx d0 k a read
      | none => setTx d0 none
  | none =>
    match slotFor d a with
    | some k => openTx d0 k a read
    | none => d0

/-! ### Write phases (R413–R419, R422) -/

/-- A slot's view accepts a command code (R412). -/
def viewTakesCode (view code : Nat) : Bool :=
  if view = 0 then true
  else if view = 1 then [0x10, 0x11, 0x13, 0x20, 0x21, 0x3F].contains code
  else if view = 3 then [0x30, 0x31, 0x20, 0x21, 0x3F].contains code
  else false

/-- The bytes after the code that a command takes, the PEC apart: none where the count or the length is out of range (R414). -/
def argLength (code : Nat) (args : List Byte) : Option Nat :=
  let count := (args.headD 0).toNat
  if code = 0x10 then some 4
  else if code = 0x12 then some (max 4 (min 32 (args.length / 4 * 4)))
  else if code = 0x13 then (if args = [] ∨ (1 ≤ count ∧ count ≤ 32) then some 1 else none)
  else if code = 0x14 ∨ code = 0x30 then
    (if args = [] then some 2 else if 1 ≤ count ∧ count ≤ 32 then some (1 + count) else none)
  else some 0

/-- The words of a list of bytes, least significant byte first, with their addresses. -/
def wordsFrom : Nat → Nat → List Byte → List (Nat × Nat × Word)
  | 0, _, _ => []
  | n + 1, a, l => (a, 4, BitVec.ofNat 32 (leVal (l.take 4))) :: wordsFrom n ((a + 4) % 2 ^ 32) (l.drop 4)

/-- The writes of a list of bytes from an address by the widest aligned accesses. -/
def bytesFrom (a : Nat) (l : List Byte) : List (Nat × Nat × Word) :=
  (chunksOf l.length a l.length).map (fun q => (q.1, q.2, BitVec.ofNat 32 (leVal ((l.drop (q.1 - a)).take q.2))))

/-- What a complete command holds for the end of its write phase. -/
def holdCommand (d : Dev) (t : TwtTx) (code : Nat) (args : List Byte) : TwtTx :=
  let ptr := (slotOf d t.slot).ptr
  if code = 0x10 then { t with setptr := some (leVal args) }
  else if code = 0x12 then { t with writes := wordsFrom (args.length / 4) ptr args }
  else if code = 0x13 then
    let n := (args.headD 0).toNat
    { t with count := n, chunks := chunksOf n ptr n }
  else if code = 0x14 then { t with writes := bytesFrom ptr (args.drop 1) }
  else if code = 0x30 then { t with push := some (args.drop 1) }
  else t

/-- The bytes after the code, `p` of them a PEC, that TWT acknowledges: those of the command, and of a WR32 every one up to the limit of R413
(R413, R419). -/
def ackedBytes (code n p : Nat) : Nat := (if code = 0x12 then 32 else n) + p

/-- The write phase of a command: the code and the bytes after it, a PEC byte among them (R414, R418, R419). -/
def writeCommand (d : Dev) (t : TwtTx) (code : Nat) (args : List Byte) : TwtTx × Dev :=
  let t0 := { t with cmd := some code, wire := t.wire ++ (BitVec.ofNat 8 code :: args) }
  if !(viewTakesCode (viewOf t.cfg) code) then refuseByte d t0 2
  else match argLength code args with
    | none => refuseByte d t0 3
    | some n =>
      if code = 0x30 ∧ args ≠ [] ∧ 8 ≤ (vget d.boxes 1).inbox.length then refuseByte d t0 8
      else if ackedBytes code n (min 1 (pecMode t.cfg)) < args.length then refuseByte d t0 3
      else if args.length < n ∨ n + min 1 (pecMode t.cfg) < args.length then ({ t0 with endErr := 3 }, d)
      else if args.length = n + 1 then
        if (args.getD n 0).toNat = crc8 (t0.wire.take (t0.wire.length - 1)) then (holdCommand d t0 code (args.take n), d)
        else ({ t0 with endErr := 4 }, d)
      else if pecMode t.cfg = 2 then ({ t0 with endErr := 4 }, d)
      else (holdCommand d t0 code args, d)

/-- A command of TWT: its write phase where it has not been sent yet, or n bytes of the read phase, which are 0xFF where no read command went
before it (R415). -/
def twtCommand (e : Env) (d : Dev) (code : Nat) (args : List Byte) (n : Nat) : Dev :=
  match d.twt.tx with
  | none => d
  | some t =>
    if viewOf t.cfg = 2 then d
    else if t.read then (if t.cmd = some code ∨ t.cmd = none then readMany e n d t else d)
    else if t.cmd.isNone && !t.fault then
      let (t1, d1) := writeCommand d t code args
      setTx d1 (some t1)
    else d

/-- The complete words of legacy write data from a legacy address, with whether the data end in the middle of a word. The first argument
bounds the recursion. -/
def legacyWords : Nat → Nat → List Byte → List (Nat × Word) × Bool
  | 0, _, l => ([], decide (l ≠ []))
  | k + 1, a, l =>
    if l = [] then ([], false)
    else if a % 4 ≠ 0 then
      let r := legacyWords k (a / 4 * 4 + 4) (l.drop (4 - a % 4))
      (r.1, r.2 || decide (l.length < 4 - a % 4))
    else if l.length < 4 then ([], true)
    else
      let r := legacyWords k (a + 4) (l.drop 4)
      ((a / 4, BitVec.ofNat 32 (beVal (l.take 4))) :: r.1, r.2)

/-- A LEGACY slot's transaction: its write phase, or n bytes of its read phase (R422). -/
def twtLegacy (e : Env) (d : Dev) (bytes : List Byte) (n : Nat) : Dev :=
  match d.twt.tx with
  | none => d
  | some t =>
    if viewOf t.cfg ≠ 2 then d
    else if t.read then readMany e n d t
    else if t.legacy.isSome || t.fault then d
    else
      let t0 := { t with wire := t.wire ++ bytes }
      if bytes.length < 2 then setTx d (some { t0 with endErr := 3 })
      else
        let a := beVal (bytes.take 2)
        let data := bytes.drop 2
        if 32 < data.length then
          let (t1, d1) := refuseByte d t0 3
          setTx d1 (some t1)
        else
          let r := legacyWords (data.length + 1) a data
          let ws := (r.1.filter (fun q => decide (q.1 < 1024) && decide (legacyEntry d q.1 ≠ 0))).map (fun q => (legacyEntry d q.1, 4, q.2))
          setTx d (some { t0 with
            legacy := some a, writes := ws, endErr := if r.2 then 9 else 0 })

/-- Insertion of a held write by address, after those of the same address. -/
def insWrite (w : Nat × Nat × Word) : List (Nat × Nat × Word) → List (Nat × Nat × Word)
  | [] => [w]
  | x :: t => if w.1 < x.1 then w :: x :: t else x :: insWrite w t

/-- The held writes are issued in rising address order; each error response is reported in LASTERR (R413, R419). -/
def issueWrites (e : Env) (d : Dev) (t : TwtTx) : TwtTx × Dev :=
  (t.writes.foldl (fun a w => insWrite w a) []).foldl (fun (s : TwtTx × Dev) w =>
    let r := busWrite e s.2 0 w.2.1 w.1 w.2.2
    if r.1 then (s.1, r.2) else twtErr r.2 s.1 6 (BitVec.ofNat 32 w.1)) (t, d)

/-- A complete write phase takes effect. -/
def issuePhase (e : Env) (d : Dev) (t : TwtTx) : TwtTx × Dev :=
  let d1 := match t.setptr with
    | some p => onSlot d t.slot (fun s => { s with ptr := p })
    | none => d
  let d2 := match t.push with
    | some m => deliverMsg d1 1 m
    | none => d1
  issueWrites e d2 t

/-- A first byte that is no command code (R414). -/
def unknownCode (b : Byte) : Bool := !([0x10, 0x11, 0x12, 0x13, 0x14, 0x20, 0x21, 0x30, 0x31, 0x3F].contains b.toNat)

/-- The write phase ends, at a STOP or at the repeated START that opens the read phase (R413, R418, R419, R422). `unknown` is its first byte
where that was no command code; on a read phase a STOP ends the transaction. -/
def writePhaseEnd (e : Env) (d : Dev) (unknown : Option Byte) (stop : Bool) : Dev :=
  match d.twt.tx with
  | none => d
  | some t =>
    let after := fun (x : TwtTx × Dev) =>
      setTx x.2 (if stop then none else some { x.1 with setptr := none, writes := [], push := none })
    if t.read then (if stop then setTx d none else d)
    else if unknown.any unknownCode && t.cmd.isNone && decide (viewOf t.cfg ≠ 2) then
      after (refuseByte d { t with cmd := unknown.map BitVec.toNat } 1)
    else if t.fault then after (t, d)
    else if t.endErr = 4 then after (twtErrFree (report (stat d .twt 0 0x20 8) 152) { t with fault := true } 4)
    else if t.endErr = 3 then after (twtErrFree d { t with fault := true } 3)
    else if t.endErr = 9 then
      let (t1, d1) := issuePhase e (stat d .twt 0 0x20 0x20) t
      after (twtErrFree d1 t1 9)
    else after (issuePhase e d t)

/-! ### Errors on the bus (R416, R420, R423) -/

/-- A START or STOP off a byte boundary aborts the transaction. -/
def twtAbort (d : Dev) : Dev :=
  match d.twt.tx with
  | none => d
  | some t => setTx (report (twtErrFree (stat d .twt 0 0x20 4) t 5).2 152) none

/-- A read has not returned within 1 ms: the rest of its word is 0xFF. -/
def twtReadLate (d : Dev) : Dev :=
  match d.twt.tx with
  | some t =>
    if t.read && decide (t.buf ≠ []) && (decide (t.cmd = some 0x11) || decide (t.cmd = some 0x13) || t.legacy.isSome) then
      let (t1, d1) := twtErrFree (report (stat d .twt 0 0x20 0x10) 152) t 7
      setTx d1 (some { t1 with buf := t.buf.map (fun _ => 0xFF) })
    else d
  | none => d

/-- TWT releases SDA and waits for the next START. -/
def twtRelease (d : Dev) : Dev := setTx d none

end Sys2Proof.Machine
end

