-- ==== Sys2Proof/Machine/Start.lean ====
section
/-! DEFINITION. The device at the start of BOOT: after line-up, and after a device reset (spec/01_architecture.md R18, R23;
spec/11_time.md R328, R329; spec/12_register_access.md R381; spec/13_fault_collector.md R407; spec/14_two_wire.md R423;
spec/15_boot_identity_heads.md R433–R435; spec/16_power_and_modes.md R464, R473). -/

namespace Sys2Proof.Machine

/-- The device recovers its reference from TRET: a child strapped so (R17, R435). -/
def recovering (s : Straps) : Bool := decide (s.role = 1) && decide (s.refclk = 1)

/-- A root strapped for recovery: a strap conflict (R435). -/
def strapConflict (s : Straps) : Bool := decide (s.role = 0) && decide (s.refclk = 1)

/-- The registers whose reset values follow the straps, but for PWR_CLASS and TWT_SLOT0, which a device reset keeps (R23, R434, R435). -/
def strapRegs (d : Dev) (s : Straps) : Dev :=
  let d1 := put (put d .feeder 0 0 (feederConfig s.trunk)) .feeder 1 0 (feederConfig s.trunk)
  let d2 := if s.role = 0 then takeId d1 0 0 else d1
  if strapConflict s then stat d2 .boot 0 0 0x20 else d2

/-- PWR_CLASS at line-up: the signature class, in force, with no GRANT (R434, R464). -/
def lineClass (d : Dev) (s : Straps) : Dev := put d .power 0 0xC (BitVec.ofNat 32 ((s.lineclass + 1) * 17))

/-- TWT_SLOT0.addr at line-up (R434). -/
def slotZero (d : Dev) (s : Straps) : Dev := putF d .twt 0 0x10 6 0 (0x58 + s.twaddr)

/-- The device after line-up: nothing has survived but OTP (R30, R407). -/
def lineupDev (otp : List Host.Cell) (s : Straps) : Dev := slotZero (lineClass (strapRegs { otp := otp } s) s) s

/-- The mode machine at the start of BOOT. -/
def bootSys (s : Straps) : Sys := { straps := s, crystal := recovering s }

/-- The ranges of registers that a device reset keeps, by address and length (R328, R379, R407, R423, R437). -/
def keptRegs : List (Nat × Nat) := [
  (0x20, 4), (0x30, 4),
  (0x4000, 4), (0x4020, 0x18), (0x4048, 4), (0x40C0, 0x20), (0x4400, 0x400),
  (0x8008, 8), (0xC000, 0x2000),
  (0x1400C, 4),
  (0x20008, 8), (0x30010, 0x10)]

/-- A device reset keeps the register at an address. -/
def keptReg (a : Nat) : Bool := keptRegs.any (fun q => decide (q.1 ≤ a) && decide (a < q.1 + q.2))

/-- The memories of drovers 1–3, whose domains are off at the start of BOOT. -/
def lostAtReset (a : Nat) : Bool :=
  (decide (0x720000 ≤ a) && decide (a < 0x780000)) || (decide (0x790000 ≤ a) && decide (a < 0x7C0000))

/-- What the collector keeps: its records and what is unacknowledged; no unit stays fenced (R407), and its packets that have not left are
lost (R388). -/
def keptFlt (f : Collector) (cycles : Nat) : Collector :=
  { unacked := f.unacked, next := f.next, forced := f.forced, latched := f.latched, beatAt := cycles }

/-- What the power unit keeps: the grant that waits and the thermal monitor's state (R407, R464, R482). -/
def keptPower (p : Power) : Power :=
  { granted := p.granted, warned := p.warned, peaked := p.peaked, cool := p.cool, shedding := p.shedding, coolRun := p.coolRun,
    shedRun := p.shedRun }

/-- What the AON record of a head keeps: the ledger entry and the life counters (R407, R456). -/
def keptHead (h : Head) : Head := { h with probing := false, tempOk := false }

/-- The bit of GLOBAL_RESET_CAUSE that is set, first in the order of R381: 1 fault, 3 pin, 2 GLOBAL_RESET, 4 panel, 5 rescue. -/
def firstCause (l : List Nat) : Nat := ([1, 3, 2, 4, 5].find? (fun c => l.contains c)).getD 3

/-- GLOBAL_RESET_CAUSE after a reset of a cause (R381). -/
def causeWord (old : Word) (cause : Nat) : Word := setFld (BitVec.ofNat 32 (2 ^ cause)) 15 8 (fld old 15 8 + 1)

/-- A head whose probe a device reset ends is ABSENT; its trunk group is off, so no head report leaves (R453, R458). -/
def headAbsent (d : Dev) (c : Nat) : Dev :=
  let d1 := onHead d c (fun h => { h with verdict := 4 })
  if headVerdict d1 c = headVerdict d c then d1 else headShown d1 c 2

/-- The device after a device reset (R30, R407): what survives, and every other piece at its reset value. A class
that waits comes into force where the charge now fits it (R465). -/
def resetDev (d : Dev) (s : Straps) (cycles cause : Nat) : Dev :=
  let d0 : Dev := {
    regs := d.regs.filter (fun p => keptReg p.1)
    mem := d.mem.filter (fun p => !(lostAtReset p.1))
    badLines := d.badLines.filter (fun a => !(lostAtReset a))
    softLines := d.softLines.filter (fun a => !(lostAtReset a))
    reports := d.reports, flt := keptFlt d.flt cycles, twt := d.twt, otp := d.otp, otpBad := d.otpBad, aonBad := d.aonBad, heads := d.heads.map keptHead,
    caps := d.caps.map (fun c => { level := c.level }), power := keptPower d.power, freeCnt := d.freeCnt, commitNo := d.commitNo }
  let d1 := put d0 .glob 0 0x20 (causeWord (get d0 .glob 0 0x20) cause)
  let d2 := profileFollow (strapRegs d1 s)
  settleGrant (forN 16 (fun x c => if (vget d.heads c).probing then headAbsent x c else x) d2)

/-- A reset takes the trunk group to OFF: a recovering device that ran on TRET sets ref_lost and raises FS118 (R329). -/
def refLost (d : Dev) : Dev := report (stat d .time 0 4 0x40) 118

end Sys2Proof.Machine
end

