-- ==== Sys2Proof/Machine/State.lean ====
section
/-! DEFINITION. The state of the PK9616 as one block: the commands that wait, the mode machine, the time base, and the device itself; the
reasons a step can stop; and the state after reset. -/

namespace Sys2Proof.Machine

/-- The state: commands that wait, oldest first (the model's own queue); the mode machine with the pins beside it
(spec/01_architecture.md R29, spec/16_power_and_modes.md R461–R479); the time base (spec/11_time.md R326–R331); and the device: its
registers, memories and units. -/
structure State where
  pending : List Instr := []
  sys     : Sys := {}
  clock   : Clock := {}
  dev     : Dev := {}
deriving DecidableEq, Repr, Inhabited

/-- The reasons a step stops with a fault: none. The spec gives every command of the table an effect, and an access to an address that does
not exist its error response (spec/12_register_access.md R357), so no meaning raises a fault (safe: nothing is stopped). -/
inductive Fault where
deriving DecidableEq, Repr

/-- The reasons a step refuses a command. -/
inductive Refusal where
  /-- A command that has no meaning yet: raised by the arm of such a command only, and by none in this model (safe). -/
  | notModelled (mnemonic : String)
deriving DecidableEq, Repr, Inhabited

/-- What the units see of the mode machine and the clock. -/
def State.env (s : State) : Env := { sys := s.sys, clk := s.clock }

/-- The machine right after reset: line-up has completed with every strap pad left open, which reads 0 (spec/15_boot_identity_heads.md R433),
and BOOT begins: a root of class 1 that boots from QSPI, every register at its reset value, memory with nothing listed, no command
waiting. -/
def State.reset : State := { sys := bootSys {}, clock := {}, dev := lineupDev [] {} }

end Sys2Proof.Machine
end

