-- ==== Sys2Proof/Machine/Modes.lean ====
section
/-! DEFINITION. The mode machine, line-up and device resets, and how a command reaches the device: which units run in which mode, and what a
register write or a fault asked of the modes and the clock (spec/01_architecture.md R29–R32; spec/12_register_access.md R379–R381;
spec/13_fault_collector.md R382–R389; spec/16_power_and_modes.md R461–R480). -/

namespace Sys2Proof.Machine

/-! ### Parts of the state -/

/-- The device changed. -/
def withDev (s : State) (d : Dev) : State := { s with dev := d }

/-- The mode machine changed. -/
def withSys (s : State) (y : Sys) : State := { s with sys := y }

/-- n time-base cycles pass; without line power there is no clock (R326, R328). -/
def passTime (s : State) (n : Nat) : State := if s.sys.mode = .lineup then s else { s with clock := clockRun s.clock n }

/-! ### Mode changes -/

/-- The mode that a code names. -/
def modeOf (c : Nat) : Mode :=
  if c = 2 then .boot else if c = 3 then .verify else if c = 4 then .train else if c = 5 then .ready else if c = 6 then .run
  else if c = 7 then .degraded else if c = 8 then .idle else if c = 9 then .fallow else if c = 10 then .diag
  else if c = 11 then .rescue else if c = 12 then .halt else .lineup

/-- What the units do as the mode becomes m: taps stop outside their modes, pulses are cut, READY groups start towards EIDLE or the groups
wake, the security engine prepares at entry to TRAIN (R32, R197, R316, R345, R448, R477). -/
def unitsAtMode (e : Env) (prev m : Mode) (d : Dev) : Dev :=
  let d1 := if tapMode m then d else tapModeStop d
  let d2 := cutPulses m d1
  if m = .idle then forN 3 startIdle d2
  else if m = .train then secTrain d2
  else if prev = .idle ∧ m ≠ .fallow ∧ m ≠ .halt then forN 3 (wakeGroup e) d2
  else d2

/-- The mode becomes m (R29, R30). -/
def setMode (s : State) (m : Mode) : State :=
  let y := { s.sys with mode := m, prev := modeCode s.sys.mode, changes := (s.sys.changes + 1) % 256 }
  { s with sys := y, dev := unitsAtMode { s with sys := y }.env s.sys.mode m s.dev }

/-- TRAIN is entered; a trunk that is READY already makes the device READY (R30, R315). -/
def enterTrain (s : State) : State :=
  let s1 := setMode s .train
  if (vget s1.dev.groups 0).state = .ready then setMode s1 .ready else s1

/-- The ROM's or the trunk's change to a mode. -/
def enterMode (s : State) (m : Mode) : State := if m = .train then enterTrain s else setMode s m

/-- IDLE is left for the mode before it; a device that has returned every unit meanwhile is in RUN again (R30, R475, R476). -/
def leaveIdle (s : State) : State :=
  if s.sys.mode = .idle then
    let s1 := setMode s s.sys.back
    if s.sys.back = .degraded ∧ s1.dev.flt.fences = [] then setMode s1 .run else s1
  else s

/-- HALT (R389): units stop, lanes turn off, pulses end, the exported rails are off (spec/17_pins_and_electrical.md R490), nothing is due any
more. -/
def enterHalt (s : State) : State :=
  let s1 := setMode s .halt
  { s1 with
    sys := { s1.sys with halt := true, vout := false, resets := [], drain := false },
    dev := forN 3 groupOff s1.dev }

/-! ### FALLOW -/

/-- A domain that FALLOW keeps in retention (R478). -/
def retainedDomain (k : Nat) : Bool := decide (32 ≤ k) && decide (k ≤ 42)

/-- The domains of a device that are on. -/
def domainsOn (d : Dev) : List Nat := ((List.range 50).map (· + 1)).filter (domainOn d)

/-- The units as FALLOW begins (R320, R423, R478): groups off, TWT silent, PD32–PD42 retained, every other domain off. -/
def unitsAtFallow (e : Env) (d : Dev) : Dev :=
  let on := domainsOn d
  let d1 := twtLetGo (twtAbort (forN 3 (fallowGroup e) d))
  let d2 := on.foldl (fun d k => if retainedDomain k then setDomain d k false else domainOff e d k) d1
  let d3 := onPower d2 (fun p => { p with retained := on, coming := [], feeds := Vector.replicate 2 {}, pllUp := false })
  settleGrant (onFlt d3 (fun f => { f with beatAt := e.cycles - f.beatAt }))

/-- FALLOW is entered (R478). -/
def enterFallow (s : State) : State :=
  let s1 := setMode s .fallow
  withDev s1 (unitsAtFallow s1.env s1.dev)

/-- The units as FALLOW ends (R385, R406, R478): woke, the domains of the entry switched on again in order, what was latched registered; a
recovering device locks TRET first, at its crystal's rate (spec/10_lanes.md R321). -/
def unitsAtWake (e : Env) (d : Dev) : Dev :=
  let d0 := if recovering e.straps then startAcquire d 4 else d
  let d1 := switchOn (pwrStat d0 0x100) d.power.retained
  unlatch e (onFlt d1 (fun f => { f with beatAt := e.cycles - f.beatAt }))

/-- WAKE_N ends FALLOW: TRAIN (R30, R478). -/
def wakeFallow (s : State) : State :=
  let s1 := setMode s .train
  withDev s1 (unitsAtWake s1.env s1.dev)

/-! ### Requests (R31, R475, R476) -/

/-- A refused request: FS007, with the write that made it (R384). -/
def refuseMode (s : State) (x : Access) : State := withDev s (reportAcc s.dev 7 x.master x.kind x.addr)

/-- A mode request by a write. -/
def modeRequested (s : State) (x : Access) (code : Nat) : State :=
  let any := decide (x.master ≤ 2)
  if s.sys.drain then
    if any && decide (code = 0xF) then withSys s { s.sys with drain := false } else refuseMode s x
  else
    match s.sys.mode with
    | .ready =>
      if code = 6 ∧ x.master = 2 then setMode s .run
      else if any && decide (code = 8) then withSys s { s.sys with drain := true }
      else if any && decide (code = 0xA) then setMode s .diag
      else refuseMode s x
    | .run | .degraded => if any && decide (code = 8) then withSys s { s.sys with drain := true } else refuseMode s x
    | .idle =>
      if any && decide (code = 9) && decide (s.sys.straps.fallow = 1) then enterFallow s
      else if any && decide (code = 0xF) then leaveIdle s
      else refuseMode s x
    | _ => refuseMode s x

/-! ### What a command asked for -/

/-- The mode changes that the boot ROM makes (R30). -/
def bootEdge (a b : Mode) : Bool :=
  match a, b with
  | .boot, .diag | .boot, .verify | .boot, .rescue | .verify, .train | .verify, .rescue => true
  | _, _ => false

/-- One thing that a register write, a fault or a unit asked of the mode machine or the clock. -/
def runAct (s : State) (a : Act) : State :=
  match a with
  | .degrade => if s.sys.mode = .run then setMode s .degraded else s
  | .restore => if s.sys.mode = .degraded then setMode s .run else s
  | .halt => if s.sys.mode = .halt then s else enterHalt s
  | .reset c =>
    if s.sys.mode = .halt then s
    else withSys s { s.sys with resets := if s.sys.resets.contains c then s.sys.resets else s.sys.resets ++ [c] }
  | .mode c => if bootEdge s.sys.mode (modeOf c) then enterMode s (modeOf c) else s
  | .request x c => modeRequested s x c
  | .addend w => { s with clock := clockAddend s.clock w }
  | .step a =>
    let (d, c) := stepRequest a s.dev s.clock
    { s with dev := d, clock := c }
  | .force a =>
    let (d, c) := stepForce a s.dev s.clock
    { s with dev := d, clock := c }
  | .holdoverSet => { s with clock := clockHold s.clock }
  | .holdoverClear => { s with clock := clockTrack s.clock }
  | .trunkReady => if s.sys.mode = .train then setMode s .ready else s
  | .wakeTret => leaveIdle s
  | .leaf => withDev s (settleGrant (switchOff s.env s.dev ((List.range 10).map (· + 14))))

/-- Everything that the step asked for is carried out, in order. -/
def settle (s : State) : State :=
  let t := s.dev.acts.foldl runAct s
  withDev t { t.dev with acts := [] }

/-! ### Which units run -/

/-- The units outside AON run: not in LINEUP, HALT or FALLOW, and not while RESET_N is low (R355, R389, R478, R479). -/
def unitsRun (y : Sys) : Bool := decide (y.mode ≠ .lineup) && decide (y.mode ≠ .halt) && decide (y.mode ≠ .fallow) && !y.resetLow

/-- The AON units run: from BOOT on, but not in HALT (R382, R389). -/
def aonRuns (y : Sys) : Bool := decide (y.mode ≠ .lineup) && decide (y.mode ≠ .halt)

/-- TWT answers: in every mode but LINEUP and FALLOW (R423). -/
def twtRuns (y : Sys) : Bool := decide (y.mode ≠ .lineup) && decide (y.mode ≠ .fallow)

/-- A change of the device, with what it asks for. -/
def devDo (s : State) (f : Env → Dev → Dev) : State := settle (withDev s (f s.env s.dev))

/-- A change by a unit outside AON: nothing happens while it does not run. -/
def unitDo (s : State) (f : Env → Dev → Dev) : State := if unitsRun s.sys then devDo s f else s

/-- A change by a pipe, whose clocks are gated in IDLE with all its state kept (R476, R477; the timetable and the waystations stand still with
them, DESIGN CHOICE, log 144). -/
def pipeDo (s : State) (f : Env → Dev → Dev) : State := unitDo s (fun e d => if e.mode = .idle then d else f e d)

/-- A change by an AON unit. -/
def aonDo (s : State) (f : Env → Dev → Dev) : State := if aonRuns s.sys then devDo s f else s

/-- A change by TWT. -/
def twtDo (s : State) (f : Env → Dev → Dev) : State := if twtRuns s.sys then devDo s f else s

/-- A 32-bit register write of a master through the crossbar (R353–R381). -/
def writeDo (s : State) (master a : Nat) (v : Word) : State := devDo s (fun e d => (busWrite e d master 4 a v).2)

/-- A register read of a master through the crossbar. -/
def readDo (s : State) (master a : Nat) : State := devDo s (fun e d => (busRead e d master 4 a).2)

/-! ### Device resets (R30, R328, R329, R381, R407) -/

/-- A device reset with a cause: BOOT, from the kept state. -/
def deviceReset (s : State) (cause : Nat) : State :=
  let y := s.sys
  let lost := recovering y.straps && !y.crystal
  let d1 := resetDev s.dev y.straps s.clock.cycles cause
  let d2 := if lost then refLost d1 else d1
  let s1 : State := { s with
    sys := { bootSys y.straps with resetLow := y.resetLow },
    clock := if lost then clockHold s.clock else s.clock,
    dev := d2 }
  devDo s1 unlatch

/-- The causes of the device resets that are due: a panel request once its response has gone or 1 ms has passed (R287). -/
def dueResets (s : State) : List Nat := s.sys.resets ++ (if s.dev.trunk.resetTag.isSome then [4] else [])

/-! ### Line-up (R433, R461, R466, R467) -/

/-- The line as measured at the pads (PWR_LINE). -/
def lineShown (d : Dev) (volts ma : Nat) : Dev := put d .power 0 8 (packFields [(volts % 65536, 16), (ma % 65536, 0)])

/-- Line-up completes: the straps are sampled, and BOOT begins, or HALT, with the exported rails off, while its latch is set
(spec/17_pins_and_electrical.md R490). -/
def lineupComplete (s : State) (st : Straps) (volts ma : Nat) : State :=
  if s.sys.mode = .lineup ∧ s.sys.rails then
    { s with
      sys := { bootSys st with mode := if s.sys.halt then .halt else .boot, vout := !s.sys.halt, halt := s.sys.halt },
      clock := {},
      dev := { lineShown (lineupDev s.dev.otp st) volts ma with otpBad := s.dev.otpBad } }
  else s

/-- The line is lost: LINEUP, and nothing survives but OTP and the HALT latch. -/
def lineLost (s : State) : State :=
  { s with
    sys := { mode := .lineup, straps := s.sys.straps, rails := false, vout := false, halt := s.sys.halt },
    clock := {},
    dev := { otp := s.dev.otp, otpBad := s.dev.otpBad } }

end Sys2Proof.Machine
end

