-- ==== Sys2Proof/Machine/Commands.lean ====
section
/-! DEFINITION. What single commands of the table need beside the units' own operations: the drain, idle units, references, addresses of
the registers that a command names. -/

namespace Sys2Proof.Machine

/-! ### Modes -/

/-- No context has a frame open. -/
def noFrameOpen (d : Dev) : Bool := (List.range 16).all (fun c => (openFrame d c).isNone)

/-- The datapath of pipe p flushes by a row: the row in progress ends, or a ready in-line row starts. -/
def flushRow (d : Dev) (p : Nat) : Dev := if (vget d.pipes p).row = none then inlineRowReady d p false else rowDone d p

/-- A number of rows that no flush exceeds: each row that a frame has left begins and ends once. -/
def rowsLeft (d : Dev) : Nat :=
  sumTo 16 (fun c => (framesOf d c).foldl (fun n f => n + 2 * (completeRows f + delayRows f.profile)) 0) + 8

/-- The pipe datapaths flush: every row in progress and every in-line row that is ready leaves its pipe, those of a stripe in progress included;
what waits in a staging ring stays there (R476; DESIGN CHOICE, log 144). -/
def flushPipes (d : Dev) : Dev := forN 4 (fun d p => forN (rowsLeft d) (fun d _ => flushRow d p) d) d

/-- The drain is complete: the pipes flush, and the mode is IDLE, to return to the mode before it (R476). -/
def drainComplete (s : State) : State :=
  settle (setMode { s with sys := { s.sys with back := s.sys.mode, drain := false }, dev := flushPipes s.dev } .idle)

/-- Every frame that is still open closes with a cause (R476). -/
def closeAll (d : Dev) (cause : Nat) : Dev :=
  forN 16 (fun d c => if (openFrame d c).isSome then closeFrame d c cause else d) d

/-- The trunk group has left READY, which EIDLE and WAKE do not count as (R18, R329). -/
def leftReady (d : Dev) : Bool :=
  let s := (vget d.groups 0).state
  decide (s = .training) || decide (s = .listen) || decide (s = .off) || decide (s = .test)

/-- The PLLs return to the crystal: ref_lost, FS118, and HOLDOVER from TRACKING (R329). -/
def refToCrystal (s : State) : State :=
  { s with sys := { s.sys with crystal := true }, clock := clockHold s.clock, dev := refLost s.dev }

/-- The staged registers of an idle unit apply (R365). -/
def idleApply (s : State) (u : IdleUnit) : State :=
  match u with
  | .profile => aonDo s (fun _ d => applyProfile d)
  | .toll => unitDo s (fun _ d => applyToll d)
  | .convoy => aonDo s applyConvoy
  | .ctx n => unitDo s (fun _ d => applyIdleCtx d n)
  | .view n => unitDo s (fun _ d => applyIdleView d n)
  | .pipe n => unitDo s (fun _ d => applyIdleTt d n)
  | .routes n => unitDo s (fun _ d => applyIdleRoutes d n)
  | .cycle n => aonDo s (fun _ d => applyIdleCycle d n)
  | .trigger n => aonDo s (fun e d => applyIdleTrig e d n)

/-! ### Registers that a command names -/

/-- The width of an access in bytes. -/
def widthBytes : Width → Nat
  | .byte => 1
  | .half => 2
  | .word => 4

/-- The row of the register at an address. -/
def rowOfAddr (a : Nat) : Option RegRow :=
  match unitAt a with
  | some (u, _, o) => rowAt u o
  | none => none

/-- A sequence-clear status register stands at the address (R369). -/
def sqcAt (a : Nat) : Bool :=
  match rowOfAddr a with
  | some r => decide (r.sqc ≠ 0)
  | none => false

/-- The value word of a guarded pair stands at the address (R371). -/
def guardedAt (a : Nat) : Bool :=
  match rowOfAddr a with
  | some r => decide (r.grd ≠ 0)
  | none => false

/-- The complement word of a guarded pair stands at the address (R371). -/
def pairAt (a : Nat) : Bool :=
  match unitAt a with
  | some (u, _, o) => isPairWord u o
  | none => false

/-- The alias address of a bit of the register at an address (R375). -/
def aliasTarget (a : Word) (bit : Nat) : Nat := (0x40000000 + a.toNat / 4 * 128 + 4 * bit) % 2 ^ 32

/-- The block of a controller port's registers: its own, or its copy within TWT (spec/14_two_wire.md R424). -/
def ctlBase (port : Nat) : Nat := if port < 8 then unitBase .tws port else unitBase .twt 0 + 0x1000

/-- LANE_TEST as it stands, for a write that changes nothing of it but a pulse (spec/10_lanes.md R323). -/
def testWord (d : Dev) (lane : Nat) : Word := get d .lane lane 0x20

/-! ### Units -/

/-- An epoch write that a two-wire transaction completed reaches its context (spec/14_two_wire.md R430). -/
def epochRegistered (e : Env) (d : Dev) (c : Nat) : Dev :=
  if 0 < (vget d.ctxs c).epochDue then epochWrite e (onCtx d c (fun x => { x with epochDue := x.epochDue - 1 })) c else d

/-- A group's receivers are at work. -/
def linkLive (d : Dev) (g : Nat) : Bool :=
  let s := (vget d.groups g).state
  decide (s ≠ .off) && decide (s ≠ .waitLine) && decide (s ≠ .test)

/-- A control block of a type that passes `kind` arrives on a group's receive link (spec/09_caravan_link.md R266–R273); one whose CRC-16 fails
names no kind, and an errored one takes its slot and nothing else. -/
def blockIn (d : Dev) (g : Nat) (bs : List Byte) (a : Arrival) (kind : Nat → Bool) (f : Dev → List Byte → Dev) : Dev :=
  if linkLive d g then
    receive d (rxLaneNow d g) true bs a (fun b => !(sealOk b) || typeIs kind b) (fun d => passSlot d g) (fun d b _ => f d b)
  else looped d g true bs a

/-- A control type that comes as a packet head: of no link block, and no END (spec/09_caravan_link.md R272). -/
def headType (g t : Nat) : Bool := !([1, 2, 3, 6, 0x3F].contains t) && !(decide (t = 5) && decide (g = 0))

/-- A data block arrives, errored or not (spec/09_caravan_link.md R279, R280). -/
def dataIn (d : Dev) (g : Nat) (bs : List Byte) (a : Arrival) : Dev :=
  if linkLive d g then receive d (rxLaneNow d g) false bs a (fun _ => true) id (fun d b errored => rxData d g b errored)
  else looped d g false bs a

/-- A TRAIN block arrives on a receive lane in use (spec/10_lanes.md R309). -/
def trainIn (d : Dev) (n : Nat) (bs : List Byte) (a : Arrival) : Dev :=
  if (vget d.groups (laneGroup n)).state ≠ .off ∧ (rxLanes d (laneGroup n)).contains n then
    receive (if n = 4 then loopCommas d else d) n true bs a (fun b => !(sealOk b) || typeIs (fun t => decide (t = 3)) b) id (fun d b _ => trainBlock d n b)
  else d

/-- The milestones of a set arrive, each on its lane: the bytes of each, none for one that is errored or no MILESTONE. -/
def milestonesOf (d : Dev) : List (Nat × Arrival × List Byte) → List (Option (List Byte)) × Dev
  | [] => ([], d)
  | (n, a, bs) :: t =>
    let x := arrive d n true bs a
    let b := match x.1 with
      | some b => if b.ctl && !b.errored && (!(sealOk b.bytes) || typeIs (fun t => decide (t = 2)) b.bytes) then some b.bytes else none
      | none => none
    let r := milestonesOf x.2 t
    (b :: r.1, r.2)

/-- A set of milestones arrives on a group's receive link, one block per lane (spec/09_caravan_link.md R271). -/
def milestonesIn (d : Dev) (g : Nat) (blocks : List (Arrival × List Byte)) (skew : Nat) : Dev :=
  if linkLive d g ∧ blocks.length = (rxLanes d g).length then
    let r := milestonesOf d ((rxLanes d g).zip blocks)
    rxMilestones r.2 g r.1 skew
  else
    match blocks with
    | (a, bs) :: _ => if g = 0 then looped (loopCommas d) 0 true bs a else d
    | [] => d

/-- The line-up of feeder f is complete: its line is on, or it sources none (spec/16_power_and_modes.md R468). -/
def lineUp (d : Dev) (f : Nat) : Bool := !(getB d .power 0 (0x40 + 8 * f) 31) || decide ((feedOf d f).state = .on)

/-- The lane PLLs have locked after FALLOW, in a recovering device once TRET has: the groups train, the trunk as strapped, from attempt 1
(spec/10_lanes.md R320, R321). -/
def pllLocked (e : Env) (d : Dev) : Dev :=
  if recovering e.straps ∧ (vget d.lanes 4).rx ≠ .locked ∧ d.power.pllUp = false then d
  else
    let d1 := forN 2 (fun d f => if lineUp d f then feederTrain d f else d) (onPower d (fun p => { p with pllUp := true }))
    if e.mode = .train ∧ (vget d.groups 0).state = .off then trunkTrain d1 e.straps.trunk else d1

/-- 60 s after the last write of HEAD_TEMPc (spec/15_boot_identity_heads.md R456). -/
def headTempOld (d : Dev) (c : Nat) : Dev := onHead d c (fun h => { h with tempOk := false })

/-- A feeder line as measured (PWR_FEEDf_MEAS). -/
def feedShown (d : Dev) (f volts ma : Nat) : Dev := put d .power 0 (0x44 + 8 * f) (packFields [(volts % 65536, 16), (ma % 65536, 0)])

/-- The trip comparators reach 158 °C: FS000, and in FALLOW HALT at once, with its record (R483). -/
def thermalTrip (e : Env) (d : Dev) : Dev :=
  if e.mode = .fallow then act (registerOne e d { source := 0, addr := sourceBase 0 } 1 false) .halt else report d 0

end Sys2Proof.Machine
end

