-- ==== Sys2Proof/Machine/ExecBoot.lean ====
section
/-! DEFINITION. Boot, the security engine and camera heads: the meaning of each command. -/

namespace Sys2Proof.Machine

open Host

/-- BOOT_TABLE_READ: The boot ROM reads the bundle tables and chooses a copy for VERIFY, or enters RESCUE or waits for a download
(spec/15_boot_identity_heads.md R437). -/
def execBootTableRead (copyA : Option (List Byte)) (copyB : Option (List Byte)) (s : State) : Outcome State Fault Refusal :=
  .next (unitDo s (fun e d => bootTableRead e d copyA copyB))

/-- VERIFY_DONE: Bundle verification completes, and the bundle passes or is rejected with a failure code (spec/15_boot_identity_heads.md
R442). -/
def execVerifyDone (image : Option (List Byte)) (s : State) : Outcome State Fault Refusal :=
  .next (unitDo s (fun e d => verifyDone e d image))

/-- LOAD_DONE: The boot ROM finishes loading components, runs drover 0, and the device enters TRAIN (spec/15_boot_identity_heads.md R443).
-/
def execLoadDone (s : State) : Outcome State Fault Refusal := .next (unitDo s loadDone)

/-- DIAG_AUTO_ACK: In DIAG from BOOT, the ROM acknowledges each RETRY or FENCE registration 1 ms after it (spec/15_boot_identity_heads.md
R438). -/
def execDiagAutoAck (source : Fin 192) (s : State) : Outcome State Fault Refusal := .next (unitDo s (fun e d => diagAck e d source))

/-- SEC_VERIFY: SEC_CTRL.verify starts verification of the download buffer (spec/15_boot_identity_heads.md R447). -/
def execSecVerify (master : Fin 7) (s : State) : Outcome State Fault Refusal := .next (writeDo s master (unitBase .sec 0) 2#32)

/-- SEC_RECORD: SEC_CTRL.record appends the passing bundle's hashes to the measurement log, or is refused (spec/15_boot_identity_heads.md
R447). -/
def execSecRecord (master : Fin 7) (s : State) : Outcome State Fault Refusal := .next (writeDo s master (unitBase .sec 0) 4#32)

/-- SEC_ATTEST: SEC_CTRL.attest requests an attestation report over the nonce (spec/15_boot_identity_heads.md R449). -/
def execSecAttest (master : Fin 7) (s : State) : Outcome State Fault Refusal := .next (writeDo s master (unitBase .sec 0) 1#32)

/-- ATTEST_PREPARED: The security engine finishes leaf use and bottom-tree generation after entry to TRAIN (spec/15_boot_identity_heads.md
R448). -/
def execAttestPrepared (s : State) : Outcome State Fault Refusal := .next (unitDo s (fun _ d => attestPrepared d))

/-- ATTEST_DONE: The attestation report is written to the pan and att_done is set (spec/15_boot_identity_heads.md R449). -/
def execAttestDone (s : State) : Outcome State Fault Refusal := .next (unitDo s attestDone)

/-- HEAD_PROBE: The HEAD unit starts a probe of a context's head EEPROM in the TWS background queue (spec/15_boot_identity_heads.md R452).
-/
def execHeadProbe (ctx : Fin 16) (s : State) : Outcome State Fault Refusal := .next (unitDo s (fun _ d => probeStart d ctx))

/-- HEAD_PROBE_DONE: A probe completes and updates the head ledger, verdict, counters and reports (spec/15_boot_identity_heads.md R452).
-/
def execHeadProbeDone (ctx : Fin 16) (record : Option (List Byte)) (s : State) : Outcome State Fault Refusal :=
  .next (unitDo s (fun _ d => probeFound d ctx record))

/-- HEAD_CERT_DONE: A head certificate check completes with verdict VALID or INVALID (spec/15_boot_identity_heads.md R455). -/
def execHeadCertDone (ctx : Fin 16) (s : State) : Outcome State Fault Refusal := .next (unitDo s (fun _ d => headCertDone d ctx))

/-- HEAD_COUNTER_HOUR: 3,600 accumulated seconds add one hour to a head counter, which may reach its limit (spec/15_boot_identity_heads.md
R456). -/
def execHeadCounterHour (ctx : Fin 16) (hot : Bool) (s : State) : Outcome State Fault Refusal :=
  .next (aonDo s (fun _ d => headHour d ctx hot))

/-- HEAD_TEMP_EXPIRE: 60 s after the last HEAD_TEMPc write, the head temperature becomes invalid (spec/15_boot_identity_heads.md R456). -/
def execHeadTempExpire (ctx : Fin 16) (s : State) : Outcome State Fault Refusal := .next (aonDo s (fun _ d => headTempOld d ctx))

/-- QSPI_PROGRAM_DONE: In RESCUE, the boot ROM finishes erasing and programming the failed QSPI copy with the accepted install bundle and
then resets the device with cause rescue (spec/15_boot_identity_heads.md R446). -/
def execQspiProgramDone (s : State) : Outcome State Fault Refusal := .next (unitDo s (fun _ d => qspiProgrammed d))

end Sys2Proof.Machine
end

