-- ==== Sys2Proof/Machine/ExecDrovers.lean ====
section
/-! DEFINITION. The Jorran instructions, their responses and the drovers' events: the meaning of each command. -/

namespace Sys2Proof.Machine

open Host

/-- ADD: rd = rs1 + rs2 (spec/07_jorran_isa.md R218). -/
def execAdd (n : Fin 4) (s : State) : Outcome State Fault Refusal := .next (unitDo s (fun _ d => doAlu d n .add))

/-- SUB: rd = rs1 − rs2 (spec/07_jorran_isa.md R218). -/
def execSub (n : Fin 4) (s : State) : Outcome State Fault Refusal := .next (unitDo s (fun _ d => doAlu d n .sub))

/-- AND: rd = rs1 AND rs2 (spec/07_jorran_isa.md R218). -/
def execAnd (n : Fin 4) (s : State) : Outcome State Fault Refusal := .next (unitDo s (fun _ d => doAlu d n .and))

/-- OR: rd = rs1 OR rs2 (spec/07_jorran_isa.md R218). -/
def execOr (n : Fin 4) (s : State) : Outcome State Fault Refusal := .next (unitDo s (fun _ d => doAlu d n .or))

/-- XOR: rd = rs1 XOR rs2 (spec/07_jorran_isa.md R218). -/
def execXor (n : Fin 4) (s : State) : Outcome State Fault Refusal := .next (unitDo s (fun _ d => doAlu d n .xor))

/-- SHL: Logical left shift (spec/07_jorran_isa.md R218). -/
def execShl (n : Fin 4) (s : State) : Outcome State Fault Refusal := .next (unitDo s (fun _ d => doAlu d n .shl))

/-- SHR: Logical right shift with zero fill (spec/07_jorran_isa.md R218). -/
def execShr (n : Fin 4) (s : State) : Outcome State Fault Refusal := .next (unitDo s (fun _ d => doAlu d n .shr))

/-- SRA: Arithmetic right shift (spec/07_jorran_isa.md R218). -/
def execSra (n : Fin 4) (s : State) : Outcome State Fault Refusal := .next (unitDo s (fun _ d => doAlu d n .sra))

/-- MUL: Low 32 bits of the product (spec/07_jorran_isa.md R218). -/
def execMul (n : Fin 4) (s : State) : Outcome State Fault Refusal := .next (unitDo s (fun _ d => doAlu d n .mul))

/-- MULH: High 32 bits of the signed product (spec/07_jorran_isa.md R218). -/
def execMulh (n : Fin 4) (s : State) : Outcome State Fault Refusal := .next (unitDo s (fun _ d => doAlu d n .mulh))

/-- JR: Jump to rs1 and write the return address to rd (spec/07_jorran_isa.md R225). -/
def execJr (n : Fin 4) (s : State) : Outcome State Fault Refusal := .next (unitDo s (fun _ d => doJr d n))

/-- ADDI: rd = rs1 + sign-extended immediate (spec/07_jorran_isa.md R219). -/
def execAddi (n : Fin 4) (s : State) : Outcome State Fault Refusal := .next (unitDo s (fun _ d => doAddi d n))

/-- LUI: rd = imm << 14 (spec/07_jorran_isa.md R219). -/
def execLui (n : Fin 4) (s : State) : Outcome State Fault Refusal := .next (unitDo s (fun _ d => doLui d n))

/-- LD_B: Load a zero-extended byte (spec/07_jorran_isa.md R220). -/
def execLdB (n : Fin 4) (s : State) : Outcome State Fault Refusal := .next (unitDo s (fun _ d => doLoad d n .ldB 1))

/-- LD_H: Load a zero-extended halfword (spec/07_jorran_isa.md R220). -/
def execLdH (n : Fin 4) (s : State) : Outcome State Fault Refusal := .next (unitDo s (fun _ d => doLoad d n .ldH 2))

/-- LD_W: Load a word (spec/07_jorran_isa.md R220). -/
def execLdW (n : Fin 4) (s : State) : Outcome State Fault Refusal := .next (unitDo s (fun _ d => doLoad d n .ldW 4))

/-- ST_B: Store a byte (spec/07_jorran_isa.md R220). -/
def execStB (n : Fin 4) (s : State) : Outcome State Fault Refusal := .next (unitDo s (fun _ d => doStore d n .stB 1))

/-- ST_H: Store a halfword (spec/07_jorran_isa.md R220). -/
def execStH (n : Fin 4) (s : State) : Outcome State Fault Refusal := .next (unitDo s (fun _ d => doStore d n .stH 2))

/-- ST_W: Store a word (spec/07_jorran_isa.md R220). -/
def execStW (n : Fin 4) (s : State) : Outcome State Fault Refusal := .next (unitDo s (fun _ d => doStore d n .stW 4))

/-- LOAD_RESPONSE: A load's data or error response returns, writing rd or trapping with cause LOAD_ERR (spec/07_jorran_isa.md R221). -/
def execLoadResponse (n : Fin 4) (s : State) : Outcome State Fault Refusal := .next (unitDo s (fun e d => loadResponse e d n))

/-- STORE_RESPONSE: A posted store completes, or its error response traps the drover with cause STORE_ERR (spec/07_jorran_isa.md R223). -/
def execStoreResponse (n : Fin 4) (store : Nat) (s : State) : Outcome State Fault Refusal :=
  .next (unitDo s (fun e d => storeResponse e d n store))

/-- BEQ: Branch if equal (spec/07_jorran_isa.md R225). -/
def execBeq (n : Fin 4) (s : State) : Outcome State Fault Refusal := .next (unitDo s (fun _ d => doBranch d n .beq))

/-- BNE: Branch if not equal (spec/07_jorran_isa.md R225). -/
def execBne (n : Fin 4) (s : State) : Outcome State Fault Refusal := .next (unitDo s (fun _ d => doBranch d n .bne))

/-- BLT: Branch if less, signed (spec/07_jorran_isa.md R225). -/
def execBlt (n : Fin 4) (s : State) : Outcome State Fault Refusal := .next (unitDo s (fun _ d => doBranch d n .blt))

/-- BGE: Branch if greater or equal, signed (spec/07_jorran_isa.md R225). -/
def execBge (n : Fin 4) (s : State) : Outcome State Fault Refusal := .next (unitDo s (fun _ d => doBranch d n .bge))

/-- BLTU: Branch if less, unsigned (spec/07_jorran_isa.md R225). -/
def execBltu (n : Fin 4) (s : State) : Outcome State Fault Refusal := .next (unitDo s (fun _ d => doBranch d n .bltu))

/-- JAL: Jump and link into w15 (spec/07_jorran_isa.md R225). -/
def execJal (n : Fin 4) (s : State) : Outcome State Fault Refusal := .next (unitDo s (fun _ d => doJal d n))

/-- WAIT: Consume the lowest pending wanted event, or sleep until one is pending (spec/07_jorran_isa.md R234). -/
def execWait (n : Fin 4) (s : State) : Outcome State Fault Refusal := .next (unitDo s (fun _ d => doWait d n))

/-- WAIT_POLL: Consume the lowest pending wanted event, or return 0xFFFF_FFFF at once (spec/07_jorran_isa.md R234). -/
def execWaitPoll (n : Fin 4) (s : State) : Outcome State Fault Refusal := .next (unitDo s (fun _ d => doWaitPoll d n))

/-- WAIT_WAKE: A wanted event becomes pending, and the sleeping WAIT retires and consumes it (spec/07_jorran_isa.md R234). -/
def execWaitWake (n : Fin 4) (s : State) : Outcome State Fault Refusal := .next (unitDo s (fun _ d => waitWake d n))

/-- STAGE_T: Open a staged set for a target context and epoch (spec/07_jorran_isa.md R244). -/
def execStageT (n : Fin 4) (s : State) : Outcome State Fault Refusal := .next (unitDo s (fun _ d => doStageT d n))

/-- STAGE: Append an address and value entry to the open set (spec/07_jorran_isa.md R244). -/
def execStage (n : Fin 4) (s : State) : Outcome State Fault Refusal := .next (unitDo s (fun _ d => doStage d n))

/-- COMMIT: Close and check the open set, then arm it or discard it (spec/07_jorran_isa.md R245). -/
def execCommit (n : Fin 4) (s : State) : Outcome State Fault Refusal := .next (unitDo s (fun _ d => doCommit d n))

/-- POST: Fence, then raise a doorbell event 47–63 (spec/07_jorran_isa.md R236). -/
def execPost (n : Fin 4) (s : State) : Outcome State Fault Refusal := .next (unitDo s (fun _ d => doPost d n))

/-- SEND: Queue a message of 1–32 bytes on a port (spec/07_jorran_isa.md R238). -/
def execSend (n : Fin 4) (s : State) : Outcome State Fault Refusal := .next (unitDo s (fun _ d => doSend d n))

/-- RECV: Take the oldest inbound message of a port (spec/07_jorran_isa.md R240). -/
def execRecv (n : Fin 4) (s : State) : Outcome State Fault Refusal := .next (unitDo s (fun _ d => doRecv d n))

/-- ARM: Arm a time compare unit with a 40-bit target (spec/07_jorran_isa.md R242). -/
def execArm (n : Fin 4) (s : State) : Outcome State Fault Refusal := .next (unitDo s (fun _ d => doArm d n))

/-- DISARM: Disarm a time compare unit (spec/07_jorran_isa.md R242). -/
def execDisarm (n : Fin 4) (s : State) : Outcome State Fault Refusal := .next (unitDo s (fun _ d => doDisarm d n))

/-- TIME_SNAPSHOT: TIME with selector 0 takes a snapshot of the time base and returns linear nanoseconds [31:0] (spec/07_jorran_isa.md
R241). -/
def execTimeSnapshot (n : Fin 4) (dt : Nat) (s : State) : Outcome State Fault Refusal :=
  .next (unitDo (passTime s dt) (fun e d => doTimeSnapshot e d n))

/-- TIME_READ: TIME with selectors 1–6 returns part of the last snapshot, or the holdover bit (spec/07_jorran_isa.md R241). -/
def execTimeRead (n : Fin 4) (s : State) : Outcome State Fault Refusal := .next (unitDo s (fun e d => doTimeRead e d n))

/-- FENCE: Wait until every earlier access of the drover is complete (spec/07_jorran_isa.md R228). -/
def execFence (n : Fin 4) (s : State) : Outcome State Fault Refusal := .next (unitDo s (fun _ d => doFence d n))

/-- TRAP: Trap with cause SOFTWARE and the code of imm11 (spec/07_jorran_isa.md R250). -/
def execTrap (n : Fin 4) (s : State) : Outcome State Fault Refusal := .next (unitDo s (fun _ d => doTrap d n))

/-- HALT: Stop drovers 1–3 in HALTED; on drover 0 it traps with cause ILLEGAL (spec/07_jorran_isa.md R251). -/
def execHalt (n : Fin 4) (s : State) : Outcome State Fault Refusal := .next (unitDo s (fun _ d => doHalt d n))

/-- DROVER_EVENT_PENDING: An event occurrence reaches the drovers and sets their pending bits, or counts an overrun (spec/07_jorran_isa.md
R232). -/
def execDroverEventPending (ev : Fin 64) (s : State) : Outcome State Fault Refusal := .next (unitDo s (fun _ d => eventPending d ev))

/-- DRV_WATCHDOG_EXPIRE: The drover watchdog reaches 0 and the drover traps with cause WATCHDOG (spec/07_jorran_isa.md R235). -/
def execDrvWatchdogExpire (n : Fin 4) (us : Nat) (s : State) : Outcome State Fault Refusal :=
  .next (unitDo s (fun _ d => watchdogExpire d n us))

/-- COMPARE_MATCH: A time compare unit reaches its target, raises event 36 + u and disarms itself (spec/07_jorran_isa.md R242). -/
def execCompareMatch (unit : Fin 4) (dt : Nat) (s : State) : Outcome State Fault Refusal :=
  .next (aonDo (passTime s dt) (fun e d => compareMatch e d unit))

/-- CONTROL_CYCLE_EVENT: A periodic control cycle reaches phase + j × period and raises event 36 + u (spec/11_time.md R343). -/
def execControlCycleEvent (unit : Fin 4) (dt : Nat) (s : State) : Outcome State Fault Refusal :=
  .next (aonDo (passTime s dt) (fun e d => cycleEvent e d unit))

/-- DRV_RESET: DRV_CTRL.reset puts the drover in RESET, clearing its registers and pending events and discarding its armed sets
(spec/07_jorran_isa.md R252). -/
def execDrvReset (n : Fin 4) (master : Fin 7) (s : State) : Outcome State Fault Refusal := .next (writeDo s master (unitBase .drv n) 4#32)

/-- DRV_HALT: DRV_CTRL.halt stops the drover in HALTED (spec/07_jorran_isa.md R252). -/
def execDrvHalt (n : Fin 4) (master : Fin 7) (s : State) : Outcome State Fault Refusal := .next (writeDo s master (unitBase .drv n) 2#32)

/-- DRV_RUN: DRV_CTRL.run starts or continues the drover, or is ignored in TRAPPED (spec/07_jorran_isa.md R252). -/
def execDrvRun (n : Fin 4) (master : Fin 7) (s : State) : Outcome State Fault Refusal := .next (writeDo s master (unitBase .drv n) 1#32)

/-- ILLEGAL_INSTRUCTION: A drover fetches a word whose opcode is not in the opcode map, the all-zero and all-ones words included, and
traps with cause ILLEGAL (spec/07_jorran_isa.md R216). -/
def execIllegalInstruction (n : Fin 4) (s : State) : Outcome State Fault Refusal := .next (unitDo s (fun _ d => doIllegal d n))

/-- DRV_EVOVR_READ: A read of DRV_EVOVR re-enables the event-overrun fault source, so that the next overrun raises FS107 again
(spec/07_jorran_isa.md R233). -/
def execDrvEvovrRead (n : Fin 4) (master : Fin 7) (s : State) : Outcome State Fault Refusal :=
  .next (readDo s master (unitBase .drv n + 0x30))

end Sys2Proof.Machine
end

