-- ==== Sys2Proof/Machine/ExecIntake.lean ====
section
/-! DEFINITION. CSI packets, ports and epochs: the meaning of each command. -/

namespace Sys2Proof.Machine

open Host

/-- FRAME_START_PACKET: A CSI-2 frame start short packet is delivered to the contexts routed on its virtual channel, which open a frame,
assign an epoch and convoy, and apply staged sets (spec/02_intake.md R45). -/
def execFrameStartPacket (port : Fin 8) (vc : Fin 16) (header : Header) (dt : Nat) (s : State) : Outcome State Fault Refusal :=
  .next (unitDo (passTime s dt) (fun e d => frameStartPacket e d port vc header))

/-- FRAME_END_PACKET: A CSI-2 frame end short packet ends the frame of the contexts routed on its virtual channel once all its exposures'
channels have ended, concealing or closing for missing rows (spec/02_intake.md R46). -/
def execFrameEndPacket (port : Fin 8) (vc : Fin 16) (header : Header) (s : State) : Outcome State Fault Refusal :=
  .next (unitDo s (fun e d => frameEndPacket e d port vc header))

/-- IMAGE_LINE_RECEIVED: A long image packet is routed to a context and checked, then written to Bank I or to the stripe ring, concealed
or discarded (spec/02_intake.md R44). -/
def execImageLineReceived (port : Fin 8) (vc : Fin 16) (dataType : Fin 64) (header : Header) (payload : List Byte)
    (crcOk : Bool) (overflow : Bool) (s : State) : Outcome State Fault Refusal :=
  .next (unitDo s (fun e d => imagePacket e d port vc dataType header payload crcOk overflow))

/-- EMBEDDED_LINE_RECEIVED: An embedded-data line is routed to its context, which reads the fields of its descriptor from it
(spec/02_intake.md R62). -/
def execEmbeddedLineReceived (port : Fin 8) (vc : Fin 16) (header : Header) (payload : List Byte) (crcOk : Bool) (s : State) : Outcome State Fault Refusal :=
  .next (unitDo s (fun _ d => embeddedPacket d port vc header payload crcOk))

/-- SHORT_PACKET_IGNORED: A line start, line end or generic short packet is accepted and ignored (spec/02_intake.md R38). -/
def execShortPacketIgnored (port : Fin 8) (vc : Fin 16) (dataType : Fin 64) (header : Header) (s : State) : Outcome State Fault Refusal :=
  .next (unitDo s (fun _ d => shortPacket d port vc dataType header))

/-- HS_TIMEOUT: A lane or trio is stuck in high-speed mode past hs_timeout, so open frames close, the receiver resets and the port fault
source is raised (spec/02_intake.md R40). -/
def execHsTimeout (port : Fin 8) (s : State) : Outcome State Fault Refusal := .next (unitDo s (fun _ d => hsTimeout d port))

/-- PORT_RESET_DONE: The CSI receiver reset completes and the port resumes at the next frame start on each virtual channel
(spec/02_intake.md R40). -/
def execPortResetDone (port : Fin 8) (s : State) : Outcome State Fault Refusal := .next (unitDo s (fun _ d => portResetDone d port))

/-- CSI_ENABLE: CSI_CFG.enable goes from 0 to 1 and the held port configuration is latched (spec/02_intake.md R42). -/
def execCsiEnable (port : Fin 8) (master : Fin 7) (v : Word) (s : State) : Outcome State Fault Refusal :=
  .next (if getB s.dev .csi port 0 0 then s else writeDo s master (unitBase .csi port) (setBit v 0))

/-- CSI_DISABLE: CSI_CFG.enable goes from 1 to 0, every open frame closes with cause 5 and the port receives nothing (spec/02_intake.md
R42). -/
def execCsiDisable (port : Fin 8) (master : Fin 7) (v : Word) (s : State) : Outcome State Fault Refusal :=
  .next (if getB s.dev .csi port 0 0 then writeDo s master (unitBase .csi port) (clearBit v 0) else s)

/-- CSI_PORT_RESET: CSI_CTRL.port_reset resets the receiver as in steps 1, 2 and 4 of R40 (spec/02_intake.md R42). -/
def execCsiPortReset (port : Fin 8) (master : Fin 7) (s : State) : Outcome State Fault Refusal :=
  .next (writeDo s master (unitBase .csi port + 0x10) 2#32)

/-- CSI_CLEAR_COUNTERS: CSI_CTRL.clear_counters clears CSI_CNT_ECC and CSI_CNT_PKT (spec/02_intake.md R42). -/
def execCsiClearCounters (port : Fin 8) (master : Fin 7) (s : State) : Outcome State Fault Refusal :=
  .next (writeDo s master (unitBase .csi port + 0x10) 1#32)

/-- FRAME_TIMEOUT: A frame that has not ended tmax after its frame start closes with cause timeout (spec/02_intake.md R59). -/
def execFrameTimeout (ctx : Fin 16) (s : State) : Outcome State Fault Refusal := .next (unitDo s (fun _ d => frameTimeout d ctx))

/-- EPOCH_MARK: CTX_EPOCH_CTRL.mark completes an epoch write at once, incrementing issued and creating a pending entry
(spec/04_colour_and_harvest.md R138). -/
def execEpochMark (ctx : Fin 16) (master : Fin 7) (v : Word) (s : State) : Outcome State Fault Refusal :=
  .next (writeDo s master (unitBase .ctx ctx + 0x708) (setBit v 0))

/-- EPOCH_WRITE_REGISTERED: 60 to 80 ns after the STOP of a successful TWS epoch-write transaction, the context registers the epoch write
completion (spec/14_two_wire.md R430). -/
def execEpochWriteRegistered (ctx : Fin 16) (dt : Nat) (s : State) : Outcome State Fault Refusal :=
  .next (unitDo (passTime s dt) (fun e d => epochRegistered e d ctx))

end Sys2Proof.Machine
end

