-- ==== Sys2Proof/Machine/ExecLanes.lean ====
section
/-! DEFINITION. Lanes: training, electrical idle and tests: the meaning of each command. -/

namespace Sys2Proof.Machine

open Host

/-- TRAINING_ATTEMPT_TIMEOUT: After 100 ms, a training attempt fails and the next attempt starts, or the group enters LISTEN after attempt
16 (spec/10_lanes.md R312). -/
def execTrainingAttemptTimeout (group : Fin 3) (s : State) : Outcome State Fault Refusal :=
  .next (unitDo s (fun _ d => attemptTimeout d group))

/-- CTLE_STEP_TIMEOUT: After 5 ms on one acquisition step without lock, the receiver tries the next CTLE step (spec/10_lanes.md R306). -/
def execCtleStepTimeout (lane : Fin 15) (s : State) : Outcome State Fault Refusal := .next (unitDo s (fun _ d => ctleTimeout d lane))

/-- FOM_WINDOW: A 2^20 UI window completes and its figure of merit updates the CTLE search and the fom_low check (spec/10_lanes.md R305).
-/
def execFomWindow (lane : Fin 15) (a : Int) (q : Int) (updates : List (Int × List Int)) (slicer : List Int) (s : State) : Outcome State Fault Refusal :=
  .next (unitDo s (fun _ d => fomWindow d lane a q updates slicer))

/-- SIGNAL_DETECT: A signal newly appears on a receive lane, restarting acquisition or leaving LISTEN (spec/10_lanes.md R505). -/
def execSignalDetect (lane : Fin 15) (s : State) : Outcome State Fault Refusal := .next (unitDo s (fun _ d => signalDetect d lane))

/-- SIGNAL_LOST: The signal is lost for 1 µs before lock and the CTLE sequence restarts from step 8 (spec/10_lanes.md R306). -/
def execSignalLost (lane : Fin 15) (s : State) : Outcome State Fault Refusal := .next (unitDo s (fun _ d => signalLost d lane))

/-- RELOCK_TIMEOUT: A READY lane that left LOCKED is not locked again within 2 ms, so the group retrains (spec/10_lanes.md R313). -/
def execRelockTimeout (lane : Fin 15) (s : State) : Outcome State Fault Refusal := .next (unitDo s (fun _ d => relockTimeout d lane))

/-- PARTNER_LOCK_TIMEOUT: The partner reports rx_lock = 0 for 2 ms, so the group retrains (spec/10_lanes.md R313). -/
def execPartnerLockTimeout (group : Fin 3) (s : State) : Outcome State Fault Refusal :=
  .next (unitDo s (fun _ d => partnerTimeout d group))

/-- LISTEN_BURST: Every 250 ms in LISTEN, the trunk transmitters send a 1 ms burst of training stream (spec/10_lanes.md R314). -/
def execListenBurst (s : State) : Outcome State Fault Refusal := .next (unitDo s (fun _ d => listenBurst d))

/-- LISTEN_BURST_END: The 1 ms LISTEN burst ends and the trunk transmitters fall silent (spec/10_lanes.md R314). -/
def execListenBurstEnd (s : State) : Outcome State Fault Refusal := .next (unitDo s (fun _ d => listenSilent d))

/-- RETRAIN: A LINK_GROUP retrain pulse retrains its group, or takes it out of LISTEN (spec/10_lanes.md R313). -/
def execRetrain (group : Fin 3) (master : Fin 7) (s : State) : Outcome State Fault Refusal :=
  .next (writeDo s master (unitBase .link 0) (setBit 0 (24 + group)))

/-- EIDLE_PACKET_TIMEOUT: 100 µs after the idle request, each open packet ends with an inverse CRC, then EI_ENTER is sent
(spec/10_lanes.md R316). -/
def execEidlePacketTimeout (group : Fin 3) (s : State) : Outcome State Fault Refusal := .next (unitDo s (fun _ d => eidleTimeout d group))

/-- RAKE_BURST_RECEIVED: A rake burst on a receive link takes its lanes out of HOLD and moves an EIDLE group to WAKE (spec/10_lanes.md
R318). -/
def execRakeBurstReceived (group : Fin 3) (blocks : List (List Byte)) (s : State) : Outcome State Fault Refusal :=
  .next (unitDo s (fun e d => rakeBurst e d group blocks))

/-- WAKE_TIMEOUT: A group in WAKE that is not READY within 10 µs enters TRAINING (spec/10_lanes.md R312). -/
def execWakeTimeout (group : Fin 3) (s : State) : Outcome State Fault Refusal := .next (unitDo s (fun _ d => wakeTimeout d group))

/-- LANE_TEST_MODE: A write of LANE_TEST.mode puts the lane's group in TEST, or returns it to training (spec/10_lanes.md R322). -/
def execLaneTestMode (lane : Fin 15) (master : Fin 7) (v : Word) (s : State) : Outcome State Fault Refusal :=
  .next (writeDo s master (unitBase .lane lane + 0x20) (v &&& 0xFFFFF1FF#32))

/-- LANE_TEST_INJECT: LANE_TEST.inject injects one error into the generator output (spec/10_lanes.md R323). -/
def execLaneTestInject (lane : Fin 15) (master : Fin 7) (s : State) : Outcome State Fault Refusal :=
  .next (writeDo s master (unitBase .lane lane + 0x20) (setBit (testWord s.dev lane) 9))

/-- LANE_TEST_SNAP: LANE_TEST.snap copies the bit and error counters in one cycle (spec/10_lanes.md R323). -/
def execLaneTestSnap (lane : Fin 15) (master : Fin 7) (bits : List Bool) (s : State) : Outcome State Fault Refusal :=
  .next (writeDo (unitDo s (fun _ d => checkBits d lane bits)) master (unitBase .lane lane + 0x20) (setBit (testWord s.dev lane) 10))

/-- LANE_TEST_CLEAR: LANE_TEST.clear zeroes the checker counters (spec/10_lanes.md R323). -/
def execLaneTestClear (lane : Fin 15) (master : Fin 7) (s : State) : Outcome State Fault Refusal :=
  .next (writeDo s master (unitBase .lane lane + 0x20) (setBit (testWord s.dev lane) 11))

/-- FAR_END_LOOP_APPLY: 1 ms after the write, the far-end loop starts retiming TRET onto TF0 (spec/10_lanes.md R324). -/
def execFarEndLoopApply (s : State) : Outcome State Fault Refusal := .next (unitDo s (fun _ d => loopApply d))

/-- FAR_END_LOOP_TIMEOUT: After LANE_TEST.timeout seconds, the far-end loop ends and the trunk group retrains (spec/10_lanes.md R324). -/
def execFarEndLoopTimeout (s : State) : Outcome State Fault Refusal := .next (unitDo s (fun _ d => loopTimeout d))

/-- CHECKER_LOCKED: The PRBS checker has seen 64 consecutive correct bits after seeding itself, locks, and starts counting bits and errors
(spec/10_lanes.md R323). -/
def execCheckerLocked (lane : Fin 15) (bits : List Bool) (s : State) : Outcome State Fault Refusal :=
  .next (unitDo s (fun _ d => checkBits d lane bits))

/-- CHECKER_LOCK_LOST: The PRBS checker finds 32 wrong bits in 64, loses lock, counts a relock and seeds itself again (spec/10_lanes.md
R323). -/
def execCheckerLockLost (lane : Fin 15) (bits : List Bool) (s : State) : Outcome State Fault Refusal :=
  .next (unitDo s (fun _ d => checkBits d lane bits))

/-- LANE_PLL_LOCK: After WAKE_N the lane PLLs lock, within 2 ms, or 2 ms more when the reference is recovered from TRET, and the groups
start their training stream from attempt 1 (spec/10_lanes.md R321). -/
def execLanePllLock (s : State) : Outcome State Fault Refusal := .next (unitDo s pllLocked)

end Sys2Proof.Machine
end

