-- ==== Sys2Proof/Machine/ExecLink.lean ====
section
/-! DEFINITION. The Caravan link: blocks, packets, requests and the trunk timetable: the meaning of each command. -/

namespace Sys2Proof.Machine

open Host

/-- LANE_LOCKED: A receiver has seen valid headers on enough consecutive blocks and enters LOCKED (spec/09_caravan_link.md R268). -/
def execLaneLocked (lane : Fin 15) (headers : List Bool) (history : List Bool) (s : State) : Outcome State Fault Refusal :=
  .next (unitDo s (fun _ d => laneLocked d lane headers history))

/-- LANE_LOCK_LOST: 16 invalid headers within 64 blocks return the receiver to HUNT and discard open packets (spec/09_caravan_link.md
R268). -/
def execLaneLockLost (lane : Fin 15) (s : State) : Outcome State Fault Refusal := .next (unitDo s (fun _ d => lockLost d lane))

/-- MILESTONE_SEND: After 16,384 blocks a lane sends a milestone, and a parent follows it on a feeder return with IDENTITY
(spec/09_caravan_link.md R270). -/
def execMilestoneSend (group : Fin 3) (s : State) : Outcome State Fault Refusal := .next (unitDo s (fun e d => milestoneSend e d group))

/-- MILESTONE_RECEIVED: A milestone set is received and the lanes are deskewed, or a deskew fault is set (spec/09_caravan_link.md R271).
-/
def execMilestoneReceived (group : Fin 3) (blocks : List (Arrival × List Byte)) (skew : Nat) (s : State) : Outcome State Fault Refusal :=
  .next (unitDo s (fun _ d => milestonesIn d group blocks skew))

/-- IDLE_BLOCK_RECEIVED: An IDLE control block is received with its status byte (spec/09_caravan_link.md R272). -/
def execIdleBlockReceived (group : Fin 3) (block : List Byte) (arrival : Arrival) (s : State) : Outcome State Fault Refusal :=
  .next (unitDo s (fun _ d => blockIn d group block arrival (fun t => decide (t = 1)) (fun d b => rxIdle d group b)))

/-- MAP_FRAGMENT_RECEIVED: A MAP block is received and the receiver's trunk map is built, applied, lost or recovered
(spec/09_caravan_link.md R285). -/
def execMapFragmentReceived (group : Fin 3) (block : List Byte) (arrival : Arrival) (s : State) : Outcome State Fault Refusal :=
  .next (unitDo s (fun _ d => blockIn d group block arrival (fun t => decide (t = 6)) (fun d b => rxMap d group b)))

/-- IDENTITY_RECEIVED: An IDENTITY block is applied by a child or, in a root, ignored and logged (spec/09_caravan_link.md R272). -/
def execIdentityReceived (block : List Byte) (arrival : Arrival) (s : State) : Outcome State Fault Refusal :=
  .next (unitDo s (fun e d => blockIn d 0 block arrival (fun t => decide (t = 5)) (fun d b => rxIdentity e d b)))

/-- TRAIN_BLOCK_RECEIVED: A TRAIN block is received; it may make a group READY, retrain it, or move it to LISTEN (spec/10_lanes.md R311).
-/
def execTrainBlockReceived (lane : Fin 15) (block : List Byte) (arrival : Arrival) (s : State) : Outcome State Fault Refusal :=
  .next (unitDo s (fun _ d => trainIn d lane block arrival))

/-- PACKET_HOLD_END: 40 epochs after a group becomes READY, the trunk transmitter may send packet blocks (spec/10_lanes.md R311). -/
def execPacketHoldEnd (s : State) : Outcome State Fault Refusal := .next (unitDo s (fun _ d => holdEnd d))

/-- PACKET_HEAD_RECEIVED: A packet head opens a packet in its owner's blocks, discarding any open packet (spec/09_caravan_link.md R279).
-/
def execPacketHeadReceived (group : Fin 3) (block : List Byte) (arrival : Arrival) (dt : Nat) (s : State) : Outcome State Fault Refusal :=
  .next (unitDo (passTime s dt) (fun e d => blockIn d group block arrival (headType group) (fun d b => rxHead e d group b)))

/-- PACKET_DATA_BLOCK: A data block joins its owner's open packet, or is discarded (spec/09_caravan_link.md R279). -/
def execPacketDataBlock (group : Fin 3) (block : List Byte) (arrival : Arrival) (s : State) : Outcome State Fault Refusal :=
  .next (unitDo s (fun _ d => dataIn d group block arrival))

/-- PACKET_END_RECEIVED: An END closes a packet, which is delivered, forwarded, queued as a request, or discarded (spec/09_caravan_link.md
R278). -/
def execPacketEndReceived (group : Fin 3) (block : List Byte) (arrival : Arrival) (s : State) : Outcome State Fault Refusal :=
  .next (unitDo s (fun e d => blockIn d group block arrival (fun t => decide (t = 0x3F)) (fun d b => rxEnd e d group b)))

/-- REGRD: One 32-bit read by master 1, with a response (spec/09_caravan_link.md R287). -/
def execRegrd (s : State) : Outcome State Fault Refusal := .next (unitDo s doRegRd)

/-- REGWR: One 32-bit write or a guarded pair by master 1 (spec/09_caravan_link.md R287). -/
def execRegwr (s : State) : Outcome State Fault Refusal := .next (unitDo s doRegWr)

/-- BURSTRD: Reads of count words from rising addresses (spec/09_caravan_link.md R287). -/
def execBurstrd (s : State) : Outcome State Fault Refusal := .next (unitDo s doBurstRd)

/-- BURSTWR: Writes of count words to rising addresses (spec/09_caravan_link.md R287). -/
def execBurstwr (s : State) : Outcome State Fault Refusal := .next (unitDo s doBurstWr)

/-- DOWNLOAD: Writes bundle data blocks into the download buffer (spec/15_boot_identity_heads.md R439). -/
def execDownload (s : State) : Outcome State Fault Refusal := .next (unitDo s doDownload)

/-- MAILBOX: Delivers a message to port MBOX_PANEL (spec/09_caravan_link.md R287). -/
def execMailbox (s : State) : Outcome State Fault Refusal := .next (unitDo s (fun _ d => doMailbox d))

/-- TTSTAGE: Holds the trunk timetable, writes TT_MAP0–TT_MAP255 and releases the hold (spec/09_caravan_link.md R287). -/
def execTtstage (s : State) : Outcome State Fault Refusal := .next (unitDo s doTtStage)

/-- GRANT: A POWER GRANT sets the class in force to the lower of the granted class and the signature class (spec/16_power_and_modes.md
R464). -/
def execGrant (s : State) : Outcome State Fault Refusal := .next (unitDo s (fun _ d => doGrant d))

/-- NOTICE: A POWER NOTICE sets PWR_STATUS.shutdown (spec/16_power_and_modes.md R464). -/
def execNotice (s : State) : Outcome State Fault Refusal := .next (unitDo s (fun _ d => doNotice d))

/-- QUERY: A POWER QUERY returns PWR_CLASS and changes nothing (spec/16_power_and_modes.md R464). -/
def execQuery (s : State) : Outcome State Fault Refusal := .next (unitDo s (fun _ d => doQuery d))

/-- RESET: A RESET request schedules a device reset after its response has left the trunk, or after 1 ms (spec/09_caravan_link.md R287).
-/
def execReset (s : State) : Outcome State Fault Refusal := .next (unitDo s (fun _ d => doReset d))

/-- TRUNK_SLOT: A trunk block opportunity sends the next block of its owner, or IDLE, or MAP in slot 0 (spec/09_caravan_link.md R282). -/
def execTrunkSlot (late : Bool) (dt : Nat) (s : State) : Outcome State Fault Refusal :=
  .next (unitDo (passTime s dt) (fun e d => trunkSlot e d late))

/-- TT_EPOCH_START: At an epoch start, the staged trunk map is checked or a change cycle advances, and the new map applies at epoch E + 40
(spec/09_caravan_link.md R284). -/
def execTtEpochStart (s : State) : Outcome State Fault Refusal := .next (unitDo s epochStart)

/-- FEEDER_RETURN_BLOCK: A block position of a feeder return lane sends the next block of a queued packet (a forwarded request, a time or
link message, or IDENTITY), or IDLE (spec/09_caravan_link.md R290). -/
def execFeederReturnBlock (feeder : Fin 2) (dt : Nat) (s : State) : Outcome State Fault Refusal :=
  .next (unitDo (passTime s dt) (fun e d => returnBlock e d feeder))

end Sys2Proof.Machine
end

