-- ==== Sys2Proof/Machine/ExecModes.lean ====
section
/-! DEFINITION. Line-up, modes, resets, the tree identity, idle units and the reference: the meaning of each command. -/

namespace Sys2Proof.Machine

open Host

/-- LINEUP_START: The line holds at least 17 V for 10 ms, and the line die starts the hub rails, the crystal, AON and the exported rails
(spec/16_power_and_modes.md R461). -/
def execLineupStart (s : State) : Outcome State Fault Refusal :=
  .next (if s.sys.mode = .lineup then withSys s { s.sys with rails := true, vout := true } else s)

/-- LINEUP_COMPLETE: 1 ms after the 1.8 V rail regulates, the straps are sampled and the device enters BOOT, or HALT if the HALT latch is
set (spec/15_boot_identity_heads.md R433). -/
def execLineupComplete (straps : Straps) (volts : Nat) (ma : Nat) (s : State) : Outcome State Fault Refusal :=
  .next (lineupComplete s straps volts ma)

/-- LINE_RANGE: The line enters 16–18 V or 57–60 V and PWR_STATUS.range is set (spec/16_power_and_modes.md R466). -/
def execLineRange (volts : Nat) (ma : Nat) (s : State) : Outcome State Fault Refusal :=
  .next (aonDo s (fun _ d => lineRange (lineShown d volts ma)))

/-- SHUTDOWN_WARNING: The line has been below 16 V for 10 µs, so PWR_STATUS.warn is set and event 45 is raised (spec/16_power_and_modes.md
R466). -/
def execShutdownWarning (volts : Nat) (ma : Nat) (s : State) : Outcome State Fault Refusal :=
  .next (aonDo s (fun _ d => lineWarn (lineShown d volts ma)))

/-- LINE_FAULT: The line has been below 16 V for 1 ms or above 60 V for 10 µs, and FS001 is raised (spec/16_power_and_modes.md R466). -/
def execLineFault (volts : Nat) (ma : Nat) (s : State) : Outcome State Fault Refusal :=
  .next (aonDo s (fun _ d => lineFault (lineShown d volts ma)))

/-- LINE_POWER_LOST: The line falls below 12 V, the hub rails stop and the mode becomes LINEUP (spec/16_power_and_modes.md R466). -/
def execLinePowerLost (s : State) : Outcome State Fault Refusal := .next (lineLost s)

/-- HALT_LATCH_CLEAR: The line has stayed below 5 V for 200 ms, so the HALT latch is cleared (spec/16_power_and_modes.md R467). -/
def execHaltLatchClear (s : State) : Outcome State Fault Refusal :=
  .next (if s.sys.mode = .lineup ∧ s.sys.rails = false then withSys s { s.sys with halt := false } else s)

/-- MODE_REQUEST_RUN: A write of RUN to PWR_MODE.req by master 2 moves READY to RUN and opens the sluices at each context's next frame
start (spec/16_power_and_modes.md R475). -/
def execModeRequestRun (master : Fin 7) (s : State) : Outcome State Fault Refusal := .next (writeDo s master (unitBase .power 0 + 4) 6#32)

/-- MODE_REQUEST_IDLE: A write of IDLE to PWR_MODE.req starts the drain towards IDLE (spec/16_power_and_modes.md R476). -/
def execModeRequestIdle (master : Fin 7) (s : State) : Outcome State Fault Refusal :=
  .next (writeDo s master (unitBase .power 0 + 4) 8#32)

/-- MODE_REQUEST_FALLOW: A write of FALLOW to PWR_MODE.req in IDLE with CFG_FALLOW = 1 enters FALLOW, with retention and domains switched
off (spec/16_power_and_modes.md R478). -/
def execModeRequestFallow (master : Fin 7) (s : State) : Outcome State Fault Refusal :=
  .next (writeDo s master (unitBase .power 0 + 4) 9#32)

/-- MODE_REQUEST_DIAG: A write of DIAG to PWR_MODE.req moves READY to DIAG (spec/16_power_and_modes.md R475). -/
def execModeRequestDiag (master : Fin 7) (s : State) : Outcome State Fault Refusal :=
  .next (writeDo s master (unitBase .power 0 + 4) 0xA#32)

/-- MODE_REQUEST_LEAVE_IDLE: A write of leave-IDLE to PWR_MODE.req returns IDLE to the previous mode, or ends a drain in progress
(spec/16_power_and_modes.md R475). -/
def execModeRequestLeaveIdle (master : Fin 7) (s : State) : Outcome State Fault Refusal :=
  .next (writeDo s master (unitBase .power 0 + 4) 0xF#32)

/-- IDLE_DRAIN_COMPLETE: No frame is open any more, so the pipe datapaths are gated, the mode becomes IDLE and the lanes enter electrical
idle (spec/16_power_and_modes.md R476). -/
def execIdleDrainComplete (s : State) : Outcome State Fault Refusal :=
  .next (if s.sys.drain ∧ noFrameOpen s.dev then drainComplete s else s)

/-- IDLE_DRAIN_TIMEOUT: 40 ms after an IDLE request, every frame still open closes with close cause 3 (spec/16_power_and_modes.md R476).
-/
def execIdleDrainTimeout (s : State) : Outcome State Fault Refusal :=
  .next (if s.sys.drain then unitDo s (fun _ d => closeAll d 3) else s)

/-- WAKE_N: WAKE_N held low for 1 µs leaves IDLE, or ends FALLOW and enters TRAIN (spec/16_power_and_modes.md R475). -/
def execWakeN (s : State) : Outcome State Fault Refusal :=
  .next (if s.sys.mode = .fallow then settle (wakeFallow s) else settle (leaveIdle s))

/-- RESET_N_ASSERT: RESET_N held low for 1 µs puts the device in reset, and it stays in reset while the pin is low
(spec/16_power_and_modes.md R479). -/
def execResetNAssert (s : State) : Outcome State Fault Refusal :=
  .next (if aonRuns s.sys then deviceReset (withSys s { s.sys with resetLow := true }) 3 else s)

/-- RESET_N_RELEASE: 10 µs after RESET_N rises, the boot ROM starts (spec/16_power_and_modes.md R479). -/
def execResetNRelease (s : State) : Outcome State Fault Refusal := .next (withSys s { s.sys with resetLow := false })

/-- DEVICE_RESET: A pending device reset takes effect after its delay: every unit is reset and the device enters BOOT, while AON and
customs records are kept (spec/01_architecture.md R30). -/
def execDeviceReset (s : State) : Outcome State Fault Refusal :=
  .next (if aonRuns s.sys ∧ dueResets s ≠ [] then deviceReset s (firstCause (dueResets s)) else s)

/-- TREE_ID_SET: The ONCE write of GLOBAL_TREE.tree_id_set in the root copies the value to tree_id and sends new identity blocks down the
tree (spec/01_architecture.md R28). -/
def execTreeIdSet (master : Fin 7) (v : Byte) (s : State) : Outcome State Fault Refusal :=
  .next (writeDo s master (unitBase .glob 0 + 0x10) (v.setWidth 32))

/-- IDLE_UNIT_APPLY: Within 1 µs of a staged write to an idle unit, its staged registers apply together, with any refusal check
(spec/12_register_access.md R365). -/
def execIdleUnitApply (unit : IdleUnit) (s : State) : Outcome State Fault Refusal := .next (idleApply s unit)

/-- REF_SWITCH_RECOVERED: Within 1 ms of the trunk group becoming READY, a recovering device's PLLs change to the reference recovered from
TRET without a phase step (spec/01_architecture.md R18). -/
def execRefSwitchRecovered (s : State) : Outcome State Fault Refusal :=
  .next (if recovering s.sys.straps ∧ s.sys.crystal ∧ (vget s.dev.groups 0).state = .ready then withSys s { s.sys with crystal := false } else s)

/-- REF_SWITCH_CRYSTAL: When the trunk group leaves READY, the PLLs return to the crystal, ref_lost is set and a TRACKING clock enters
HOLDOVER (spec/11_time.md R329). -/
def execRefSwitchCrystal (s : State) : Outcome State Fault Refusal :=
  .next (if aonRuns s.sys ∧ recovering s.sys.straps ∧ s.sys.crystal = false ∧ leftReady s.dev then refToCrystal s else s)

/-- PLL_LOCK_LOST: The CORE, pipe, pan or time-base PLL reports loss of lock for 1 µs and FS004 is raised (spec/16_power_and_modes.md
R484). -/
def execPllLockLost (s : State) : Outcome State Fault Refusal := .next (aonDo s (fun _ d => report d 4))

end Sys2Proof.Machine
end

