-- ==== Sys2Proof/Machine/ExecPipes.lean ====
section
/-! DEFINITION. Pipes, the toll wheel, the harvest, views and taps: the meaning of each command. -/

namespace Sys2Proof.Machine

open Host

/-- INLINE_ROW_READY: An in-line row becomes ready in every exposure and starts at once, or at the end of the pixel phase of the Bank M
row in progress (spec/05_pipe_sharing.md R148). -/
def execInlineRowReady (pipe : Fin 4) (turnaround : Bool) (s : State) : Outcome State Fault Refusal :=
  .next (pipeDo s (fun _ d => inlineRowReady d pipe turnaround))

/-- PIPE_ROW_DONE: The pipe finishes a row and starts the next in-line, flush or Bank M row (spec/05_pipe_sharing.md R147). -/
def execPipeRowDone (pipe : Fin 4) (s : State) : Outcome State Fault Refusal := .next (pipeDo s (fun _ d => rowDone d pipe))

/-- STRIPE_DONE: A memory-fed stripe ends, is released, and the next stripe starts or the slot overruns (spec/05_pipe_sharing.md R160). -/
def execStripeDone (pipe : Fin 4) (s : State) : Outcome State Fault Refusal := .next (pipeDo s (fun _ d => stripeDone d pipe))

/-- PIPE_TT_PERIOD_START: A timetable period starts, and the staged timetable applies or is refused (spec/05_pipe_sharing.md R157). -/
def execPipeTtPeriodStart (pipe : Fin 4) (s : State) : Outcome State Fault Refusal := .next (pipeDo s (fun _ d => periodStart d pipe))

/-- PIPE_SLOT_BOUNDARY: A slot window opens and the pipe checks the run-ahead, then swaps halves or squashes, and raises the slot boundary
event (spec/05_pipe_sharing.md R167). -/
def execPipeSlotBoundary (pipe : Fin 4) (s : State) : Outcome State Fault Refusal := .next (pipeDo s (fun _ d => slotOpens d pipe))

/-- SLOT_SWAP_DONE: The 512-clock swap ends and the first row of the slot starts (spec/05_pipe_sharing.md R167). -/
def execSlotSwapDone (pipe : Fin 4) (s : State) : Outcome State Fault Refusal := .next (pipeDo s (fun _ d => swapDone d pipe))

/-- WAYSTATION_RESTORE_DONE: A waystation restore into the landing half completes, and any swap that waited for it proceeds
(spec/05_pipe_sharing.md R165). -/
def execWaystationRestoreDone (pipe : Fin 4) (s : State) : Outcome State Fault Refusal := .next (pipeDo s (fun _ d => restoreDone d pipe))

/-- WAYSTATION_SAVE_DONE: The state of the previous slot is saved to its waystation (spec/05_pipe_sharing.md R167). -/
def execWaystationSaveDone (pipe : Fin 4) (s : State) : Outcome State Fault Refusal := .next (pipeDo s (fun _ d => saveDone d pipe))

/-- TOLL_VISIT: A pan bank visit serves one 64-byte line for the position's owner, or idles (spec/05_pipe_sharing.md R171). -/
def execTollVisit (bank : Fin 8) (t : Nat) (busy : Option (Fin 524288)) (corrected : Bool) (s : State) : Outcome State Fault Refusal :=
  .next (unitDo s (fun _ d => tollVisit d bank t (busy.map Fin.val) corrected))

/-- PAN_SCRUB: The scrubber reads a pan line and rewrites it where it was corrected (spec/13_fault_collector.md R404). -/
def execPanScrub (line : Fin 524288) (found : Fin 3) (s : State) : Outcome State Fault Refusal :=
  .next (unitDo s (fun _ d => panScrub d line found))

/-- HARVEST_RECORD_WRITE: After the frame's last accepted row leaves stage 12, the harvest writes and seals the record, rings the doorbell
and queues its trunk packet (spec/04_colour_and_harvest.md R133). -/
def execHarvestRecordWrite (ctx : Fin 16) (s : State) : Outcome State Fault Refusal :=
  .next (unitDo s (fun e d => harvestWrite e.mode d ctx))

/-- VIEW_LINE_WRITE: A complete view output line is written to the view's staging ring, or the view cuts its frame on overflow
(spec/06_views_taps_convoys.md R187). -/
def execViewLineWrite (view : Fin 32) (s : State) : Outcome State Fault Refusal := .next (unitDo s (fun e d => viewStep e.mode d view))

/-- SHED_STEP: Each 100 ms of the shedding request, the unshed views of the lowest priority present are shed
(spec/06_views_taps_convoys.md R192). -/
def execShedStep (s : State) : Outcome State Fault Refusal := .next (unitDo s (fun _ d => if d.power.shedding then shedStep d else d))

/-- TAP_ARM: TAP_CTRL.arm arms a tap channel, or is refused (spec/06_views_taps_convoys.md R194). -/
def execTapArm (chan : Fin 4) (master : Fin 7) (s : State) : Outcome State Fault Refusal :=
  .next (writeDo s master (unitBase .tap 0 + 0x40 * chan + 0xC) 1#32)

/-- TAP_DISARM: TAP_CTRL.disarm stops the channel at its next row boundary and sends a truncated tap frame end
(spec/06_views_taps_convoys.md R194). -/
def execTapDisarm (chan : Fin 4) (master : Fin 7) (s : State) : Outcome State Fault Refusal :=
  .next (writeDo s master (unitBase .tap 0 + 0x40 * chan + 0xC) 2#32)

end Sys2Proof.Machine
end

