-- ==== Sys2Proof/Machine/ExecPower.lean ====
section
/-! DEFINITION. Power domains, grants, feeder lines and heat: the meaning of each command. -/

namespace Sys2Proof.Machine

open Host

/-- POWER_APPLY: PWR_CTRL.apply judges the domain masks and switches domains off at once and on in sequence, or refuses
(spec/16_power_and_modes.md R472). -/
def execPowerApply (master : Fin 7) (s : State) : Outcome State Fault Refusal := .next (writeDo s master (unitBase .power 0 + 0x24) 1#32)

/-- DOMAIN_ON: A switched-on domain becomes usable (spec/16_power_and_modes.md R472). -/
def execDomainOn (s : State) : Outcome State Fault Refusal := .next (unitDo s (fun _ d => domainUp d))

/-- GRANT_ENFORCE: 1 s after a lowering GRANT, the governor switches domains off in order until the charge fits
(spec/16_power_and_modes.md R465). -/
def execGrantEnforce (s : State) : Outcome State Fault Refusal := .next (aonDo s grantEnforce)

/-- FEED_DETECT_DONE: After 100 ms of feeder detection, a valid class goes to RAMP; otherwise detection waits 1 s
(spec/16_power_and_modes.md R468). -/
def execFeedDetectDone (feeder : Fin 2) (ma : Nat) (s : State) : Outcome State Fault Refusal :=
  .next (unitDo s (fun _ d => feedDetect d feeder ma))

/-- FEED_DETECT_RETRY: 1 s after an invalid feeder reading, detection starts again (spec/16_power_and_modes.md R468). -/
def execFeedDetectRetry (feeder : Fin 2) (s : State) : Outcome State Fault Refusal := .next (unitDo s (fun _ d => feedRetry d feeder))

/-- FEED_RAMP_DONE: The 20 ms feeder ramp ends and HOLD begins (spec/16_power_and_modes.md R468). -/
def execFeedRampDone (feeder : Fin 2) (s : State) : Outcome State Fault Refusal := .next (unitDo s (fun _ d => feedRamped d feeder))

/-- FEED_HOLD_DONE: The 230 ms hold ends, feeder line-up completes and the feeder group enters TRAINING (spec/16_power_and_modes.md R468).
-/
def execFeedHoldDone (feeder : Fin 2) (volts : Nat) (ma : Nat) (s : State) : Outcome State Fault Refusal :=
  .next (unitDo s (fun _ d => feedHeld (feedShown d feeder volts ma) feeder))

/-- FEED_OVERCURRENT: The feeder current or voltage breaks its limit, so the line is removed and the feeder enters BACKOFF
(spec/16_power_and_modes.md R469). -/
def execFeedOvercurrent (feeder : Fin 2) (volts : Nat) (ma : Nat) (s : State) : Outcome State Fault Refusal :=
  .next (unitDo s (fun _ d => feedBroken (feedShown d feeder volts ma) feeder))

/-- FEED_BACKOFF_DONE: 1 s of BACKOFF ends and detection starts again (spec/16_power_and_modes.md R468). -/
def execFeedBackoffDone (feeder : Fin 2) (s : State) : Outcome State Fault Refusal := .next (unitDo s (fun _ d => feedAgain d feeder))

/-- THERMAL_SAMPLE: Every 100 µs the sensors are sampled, and warning, forced COOL and shedding begin or end (spec/16_power_and_modes.md
R482). -/
def execThermalSample (temps : Vector Int 14) (s : State) : Outcome State Fault Refusal :=
  .next (aonDo s (fun _ d => thermSample d temps.toList))

/-- THERMAL_TRIP: The AON comparators reach 158 °C and FS000 is raised, or HALT is entered directly in FALLOW (spec/16_power_and_modes.md
R483). -/
def execThermalTrip (s : State) : Outcome State Fault Refusal := .next (aonDo s thermalTrip)

/-- THERM_PEAK_CLEAR: THERM_PEAK.clear restarts the peak from the current Tj (spec/16_power_and_modes.md R481). -/
def execThermPeakClear (master : Fin 7) (s : State) : Outcome State Fault Refusal :=
  .next (writeDo s master (unitBase .thermal 0 + 0xC) 0x80000000#32)

end Sys2Proof.Machine
end

