-- ==== Sys2Proof/Machine/ExecRegisters.lean ====
section
/-! DEFINITION. Register writes and the fault collector: the meaning of each command. -/

namespace Sys2Proof.Machine

open Host

/-- REGISTER_WRITE: A write to a register with no row of its own takes effect under its access code, or is rejected
(spec/12_register_access.md R363). -/
def execRegisterWrite (master : Fin 7) (width : Width) (addr : Word) (v : Word) (s : State) : Outcome State Fault Refusal :=
  .next (devDo s (fun e d => (busWrite e d master (widthBytes width) addr.toNat v).2))

/-- SQC_CLEAR: A write to a sequence-clear status register clears bits only if its sequence number matches (spec/12_register_access.md
R369). -/
def execSqcClear (master : Fin 7) (addr : Word) (v : Word) (s : State) : Outcome State Fault Refusal :=
  .next (if sqcAt addr.toNat then writeDo s master addr.toNat v else s)

/-- ONCE_WRITE: A write to a write-once field takes effect once, then logs CONFIG_LOCK on a differing value (spec/12_register_access.md
R374). -/
def execOnceWrite (master : Fin 7) (v : Word) (s : State) : Outcome State Fault Refusal :=
  .next (writeDo s master (unitBase .glob 0 + 0x10) v)

/-- GUARDED_VALUE_WRITE: A write to the value word of a guarded pair is held pending its complement (spec/12_register_access.md R371). -/
def execGuardedValueWrite (master : Fin 7) (addr : Word) (v : Word) (s : State) : Outcome State Fault Refusal :=
  .next (if guardedAt addr.toNat then writeDo s master addr.toNat v else s)

/-- GUARDED_COMPLEMENT_WRITE: A complement write completes a pending guarded pair, or fails it and logs GUARD (spec/12_register_access.md
R371). -/
def execGuardedComplementWrite (master : Fin 7) (addr : Word) (v : Word) (s : State) : Outcome State Fault Refusal :=
  .next (if pairAt addr.toNat then writeDo s master addr.toNat v else s)

/-- GUARD_WINDOW_EXPIRE: 1,024 CORE cycles pass without the complement, so the pair fails and logs GUARD (spec/12_register_access.md
R371). -/
def execGuardWindowExpire (master : Fin 7) (s : State) : Outcome State Fault Refusal := .next (aonDo s (fun _ d => guardExpire d master))

/-- BIT_ALIAS_WRITE: A write in the bit alias window sets one register bit by an indivisible read-modify-write (spec/12_register_access.md
R375). -/
def execBitAliasWrite (master : Fin 7) (addr : Word) (bit : Fin 32) (v : Word) (s : State) : Outcome State Fault Refusal :=
  .next (writeDo s master (aliasTarget addr bit) v)

/-- FAULT_REGISTER: The collector registers a fault report, decides the acted class, records it and takes its action
(spec/13_fault_collector.md R393). -/
def execFaultRegister (count : Nat) (dt : Nat) (s : State) : Outcome State Fault Refusal :=
  .next (aonDo (passTime s dt) (fun e d => romAck (faultRegister e d count)))

/-- FAULT_FORCE: A write to FLT_FORCE reports a forced fault on a source (spec/13_fault_collector.md R394). -/
def execFaultForce (index : Fin 6) (master : Fin 7) (v : Word) (s : State) : Outcome State Fault Refusal :=
  .next (writeDo s master (unitBase .customs 0 + 0x80 + 4 * index) v)

/-- FAULT_ACK: A write to FLT_ACK acknowledges a source if its number matches, or sets ack_stale (spec/13_fault_collector.md R397). -/
def execFaultAck (master : Fin 7) (v : Word) (s : State) : Outcome State Fault Refusal :=
  .next (writeDo s master (unitBase .customs 0 + 0x40) v)

/-- UNIT_RESET: FLT_UNIT reset puts a fenced unit's registers to their reset values (spec/13_fault_collector.md R402). -/
def execUnitReset (unit : Fin 256) (master : Fin 7) (s : State) : Outcome State Fault Refusal :=
  .next (writeDo s master (unitBase .customs 0 + 0x44) (BitVec.ofNat 32 (0x100 + unit)))

/-- UNIT_RETURN: FLT_UNIT return lifts a fence when its conditions hold, and DEGRADED returns to RUN when none remain
(spec/13_fault_collector.md R402). -/
def execUnitReturn (unit : Fin 256) (master : Fin 7) (s : State) : Outcome State Fault Refusal :=
  .next (writeDo s master (unitBase .customs 0 + 0x44) (BitVec.ofNat 32 (0x200 + unit)))

/-- FORCED_CLEAR: FLT_CTRL.forced_clear clears forced_present (spec/13_fault_collector.md R396). -/
def execForcedClear (master : Fin 7) (s : State) : Outcome State Fault Refusal := .next (writeDo s master (unitBase .customs 0 + 4) 2#32)

/-- FIRST_CLEAR: FLT_CTRL.first_clear marks the first-error record invalid (spec/13_fault_collector.md R399). -/
def execFirstClear (master : Fin 7) (s : State) : Outcome State Fault Refusal := .next (writeDo s master (unitBase .customs 0 + 4) 1#32)

/-- LEDGER_ADVANCE: A write of FLT_LEDGER_PTR.rd advances the ledger read index, if the count stays valid (spec/13_fault_collector.md
R399). -/
def execLedgerAdvance (rd : Fin 64) (master : Fin 7) (s : State) : Outcome State Fault Refusal :=
  .next (writeDo s master (unitBase .customs 0 + 0x48) (BitVec.ofNat 32 rd))

/-- HEARTBEAT: A write to CUS_BEAT restarts the customs heartbeat (spec/13_fault_collector.md R406). -/
def execHeartbeat (master : Fin 7) (v : Word) (s : State) : Outcome State Fault Refusal :=
  .next (writeDo s master (unitBase .customs 0 + 0x3C) v)

/-- HEARTBEAT_MISSED: The heartbeat limit passes without a write, so FS169 is raised (spec/13_fault_collector.md R406). -/
def execHeartbeatMissed (dt : Nat) (s : State) : Outcome State Fault Refusal :=
  .next (if s.sys.mode = .fallow then passTime s dt else aonDo (passTime s dt) beatMissed)

end Sys2Proof.Machine
end

