-- ==== Sys2Proof/Machine/ExecTime.lean ====
section
/-! DEFINITION. Network time, triggers and captures: the meaning of each command. -/

namespace Sys2Proof.Machine

open Host

/-- TIME_ADDEND: A write of TIME_ADDEND changes the clock rate from the fourth time-base cycle after it (spec/11_time.md R327). -/
def execTimeAddend (master : Fin 7) (v : Word) (s : State) : Outcome State Fault Refusal :=
  .next (writeDo s master (unitBase .time 0 + 8) v)

/-- TIME_STEP: TIME_CTRL.step requests a step, which is applied or refused under the clock state (spec/11_time.md R332). -/
def execTimeStep (master : Fin 7) (s : State) : Outcome State Fault Refusal := .next (writeDo s master (unitBase .time 0) 1#32)

/-- HOLDOVER_SET: TIME_CTRL.holdover_set moves TRACKING to HOLDOVER (spec/11_time.md R331). -/
def execHoldoverSet (master : Fin 7) (s : State) : Outcome State Fault Refusal := .next (writeDo s master (unitBase .time 0) 2#32)

/-- HOLDOVER_CLEAR: TIME_CTRL.holdover_clear moves HOLDOVER to TRACKING (spec/11_time.md R331). -/
def execHoldoverClear (master : Fin 7) (s : State) : Outcome State Fault Refusal := .next (writeDo s master (unitBase .time 0) 4#32)

/-- TIME_SNAP_NS: A read of TIME_SNAP_NS takes the master's time snapshot (spec/11_time.md R330). -/
def execTimeSnapNs (master : Fin 7) (dt : Nat) (s : State) : Outcome State Fault Refusal :=
  .next (readDo (passTime s dt) master (unitBase .time 0 + 0x20))

/-- TSQ_POP: A read of TIME_TSQq_HDR pops the oldest timestamp entry and latches its time (spec/11_time.md R342). -/
def execTsqPop (queue : Fin 6) (master : Fin 7) (s : State) : Outcome State Fault Refusal :=
  .next (readDo s master (unitBase .time 0 + 0x200 + 0x20 * queue))

/-- TRIGGER_FIRE: A trigger output starts its pulse on a selected convoy tick, or the firing is skipped (spec/11_time.md R344). -/
def execTriggerFire (trigger : Fin 16) (dt : Nat) (s : State) : Outcome State Fault Refusal :=
  .next (aonDo (passTime s dt) (fun e d => trigFire e d trigger))

/-- TRIGGER_PULSE_END: The trigger pulse width elapses and the output returns to its inactive level (spec/11_time.md R344). -/
def execTriggerPulseEnd (trigger : Fin 16) (s : State) : Outcome State Fault Refusal := .next (aonDo s (fun _ d => trigEnd d trigger))

/-- CAPTURE_EDGE: An enabled capture edge is accepted into the FIFO with its timestamp, or is discarded (spec/11_time.md R347). -/
def execCaptureEdge (input : Fin 8) (phase : Fin 4) (rising : Bool) (dt : Nat) (s : State) : Outcome State Fault Refusal :=
  .next (aonDo (passTime s dt) (fun e d => capEdge e d input phase rising))

/-- CAPTURE_STUCK: A capture input is held active beyond its limit, so cap_stuck is set and the source is raised (spec/11_time.md R348).
-/
def execCaptureStuck (input : Fin 8) (s : State) : Outcome State Fault Refusal := .next (aonDo s (fun _ d => capStuck d input))

/-- CAPTURE_POP: A read of TIME_CAPn_HDR pops the oldest capture entry (spec/11_time.md R349). -/
def execCapturePop (input : Fin 8) (master : Fin 7) (s : State) : Outcome State Fault Refusal :=
  .next (readDo s master (unitBase .time 0 + 0x80C + 0x20 * input))

end Sys2Proof.Machine
end

