-- ==== Sys2Proof/Machine/ExecTws.lean ====
section
/-! DEFINITION. The two-wire controller ports: the meaning of each command. -/

namespace Sys2Proof.Machine

open Host

/-- TWS_SUBMIT: A write of TWS_SUBMIT queues a descriptor, or is rejected (spec/14_two_wire.md R424). -/
def execTwsSubmit (port : Fin 9) (desc : Fin 16) (master : Fin 7) (s : State) : Outcome State Fault Refusal :=
  .next (writeDo s master (ctlBase port + 0x14) (BitVec.ofNat 32 desc))

/-- TWS_TRANSACTION_START: The port starts the head of a queue when the bus is free and the window rules allow (spec/14_two_wire.md R431).
-/
def execTwsTransactionStart (port : Fin 9) (dt : Nat) (s : State) : Outcome State Fault Refusal :=
  .next (unitDo (passTime s dt) (fun e d => twsStart e d port))

/-- TWS_TRANSACTION_END: A transaction ends, a completion is queued and the doorbell rings, or a retry is scheduled (spec/14_two_wire.md
R426). -/
def execTwsTransactionEnd (port : Fin 9) (status : Fin 8) (count : Nat) (data : List Byte) (s : State) : Outcome State Fault Refusal :=
  .next (unitDo s (fun _ d => twsEnd d port status count data))

/-- TWS_RETRY_TIMER: 100 µs after a not-acknowledged address, the transaction is retried (spec/14_two_wire.md R426). -/
def execTwsRetryTimer (port : Fin 9) (s : State) : Outcome State Fault Refusal := .next (unitDo s (fun _ d => twsAgain d port))

/-- ARBITRATION_LOST: A controller samples SDA low while driving high, stops, and waits for bus free (spec/14_two_wire.md R427). -/
def execArbitrationLost (cut : BusCut) (s : State) : Outcome State Fault Refusal :=
  .next (unitDo s (fun _ d => twsLost d cut.port cut.bytes))

/-- TWS_STRETCH_TIMEOUT: SCL stays low beyond the stretch limit, so the controller releases the bus, ends with status 4 and self-resets
(spec/14_two_wire.md R428). -/
def execTwsStretchTimeout (cut : BusCut) (s : State) : Outcome State Fault Refusal :=
  .next (unitDo s (fun e d => twsStretch e d cut.port cut.bytes))

/-- TWS_BUS_RECOVERY: SDA stuck low on a free bus, or TWS_CTRL.recover, starts bus recovery of up to nine SCL pulses (spec/14_two_wire.md
R429). -/
def execTwsBusRecovery (port : Fin 9) (s : State) : Outcome State Fault Refusal := .next (unitDo s (fun _ d => twsRecover d port))

/-- TWS_RECOVERY_DONE: Recovery ends with a STOP when SDA is high, or fails after the ninth pulse (spec/14_two_wire.md R429). -/
def execTwsRecoveryDone (port : Fin 9) (high : Bool) (s : State) : Outcome State Fault Refusal :=
  .next (unitDo s (fun e d => twsRecovered e d port high))

/-- TWS_FLUSH: TWS_CTRL.flush ends every unstarted descriptor with status 6 (spec/14_two_wire.md R426). -/
def execTwsFlush (port : Fin 9) (master : Fin 7) (s : State) : Outcome State Fault Refusal :=
  .next (writeDo s master (ctlBase port + 0x10) 2#32)

/-- TWS_DONE_POP: A read of TWS_DONE pops the oldest completion (spec/14_two_wire.md R426). -/
def execTwsDonePop (port : Fin 9) (master : Fin 7) (s : State) : Outcome State Fault Refusal :=
  .next (readDo s master (ctlBase port + 0x18))

/-- TWS_WINDOW_OPEN: A frame window opens open µs after the reference event (spec/14_two_wire.md R431). -/
def execTwsWindowOpen (port : Fin 8) (dt : Nat) (s : State) : Outcome State Fault Refusal :=
  .next (unitDo (passTime s dt) (fun e d => windowOpens e d port))

/-- TWS_WINDOW_CLOSE: A frame window closes len µs after it opened (spec/14_two_wire.md R431). -/
def execTwsWindowClose (port : Fin 8) (dt : Nat) (s : State) : Outcome State Fault Refusal :=
  .next (unitDo (passTime s dt) (fun e d => windowCloses e d port))

end Sys2Proof.Machine
end

