-- ==== Sys2Proof/Machine/ExecTwt.lean ====
section
/-! DEFINITION. The two-wire target port: the meaning of each command. -/

namespace Sys2Proof.Machine

open Host

/-- TWT_ADDRESS: A START and address on TWT are matched against the slots, and the transaction opens under a view (spec/14_two_wire.md
R411). -/
def execTwtAddress (address : Fin 128) (read : Bool) (s : State) : Outcome State Fault Refusal :=
  .next (twtDo s (fun e d => twtAddress e d address read))

/-- SETPTR: Sets the slot pointer (spec/14_two_wire.md R414). -/
def execSetptr (args : List Byte) (n : Nat) (s : State) : Outcome State Fault Refusal :=
  .next (twtDo s (fun e d => twtCommand e d 0x10 args n))

/-- RD32: Reads words from the pointer (spec/14_two_wire.md R414). -/
def execRd32 (args : List Byte) (n : Nat) (s : State) : Outcome State Fault Refusal :=
  .next (twtDo s (fun e d => twtCommand e d 0x11 args n))

/-- WR32: Writes 1–8 words from the pointer (spec/14_two_wire.md R414). -/
def execWr32 (args : List Byte) (n : Nat) (s : State) : Outcome State Fault Refusal :=
  .next (twtDo s (fun e d => twtCommand e d 0x12 args n))

/-- BLKRD: Reads count bytes from the pointer (spec/14_two_wire.md R414). -/
def execBlkrd (args : List Byte) (n : Nat) (s : State) : Outcome State Fault Refusal :=
  .next (twtDo s (fun e d => twtCommand e d 0x13 args n))

/-- BLKWR: Writes count bytes from the pointer (spec/14_two_wire.md R414). -/
def execBlkwr (args : List Byte) (n : Nat) (s : State) : Outcome State Fault Refusal :=
  .next (twtDo s (fun e d => twtCommand e d 0x14 args n))

/-- STATUS: Returns the TWT status bytes (spec/14_two_wire.md R414). -/
def execStatus (args : List Byte) (n : Nat) (s : State) : Outcome State Fault Refusal :=
  .next (twtDo s (fun e d => twtCommand e d 0x20 args n))

/-- LASTERR: Returns and clears the slot's last error (spec/14_two_wire.md R414). -/
def execLasterr (args : List Byte) (n : Nat) (s : State) : Outcome State Fault Refusal :=
  .next (twtDo s (fun e d => twtCommand e d 0x21 args n))

/-- MBPUSH: Pushes a message into the MBOX_TWT inbound queue (spec/14_two_wire.md R417). -/
def execMbpush (args : List Byte) (n : Nat) (s : State) : Outcome State Fault Refusal :=
  .next (twtDo s (fun e d => twtCommand e d 0x30 args n))

/-- MBPOP: Pops the oldest MBOX_TWT outbound message (spec/14_two_wire.md R417). -/
def execMbpop (args : List Byte) (n : Nat) (s : State) : Outcome State Fault Refusal :=
  .next (twtDo s (fun e d => twtCommand e d 0x31 args n))

/-- NOP: Does nothing (spec/14_two_wire.md R414). -/
def execNop (args : List Byte) (n : Nat) (s : State) : Outcome State Fault Refusal :=
  .next (twtDo s (fun e d => twtCommand e d 0x3F args n))

/-- TWT_LEGACY_TRANSACTION: A LEGACY slot transaction translates legacy words through the legacy table (spec/14_two_wire.md R422). -/
def execTwtLegacyTransaction (bytes : List Byte) (n : Nat) (s : State) : Outcome State Fault Refusal :=
  .next (twtDo s (fun e d => twtLegacy e d bytes n))

/-- TWT_WRITE_PHASE_END: A complete write phase issues its held writes in rising order, or issues nothing on a PEC failure
(spec/14_two_wire.md R413). -/
def execTwtWritePhaseEnd (unknown : Option Byte) (stop : Bool) (s : State) : Outcome State Fault Refusal :=
  .next (twtDo s (fun e d => writePhaseEnd e d unknown stop))

/-- TWT_ABORT: A START or STOP off a byte boundary aborts the transaction (spec/14_two_wire.md R420). -/
def execTwtAbort (s : State) : Outcome State Fault Refusal := .next (twtDo s (fun _ d => twtAbort d))

/-- TWT_READ_LATE: A read not ready within 1 ms of stretching supplies 0xFF and sets LASTERR 0x07 (spec/14_two_wire.md R416). -/
def execTwtReadLate (s : State) : Outcome State Fault Refusal := .next (twtDo s (fun _ d => twtReadLate d))

/-- TWT_SDA_RELEASE: SCL held low for 25 ms while TWT drives SDA, so TWT releases SDA (spec/14_two_wire.md R420). -/
def execTwtSdaRelease (s : State) : Outcome State Fault Refusal := .next (twtDo s (fun _ d => twtRelease d))

/-- BUS_FREE: The bus free time after a STOP passes, or the lines stay high for 50 µs, and the bus is free (spec/14_two_wire.md R410). -/
def execBusFree (port : Fin 9) (s : State) : Outcome State Fault Refusal :=
  .next (if port.val = 8 then twtDo s (fun _ d => busFree d port) else unitDo s (fun _ d => busFree d port))

end Sys2Proof.Machine
end

