-- ==== Sys2Proof/Machine/Dispatch.lean ====
section
/-! DEFINITION. Which meaning each command has. -/

namespace Sys2Proof.Machine

def exec (i : Instr) (s : State) : Host.Outcome State Fault Refusal :=
  match i with
  | .lineupStart => Sys2Proof.Machine.execLineupStart s
  | .lineupComplete straps volts ma => Sys2Proof.Machine.execLineupComplete straps volts ma s
  | .lineRange volts ma => Sys2Proof.Machine.execLineRange volts ma s
  | .shutdownWarning volts ma => Sys2Proof.Machine.execShutdownWarning volts ma s
  | .lineFault volts ma => Sys2Proof.Machine.execLineFault volts ma s
  | .linePowerLost => Sys2Proof.Machine.execLinePowerLost s
  | .haltLatchClear => Sys2Proof.Machine.execHaltLatchClear s
  | .modeRequestRun master => Sys2Proof.Machine.execModeRequestRun master s
  | .modeRequestIdle master => Sys2Proof.Machine.execModeRequestIdle master s
  | .modeRequestFallow master => Sys2Proof.Machine.execModeRequestFallow master s
  | .modeRequestDiag master => Sys2Proof.Machine.execModeRequestDiag master s
  | .modeRequestLeaveIdle master => Sys2Proof.Machine.execModeRequestLeaveIdle master s
  | .idleDrainComplete => Sys2Proof.Machine.execIdleDrainComplete s
  | .idleDrainTimeout => Sys2Proof.Machine.execIdleDrainTimeout s
  | .wakeN => Sys2Proof.Machine.execWakeN s
  | .resetNAssert => Sys2Proof.Machine.execResetNAssert s
  | .resetNRelease => Sys2Proof.Machine.execResetNRelease s
  | .deviceReset => Sys2Proof.Machine.execDeviceReset s
  | .treeIdSet master v => Sys2Proof.Machine.execTreeIdSet master v s
  | .idleUnitApply unit => Sys2Proof.Machine.execIdleUnitApply unit s
  | .refSwitchRecovered => Sys2Proof.Machine.execRefSwitchRecovered s
  | .refSwitchCrystal => Sys2Proof.Machine.execRefSwitchCrystal s
  | .pllLockLost => Sys2Proof.Machine.execPllLockLost s
  | .frameStartPacket port vc header dt => Sys2Proof.Machine.execFrameStartPacket port vc header dt s
  | .frameEndPacket port vc header => Sys2Proof.Machine.execFrameEndPacket port vc header s
  | .imageLineReceived port vc dataType header payload crcOk overflow => Sys2Proof.Machine.execImageLineReceived port vc dataType header payload crcOk overflow s
  | .embeddedLineReceived port vc header payload crcOk => Sys2Proof.Machine.execEmbeddedLineReceived port vc header payload crcOk s
  | .shortPacketIgnored port vc dataType header => Sys2Proof.Machine.execShortPacketIgnored port vc dataType header s
  | .hsTimeout port => Sys2Proof.Machine.execHsTimeout port s
  | .portResetDone port => Sys2Proof.Machine.execPortResetDone port s
  | .csiEnable port master v => Sys2Proof.Machine.execCsiEnable port master v s
  | .csiDisable port master v => Sys2Proof.Machine.execCsiDisable port master v s
  | .csiPortReset port master => Sys2Proof.Machine.execCsiPortReset port master s
  | .csiClearCounters port master => Sys2Proof.Machine.execCsiClearCounters port master s
  | .frameTimeout ctx => Sys2Proof.Machine.execFrameTimeout ctx s
  | .epochMark ctx master v => Sys2Proof.Machine.execEpochMark ctx master v s
  | .epochWriteRegistered ctx dt => Sys2Proof.Machine.execEpochWriteRegistered ctx dt s
  | .inlineRowReady pipe turnaround => Sys2Proof.Machine.execInlineRowReady pipe turnaround s
  | .pipeRowDone pipe => Sys2Proof.Machine.execPipeRowDone pipe s
  | .stripeDone pipe => Sys2Proof.Machine.execStripeDone pipe s
  | .pipeTtPeriodStart pipe => Sys2Proof.Machine.execPipeTtPeriodStart pipe s
  | .pipeSlotBoundary pipe => Sys2Proof.Machine.execPipeSlotBoundary pipe s
  | .slotSwapDone pipe => Sys2Proof.Machine.execSlotSwapDone pipe s
  | .waystationRestoreDone pipe => Sys2Proof.Machine.execWaystationRestoreDone pipe s
  | .waystationSaveDone pipe => Sys2Proof.Machine.execWaystationSaveDone pipe s
  | .tollVisit bank t busy corrected => Sys2Proof.Machine.execTollVisit bank t busy corrected s
  | .panScrub line found => Sys2Proof.Machine.execPanScrub line found s
  | .harvestRecordWrite ctx => Sys2Proof.Machine.execHarvestRecordWrite ctx s
  | .viewLineWrite view => Sys2Proof.Machine.execViewLineWrite view s
  | .shedStep => Sys2Proof.Machine.execShedStep s
  | .tapArm chan master => Sys2Proof.Machine.execTapArm chan master s
  | .tapDisarm chan master => Sys2Proof.Machine.execTapDisarm chan master s
  | .add n => Sys2Proof.Machine.execAdd n s
  | .sub n => Sys2Proof.Machine.execSub n s
  | .and n => Sys2Proof.Machine.execAnd n s
  | .or n => Sys2Proof.Machine.execOr n s
  | .xor n => Sys2Proof.Machine.execXor n s
  | .shl n => Sys2Proof.Machine.execShl n s
  | .shr n => Sys2Proof.Machine.execShr n s
  | .sra n => Sys2Proof.Machine.execSra n s
  | .mul n => Sys2Proof.Machine.execMul n s
  | .mulh n => Sys2Proof.Machine.execMulh n s
  | .jr n => Sys2Proof.Machine.execJr n s
  | .addi n => Sys2Proof.Machine.execAddi n s
  | .lui n => Sys2Proof.Machine.execLui n s
  | .ldB n => Sys2Proof.Machine.execLdB n s
  | .ldH n => Sys2Proof.Machine.execLdH n s
  | .ldW n => Sys2Proof.Machine.execLdW n s
  | .stB n => Sys2Proof.Machine.execStB n s
  | .stH n => Sys2Proof.Machine.execStH n s
  | .stW n => Sys2Proof.Machine.execStW n s
  | .loadResponse n => Sys2Proof.Machine.execLoadResponse n s
  | .storeResponse n store => Sys2Proof.Machine.execStoreResponse n store s
  | .beq n => Sys2Proof.Machine.execBeq n s
  | .bne n => Sys2Proof.Machine.execBne n s
  | .blt n => Sys2Proof.Machine.execBlt n s
  | .bge n => Sys2Proof.Machine.execBge n s
  | .bltu n => Sys2Proof.Machine.execBltu n s
  | .jal n => Sys2Proof.Machine.execJal n s
  | .wait n => Sys2Proof.Machine.execWait n s
  | .waitPoll n => Sys2Proof.Machine.execWaitPoll n s
  | .waitWake n => Sys2Proof.Machine.execWaitWake n s
  | .stageT n => Sys2Proof.Machine.execStageT n s
  | .stage n => Sys2Proof.Machine.execStage n s
  | .commit n => Sys2Proof.Machine.execCommit n s
  | .post n => Sys2Proof.Machine.execPost n s
  | .send n => Sys2Proof.Machine.execSend n s
  | .recv n => Sys2Proof.Machine.execRecv n s
  | .arm n => Sys2Proof.Machine.execArm n s
  | .disarm n => Sys2Proof.Machine.execDisarm n s
  | .timeSnapshot n dt => Sys2Proof.Machine.execTimeSnapshot n dt s
  | .timeRead n => Sys2Proof.Machine.execTimeRead n s
  | .fence n => Sys2Proof.Machine.execFence n s
  | .trap n => Sys2Proof.Machine.execTrap n s
  | .halt n => Sys2Proof.Machine.execHalt n s
  | .droverEventPending ev => Sys2Proof.Machine.execDroverEventPending ev s
  | .drvWatchdogExpire n us => Sys2Proof.Machine.execDrvWatchdogExpire n us s
  | .compareMatch unit dt => Sys2Proof.Machine.execCompareMatch unit dt s
  | .controlCycleEvent unit dt => Sys2Proof.Machine.execControlCycleEvent unit dt s
  | .drvReset n master => Sys2Proof.Machine.execDrvReset n master s
  | .drvHalt n master => Sys2Proof.Machine.execDrvHalt n master s
  | .drvRun n master => Sys2Proof.Machine.execDrvRun n master s
  | .laneLocked lane headers history => Sys2Proof.Machine.execLaneLocked lane headers history s
  | .laneLockLost lane => Sys2Proof.Machine.execLaneLockLost lane s
  | .milestoneSend group => Sys2Proof.Machine.execMilestoneSend group s
  | .milestoneReceived group blocks skew => Sys2Proof.Machine.execMilestoneReceived group blocks skew s
  | .idleBlockReceived group block arrival => Sys2Proof.Machine.execIdleBlockReceived group block arrival s
  | .mapFragmentReceived group block arrival => Sys2Proof.Machine.execMapFragmentReceived group block arrival s
  | .identityReceived block arrival => Sys2Proof.Machine.execIdentityReceived block arrival s
  | .trainBlockReceived lane block arrival => Sys2Proof.Machine.execTrainBlockReceived lane block arrival s
  | .packetHoldEnd => Sys2Proof.Machine.execPacketHoldEnd s
  | .packetHeadReceived group block arrival dt => Sys2Proof.Machine.execPacketHeadReceived group block arrival dt s
  | .packetDataBlock group block arrival => Sys2Proof.Machine.execPacketDataBlock group block arrival s
  | .packetEndReceived group block arrival => Sys2Proof.Machine.execPacketEndReceived group block arrival s
  | .regrd => Sys2Proof.Machine.execRegrd s
  | .regwr => Sys2Proof.Machine.execRegwr s
  | .burstrd => Sys2Proof.Machine.execBurstrd s
  | .burstwr => Sys2Proof.Machine.execBurstwr s
  | .download => Sys2Proof.Machine.execDownload s
  | .mailbox => Sys2Proof.Machine.execMailbox s
  | .ttstage => Sys2Proof.Machine.execTtstage s
  | .grant => Sys2Proof.Machine.execGrant s
  | .notice => Sys2Proof.Machine.execNotice s
  | .query => Sys2Proof.Machine.execQuery s
  | .reset => Sys2Proof.Machine.execReset s
  | .trunkSlot late dt => Sys2Proof.Machine.execTrunkSlot late dt s
  | .ttEpochStart => Sys2Proof.Machine.execTtEpochStart s
  | .trainingAttemptTimeout group => Sys2Proof.Machine.execTrainingAttemptTimeout group s
  | .ctleStepTimeout lane => Sys2Proof.Machine.execCtleStepTimeout lane s
  | .fomWindow lane a q updates slicer => Sys2Proof.Machine.execFomWindow lane a q updates slicer s
  | .signalDetect lane => Sys2Proof.Machine.execSignalDetect lane s
  | .signalLost lane => Sys2Proof.Machine.execSignalLost lane s
  | .relockTimeout lane => Sys2Proof.Machine.execRelockTimeout lane s
  | .partnerLockTimeout group => Sys2Proof.Machine.execPartnerLockTimeout group s
  | .listenBurst => Sys2Proof.Machine.execListenBurst s
  | .listenBurstEnd => Sys2Proof.Machine.execListenBurstEnd s
  | .retrain group master => Sys2Proof.Machine.execRetrain group master s
  | .eidlePacketTimeout group => Sys2Proof.Machine.execEidlePacketTimeout group s
  | .rakeBurstReceived group blocks => Sys2Proof.Machine.execRakeBurstReceived group blocks s
  | .wakeTimeout group => Sys2Proof.Machine.execWakeTimeout group s
  | .laneTestMode lane master v => Sys2Proof.Machine.execLaneTestMode lane master v s
  | .laneTestInject lane master => Sys2Proof.Machine.execLaneTestInject lane master s
  | .laneTestSnap lane master bits => Sys2Proof.Machine.execLaneTestSnap lane master bits s
  | .laneTestClear lane master => Sys2Proof.Machine.execLaneTestClear lane master s
  | .farEndLoopApply => Sys2Proof.Machine.execFarEndLoopApply s
  | .farEndLoopTimeout => Sys2Proof.Machine.execFarEndLoopTimeout s
  | .timeAddend master v => Sys2Proof.Machine.execTimeAddend master v s
  | .timeStep master => Sys2Proof.Machine.execTimeStep master s
  | .holdoverSet master => Sys2Proof.Machine.execHoldoverSet master s
  | .holdoverClear master => Sys2Proof.Machine.execHoldoverClear master s
  | .timeSnapNs master dt => Sys2Proof.Machine.execTimeSnapNs master dt s
  | .tsqPop queue master => Sys2Proof.Machine.execTsqPop queue master s
  | .triggerFire trigger dt => Sys2Proof.Machine.execTriggerFire trigger dt s
  | .triggerPulseEnd trigger => Sys2Proof.Machine.execTriggerPulseEnd trigger s
  | .captureEdge input phase rising dt => Sys2Proof.Machine.execCaptureEdge input phase rising dt s
  | .captureStuck input => Sys2Proof.Machine.execCaptureStuck input s
  | .capturePop input master => Sys2Proof.Machine.execCapturePop input master s
  | .registerWrite master width addr v => Sys2Proof.Machine.execRegisterWrite master width addr v s
  | .sqcClear master addr v => Sys2Proof.Machine.execSqcClear master addr v s
  | .onceWrite master v => Sys2Proof.Machine.execOnceWrite master v s
  | .guardedValueWrite master addr v => Sys2Proof.Machine.execGuardedValueWrite master addr v s
  | .guardedComplementWrite master addr v => Sys2Proof.Machine.execGuardedComplementWrite master addr v s
  | .guardWindowExpire master => Sys2Proof.Machine.execGuardWindowExpire master s
  | .bitAliasWrite master addr bit v => Sys2Proof.Machine.execBitAliasWrite master addr bit v s
  | .faultRegister count dt => Sys2Proof.Machine.execFaultRegister count dt s
  | .faultForce index master v => Sys2Proof.Machine.execFaultForce index master v s
  | .faultAck master v => Sys2Proof.Machine.execFaultAck master v s
  | .unitReset unit master => Sys2Proof.Machine.execUnitReset unit master s
  | .unitReturn unit master => Sys2Proof.Machine.execUnitReturn unit master s
  | .forcedClear master => Sys2Proof.Machine.execForcedClear master s
  | .firstClear master => Sys2Proof.Machine.execFirstClear master s
  | .ledgerAdvance rd master => Sys2Proof.Machine.execLedgerAdvance rd master s
  | .heartbeat master v => Sys2Proof.Machine.execHeartbeat master v s
  | .heartbeatMissed dt => Sys2Proof.Machine.execHeartbeatMissed dt s
  | .twtAddress address read => Sys2Proof.Machine.execTwtAddress address read s
  | .setptr args n => Sys2Proof.Machine.execSetptr args n s
  | .rd32 args n => Sys2Proof.Machine.execRd32 args n s
  | .wr32 args n => Sys2Proof.Machine.execWr32 args n s
  | .blkrd args n => Sys2Proof.Machine.execBlkrd args n s
  | .blkwr args n => Sys2Proof.Machine.execBlkwr args n s
  | .status args n => Sys2Proof.Machine.execStatus args n s
  | .lasterr args n => Sys2Proof.Machine.execLasterr args n s
  | .mbpush args n => Sys2Proof.Machine.execMbpush args n s
  | .mbpop args n => Sys2Proof.Machine.execMbpop args n s
  | .nop args n => Sys2Proof.Machine.execNop args n s
  | .twtLegacyTransaction bytes n => Sys2Proof.Machine.execTwtLegacyTransaction bytes n s
  | .twtWritePhaseEnd unknown stop => Sys2Proof.Machine.execTwtWritePhaseEnd unknown stop s
  | .twtAbort => Sys2Proof.Machine.execTwtAbort s
  | .twtReadLate => Sys2Proof.Machine.execTwtReadLate s
  | .twtSdaRelease => Sys2Proof.Machine.execTwtSdaRelease s
  | .busFree port => Sys2Proof.Machine.execBusFree port s
  | .twsSubmit port desc master => Sys2Proof.Machine.execTwsSubmit port desc master s
  | .twsTransactionStart port dt => Sys2Proof.Machine.execTwsTransactionStart port dt s
  | .twsTransactionEnd port status count data => Sys2Proof.Machine.execTwsTransactionEnd port status count data s
  | .twsRetryTimer port => Sys2Proof.Machine.execTwsRetryTimer port s
  | .arbitrationLost cut => Sys2Proof.Machine.execArbitrationLost cut s
  | .twsStretchTimeout cut => Sys2Proof.Machine.execTwsStretchTimeout cut s
  | .twsBusRecovery port => Sys2Proof.Machine.execTwsBusRecovery port s
  | .twsRecoveryDone port high => Sys2Proof.Machine.execTwsRecoveryDone port high s
  | .twsFlush port master => Sys2Proof.Machine.execTwsFlush port master s
  | .twsDonePop port master => Sys2Proof.Machine.execTwsDonePop port master s
  | .twsWindowOpen port dt => Sys2Proof.Machine.execTwsWindowOpen port dt s
  | .twsWindowClose port dt => Sys2Proof.Machine.execTwsWindowClose port dt s
  | .bootTableRead copyA copyB => Sys2Proof.Machine.execBootTableRead copyA copyB s
  | .verifyDone image => Sys2Proof.Machine.execVerifyDone image s
  | .loadDone => Sys2Proof.Machine.execLoadDone s
  | .diagAutoAck source => Sys2Proof.Machine.execDiagAutoAck source s
  | .secVerify master => Sys2Proof.Machine.execSecVerify master s
  | .secRecord master => Sys2Proof.Machine.execSecRecord master s
  | .secAttest master => Sys2Proof.Machine.execSecAttest master s
  | .attestPrepared => Sys2Proof.Machine.execAttestPrepared s
  | .attestDone => Sys2Proof.Machine.execAttestDone s
  | .headProbe ctx => Sys2Proof.Machine.execHeadProbe ctx s
  | .headProbeDone ctx record => Sys2Proof.Machine.execHeadProbeDone ctx record s
  | .headCertDone ctx => Sys2Proof.Machine.execHeadCertDone ctx s
  | .headCounterHour ctx hot => Sys2Proof.Machine.execHeadCounterHour ctx hot s
  | .headTempExpire ctx => Sys2Proof.Machine.execHeadTempExpire ctx s
  | .powerApply master => Sys2Proof.Machine.execPowerApply master s
  | .domainOn => Sys2Proof.Machine.execDomainOn s
  | .grantEnforce => Sys2Proof.Machine.execGrantEnforce s
  | .feedDetectDone feeder ma => Sys2Proof.Machine.execFeedDetectDone feeder ma s
  | .feedDetectRetry feeder => Sys2Proof.Machine.execFeedDetectRetry feeder s
  | .feedRampDone feeder => Sys2Proof.Machine.execFeedRampDone feeder s
  | .feedHoldDone feeder volts ma => Sys2Proof.Machine.execFeedHoldDone feeder volts ma s
  | .feedOvercurrent feeder volts ma => Sys2Proof.Machine.execFeedOvercurrent feeder volts ma s
  | .feedBackoffDone feeder => Sys2Proof.Machine.execFeedBackoffDone feeder s
  | .thermalSample temps => Sys2Proof.Machine.execThermalSample temps s
  | .thermalTrip => Sys2Proof.Machine.execThermalTrip s
  | .thermPeakClear master => Sys2Proof.Machine.execThermPeakClear master s
  | .illegalInstruction n => Sys2Proof.Machine.execIllegalInstruction n s
  | .drvEvovrRead n master => Sys2Proof.Machine.execDrvEvovrRead n master s
  | .checkerLocked lane bits => Sys2Proof.Machine.execCheckerLocked lane bits s
  | .checkerLockLost lane bits => Sys2Proof.Machine.execCheckerLockLost lane bits s
  | .feederReturnBlock feeder dt => Sys2Proof.Machine.execFeederReturnBlock feeder dt s
  | .qspiProgramDone => Sys2Proof.Machine.execQspiProgramDone s
  | .lanePllLock => Sys2Proof.Machine.execLanePllLock s

end Sys2Proof.Machine
end

