-- ==== Sys2Proof/Machine/Step.lean ====
section
/-! DEFINITION. One step of the block: the command at the front of the queue, or one time-base cycle while none waits. -/

namespace Sys2Proof.Machine

/-- The state with its queue replaced. -/
def State.withPending (s : State) (l : List Instr) : State := { s with pending := l }

/-- One step: the oldest waiting command has its effect, with the rest of the queue still waiting; on an empty queue the block idles for one
time-base cycle (DESIGN CHOICE; spec/11_time.md R326). -/
def step (s : State) : Host.Outcome State Fault Refusal :=
  match s.pending with
  | [] => .next (passTime s 1)
  | c :: l => exec c (s.withPending l)

/-- The state with the command that a word spells at the front of its queue; unchanged where it spells none. -/
def State.withFetchWord (s : State) (nbits w : Nat) : State :=
  match decodeTableWord nbits w with
  | some c => s.withPending (c :: s.pending)
  | none => s

end Sys2Proof.Machine
end

