-- ==== Sys2Proof/Safety.lean ====
section
/-! DEFINITION. What counts as a safe run, in the terms the statements use: the mode table, what every reachable state satisfies, when a
command is accepted, and what a command leaves unchanged. -/

namespace Sys2Proof.Machine

/-! ### Modes (spec/01_architecture.md R30) -/

/-- The changes of R30 but for device resets and the line: what a mode may become while the device runs. -/
def modeEdge (a b : Mode) : Bool :=
  match a, b with
  | .boot, .diag | .boot, .verify | .boot, .rescue | .verify, .train | .verify, .rescue | .train, .ready | .ready, .run
  | .run, .degraded | .degraded, .run | .ready, .idle | .run, .idle | .degraded, .idle
  | .idle, .ready | .idle, .run | .idle, .degraded | .idle, .fallow | .fallow, .train | .ready, .diag => true
  | .halt, .halt => false
  | _, .halt => true
  | _, _ => false

/-- What GLOBAL_MODE shows of the mode machine: the mode, the code of the mode before it, and the count of changes modulo 256. -/
abbrev Shown := Mode × Nat × Nat

/-- What GLOBAL_MODE shows of a mode machine. -/
def shownOf (y : Sys) : Shown := (y.mode, y.prev, y.changes)

/-- One shown mode leads to another by changes of the table one after the other, each counted and each leaving the mode that it left in prev. -/
inductive ModePath : Shown → Shown → Prop where
  | stay (a : Shown) : ModePath a a
  | change {a b : Shown} {m : Mode} : ModePath a b → modeEdge b.1 m = true → ModePath a (m, modeCode b.1, (b.2.2 + 1) % 256)

/-- READY, RUN or DEGRADED: the modes an IDLE request is allowed from. -/
def serving (m : Mode) : Bool := decide (m = .ready) || decide (m = .run) || decide (m = .degraded)

/-- A request that the table of R30 allows a master to make (spec/16_power_and_modes.md R475, R476): RUN by master 2 and DIAG from READY,
IDLE from the serving modes, FALLOW and leave-IDLE from IDLE, and during a drain leave-IDLE alone. -/
def requestAllowed (y : Sys) (master code : Nat) : Bool :=
  decide (master ≤ 2) &&
  (if y.drain then decide (code = 15)
   else match y.mode with
     | .ready => decide (code = 6 ∧ master = 2) || decide (code = 8) || decide (code = 10)
     | .run | .degraded => decide (code = 8)
     | .idle => decide (code = 9 ∧ y.straps.fallow = 1) || decide (code = 15)
     | _ => false)

/-- What holds of the mode machine in every reachable state: nothing is left to carry out, the count of changes is kept modulo 256, the mode
before is a mode's code or 0, a drain goes on only where IDLE was requested, IDLE returns to a mode it came from, and the HALT latch stands
exactly in HALT, or in LINEUP until power has been away. -/
abbrev ModeInv (s : State) : Prop :=
  s.dev.acts = [] ∧
  s.sys.changes < 256 ∧
  s.sys.prev ≤ 12 ∧
  (s.sys.drain = true → serving s.sys.mode = true) ∧
  (s.sys.mode = .idle → serving s.sys.back = true) ∧
  (s.sys.mode = .halt → s.sys.halt = true) ∧
  (s.sys.halt = true → s.sys.mode = .halt ∨ s.sys.mode = .lineup)

/-- The memory and the registers keep their canonical form: addresses strictly rising, and no entry equal to what an unlisted address
holds. -/
abbrev TablesWf (s : State) : Prop :=
  memoryWf s.dev.mem = true ∧
  sWf resetWord s.dev.regs = true

/-! ### Answers and frames -/

/-- The units outside AON take commands, and nothing is left to carry out. -/
abbrev UnitsOn (s : State) : Prop :=
  unitsRun s.sys = true ∧
  s.dev.acts = []

/-- The AON units take commands, and nothing is left to carry out. -/
abbrev AonOn (s : State) : Prop :=
  aonRuns s.sys = true ∧
  s.dev.acts = []

/-- TWT takes commands, and nothing is left to carry out. -/
abbrev TwtOn (s : State) : Prop :=
  twtRuns s.sys = true ∧
  s.dev.acts = []

/-- A command answers a next state of which P holds. -/
def Answers (c : Instr) (s : State) (P : State → Prop) : Prop := ∃ t, exec c s = .next t ∧ P t

/-- Of the state only the device may have changed. -/
def onlyDev (s t : State) : Prop := t = withDev s t.dev

/-- Of the device only its registers, reports and events may have changed. -/
def onlyRegs (d d' : Dev) : Prop := d' = { d with regs := d'.regs, reports := d'.reports, events := d'.events }

/-- Of the device only what a mode change acts on may have changed: registers and what they report, taps, triggers, lane groups, lanes and the
trunk's slot, and the security engine (spec/01_architecture.md R32; spec/06_views_taps_convoys.md R197; spec/10_lanes.md R316, R318;
spec/11_time.md R345; spec/15_boot_identity_heads.md R448). -/
def onlyModeUnits (d d' : Dev) : Prop :=
  d' = { d with
    regs := d'.regs, reports := d'.reports, events := d'.events, taps := d'.taps, trigs := d'.trigs, groups := d'.groups,
    lanes := d'.lanes, trunk := { d.trunk with slot := d'.trunk.slot }, sec := d'.sec, otp := d'.otp }

/-- The mode machine has changed from y to y' by one change to mode m, and to nothing else. -/
def changedTo (m : Mode) (y y' : Sys) : Prop :=
  y' = { y with mode := m, prev := modeCode y.mode, changes := (y.changes + 1) % 256 }

/-- The words in force are unchanged but at the addresses of a list. -/
def regsBut (l : List Nat) (d d' : Dev) : Prop := ∀ a, a ∉ l → rd d' a = rd d a

/-! ### Staged sets (spec/12_register_access.md R364, R365) -/

/-- The registers of an idle unit that are staged: the first address and the length. -/
def idleRange : IdleUnit → Nat × Nat
  | .profile => (unitBase .glob 0 + 0x18, 4)
  | .toll => (unitBase .toll 0 + 0x100, 0x80)
  | .convoy => (unitBase .time 0 + 0x400, 0x10)
  | .ctx n => (unitBase .ctx n, 0x2000)
  | .view n => (unitBase .view n, 0x2000)
  | .pipe n => (unitBase .pipe n, 0x2000)
  | .routes n => (unitBase .csi n + 0x40, 0x40)
  | .cycle u => (unitBase .time 0 + 0x100 + 16 * u, 0xC)
  | .trigger n => (unitBase .time 0 + 0x600 + 16 * n, 0xC)

/-- The unit runs, is idle and not held, and its staged set breaks no limit of its own chapter. -/
def idleSetFits (s : State) (u : IdleUnit) : Bool :=
  let d := s.dev
  match u with
  | .profile =>
    let r := fld (stagedAt d (unitBase .glob 0 + 0x18)) 1 0
    aonRuns s.sys && decide (chargeSet d (feederCharged d) r (switched d) ≤ judgeBudget d)
  | .toll => unitsRun s.sys && !(getB d .toll 0 0 0) && tollOk d
  | .convoy =>
    let p := (stagedAt d (unitBase .time 0 + 0x404)).toNat
    aonRuns s.sys && decide (1000000 ≤ p) && decide (p ≤ 1000000000) && decide ((stagedAt d (unitBase .time 0 + 0x40C)).toNat < p)
  | .ctx n => unitsRun s.sys && (openFrame d n).isNone && ctxSetOk d n (ctxCandidate d n)
  | .view n =>
    unitsRun s.sys && viewIdle d n && viewSetOk d n (viewCandidate d n) (ctxParams d (fld (vw (viewCandidate d n) 0) 11 8))
  | .pipe n => unitsRun s.sys && !(getB d .pipe n 0 31) && !(getB d .pipe n 4 0) && ttOk d n
  | .routes n =>
    unitsRun s.sys && !(getB d .csi n 0 0) &&
    (List.range 16).all (fun k => !(routeRefused (routeOf (stagedAt d (unitBase .csi n + 0x40 + 4 * k)))))
  | .cycle u =>
    let p := (stagedAt d (unitBase .time 0 + 0x104 + 16 * u)).toNat
    aonRuns s.sys && !(cycleOn d u) && decide (10000 ≤ p) && decide (p ≤ 1000000000) &&
    decide ((stagedAt d (unitBase .time 0 + 0x108 + 16 * u)).toNat < p)
  | .trigger n =>
    let w := stagedAt d (unitBase .time 0 + 0x604 + 16 * n)
    aonRuns s.sys && !(trigActive s.sys.mode d n) && decide (fld w 23 16 < fld w 7 0 + 1)

/-! ### Register writes (spec/12_register_access.md R353–R381) -/

/-- A word of a unit block that is a register of its own: no memory, window or complement word. -/
def plainReg (u : UnitKind) (n o : Nat) : Bool :=
  !(inPan (unitBase u n + o)) && !(inAlias (unitBase u n + o)) && (memAt (unitBase u n + o)).isNone &&
  decide (unitAt (unitBase u n + o) = some (u, n, o)) && decide (o < 0x2000) && decide ((unitBase u n + o) % 4 = 0) &&
  !(isReservedWord u n o) && !(isPairWord u o)

/-- A master's 32-bit write of v to the register at offset o of unit n is taken: the mode and RESET_N let it through (R355), no guarded pair
of the master is in progress (R371), the unit's domain is on (R359), the unit is not fenced, the master may write the register (R380), and
the register's own chapter accepts the value; and nothing is left to carry out. -/
abbrev TakesWrite (s : State) (m : Nat) (u : UnitKind) (n o : Nat) (v : Word) : Prop :=
  modeAllows s.env m false (unitBase u n + o) = true ∧
  guardOf s.dev m = none ∧
  blockOn s.dev u n = true ∧
  (fenced s.dev u n && !(decide (u = .drv) && decide (o = 0))) = false ∧
  writeAllowed m u n o = true ∧
  writeFits s.env s.dev u n o v = true ∧
  s.dev.acts = []

/-- A master's read of the register at offset o of unit n is taken: the mode lets it through (R355), no guarded pair of the master is in
progress (R371) and the unit's domain is on (R359); and nothing is left to carry out. -/
abbrev TakesRead (s : State) (m : Nat) (u : UnitKind) (n o : Nat) : Prop :=
  modeAllows s.env m true (unitBase u n + o) = true ∧
  guardOf s.dev m = none ∧
  blockOn s.dev u n = true ∧
  s.dev.acts = []

/-! ### Frames -/

/-- A frame start on channel v of port p reaches context c alone, which has no open frame, keeps none of the sequence that comes next, has
nothing staged, and holds no head's frames back. -/
abbrev StartsFrame (s : State) (p v c : Nat) : Prop :=
  portLive s.dev p = true ∧
  vcSeen s.dev p v = true ∧
  ctxsOnVc s.dev p v = [c] ∧
  carriesExp0 s.dev p v c = true ∧
  s.dev.staged = [] ∧
  (vget s.dev.ctxs c).phase ≠ .open ∧
  (∀ g ∈ (vget s.dev.ctxs c).frames, g.seq ≠ (get s.dev .ctx c 0x18 + 1).toNat) ∧
  getF s.dev .head 0 (c * 0x40) 25 24 ≤ 1

/-- A frame start of context c opens a frame, where nothing makes it a straggler (R77). -/
abbrev MayOpen (s : State) (c : Nat) : Prop :=
  s.sys.mode ≠ .idle ∧
  s.sys.drain = false ∧
  fenced s.dev .ctx c = false ∧
  fenced s.dev .pipe (getF s.dev .ctx c 0 3 2) = false

/-! ### Blocks that arrive (spec/09_caravan_link.md R264–R270) -/

/-- A block of a command arrives on a group's live receive link, on the lane whose turn it is, and its lane decodes it to bs, errored or not;
d' is the device after that, and nothing is left to carry out. -/
abbrev Brings (d : Dev) (g : Nat) (ctl : Bool) (block : List Byte) (a : Arrival) (errored : Bool) (bs : List Byte) (d' : Dev) : Prop :=
  linkLive d g = true ∧
  arrive d (rxLaneNow d g) ctl block a = (some { ctl := ctl, bytes := bs, errored := errored }, d') ∧
  d'.acts = []

/-- The lane on which the trunk sends in its current slot (R270). -/
def slotLane (d : Dev) : Nat := (txLanes d 0).getD (d.trunk.slot % max 1 (txLanes d 0).length) 0

/-- Where a group in TRAINING or WAKE stands in t, after an event at s: READY where every receive lane in use meets R310 and the partner has
reported that its own do (R311), else where it stood. -/
def readyOr (s t : State) (g : Nat) : GroupState :=
  if rxReady t.dev g && ((vget s.dev.groups g).lockSeen || (rxLanes s.dev g).all (fun n => (vget s.dev.groups g).trained.contains n))
  then .ready else (vget s.dev.groups g).state

/-! ### Drovers (spec/07_jorran_isa.md R208–R216) -/

/-- Drover n executes an instruction of a row: its units run, it is RUNNING with its domain on and no load outstanding, no store's error
waits, its pc is in range and its memory's line is good, and the word w at its pc spells the row, with every field that the row does not use
0 and no reserved value. -/
abbrev Fetched (s : State) (n : Nat) (row : JRow) (w : Word) : Prop :=
  unitsRun s.sys = true ∧
  s.dev.acts = [] ∧
  canRun s.dev n = true ∧
  fetchOk s.dev n = true ∧
  fetchWord s.dev n = w ∧
  rowOf w = row ∧
  legalWord w = true

/-- The rows that the two arguments of an arithmetic instruction come with, and what each computes (R218). -/
def rrResult (r : JRow) (a b : Word) : Option Word :=
  match r with
  | .add => some (BitVec.ofNat 32 (a.toNat + b.toNat))
  | .sub => some (BitVec.ofInt 32 (a.toNat - b.toNat))
  | .and => some (a &&& b)
  | .or => some (a ||| b)
  | .xor => some (a ^^^ b)
  | .shl => some (BitVec.ofNat 32 (a.toNat * 2 ^ (b.toNat % 32)))
  | .shr => some (BitVec.ofNat 32 (a.toNat / 2 ^ (b.toNat % 32)))
  | .sra => some (BitVec.ofInt 32 (a.toInt / 2 ^ (b.toNat % 32)))
  | .mul => some (BitVec.ofNat 32 (a.toNat * b.toNat))
  | .mulh => some (BitVec.ofInt 32 (a.toInt * b.toInt / 2 ^ 32))
  | _ => none

end Sys2Proof.Machine
end

