-- ==== Sys2Proof/WellFormed.lean ====
section
/-! DEFINITION. Which commands are well formed: what arrives from outside has the size the spec gives it, and a register command names a
register of its kind by an aligned address. Unit numbers, masters and fields are bounded by their types. -/

namespace Sys2Proof

open Machine

/-- Every strap has a value that its pads can show (spec/15_boot_identity_heads.md R434). -/
def strapsOk (s : Straps) : Bool :=
  decide (s.role < 2) && decide (s.trunk < 4) && decide (s.boot < 4) && decide (s.twaddr < 8) && decide (s.lineclass < 4) &&
  decide (s.fallow < 2) && decide (s.refclk < 2)

/-- A block carries 32 payload bytes (spec/09_caravan_link.md R263). -/
def blockOk (b : List Byte) : Bool := decide (b.length = 32)

/-- An arrival as a lane brings it: the 33 code groups of a block, or the 2,720 PAM4 symbols of a codeword
(spec/09_caravan_link.md R265, R267; spec/10_lanes.md R298). -/
def arrivalOk (a : Arrival) : Bool :=
  match a with
  | .groups ws => decide (ws.length = 33) && ws.all (fun w => decide (w < 1024))
  | .codeword l => decide (l.length = 2720) && l.all (fun x => decide (x < 4))
  | _ => true

/-- A measurement of a line fits its 16-bit field (spec/16_power_and_modes.md PWR_LINE, PWR_FEEDf_MEAS). -/
def measureOk (volts ma : Nat) : Bool := decide (volts < 65536) && decide (ma < 65536)

/-- A two-wire transfer of at most 33 bytes with the count of a block before them (spec/14_two_wire.md R414). -/
def transferOk (l : List Byte) : Bool := decide (l.length ≤ 256)

/-- A head's EEPROM record has 112 bytes (spec/15_boot_identity_heads.md R452). -/
def recordOk (r : Option (List Byte)) : Bool :=
  match r with
  | some l => decide (l.length = 112)
  | none => true

/-- A word address. -/
def alignedOk (a : Word) : Bool := decide (a.toNat % 4 = 0)

/-- The command is well formed. -/
def Instr.wf (i : Instr) : Bool :=
  match i with
  | .lineupStart => true
  | .lineupComplete straps volts ma => strapsOk straps && measureOk volts ma
  | .lineRange volts ma => measureOk volts ma
  | .shutdownWarning volts ma => measureOk volts ma
  | .lineFault volts ma => measureOk volts ma
  | .linePowerLost => true
  | .haltLatchClear => true
  | .modeRequestRun _ => true
  | .modeRequestIdle _ => true
  | .modeRequestFallow _ => true
  | .modeRequestDiag _ => true
  | .modeRequestLeaveIdle _ => true
  | .idleDrainComplete => true
  | .idleDrainTimeout => true
  | .wakeN => true
  | .resetNAssert => true
  | .resetNRelease => true
  | .deviceReset => true
  | .treeIdSet _ _ => true
  | .idleUnitApply _ => true
  | .refSwitchRecovered => true
  | .refSwitchCrystal => true
  | .pllLockLost => true
  | .frameStartPacket _ _ _ _ => true
  | .frameEndPacket _ _ _ => true
  | .imageLineReceived _ _ _ _ _ _ _ => true
  | .embeddedLineReceived _ _ _ _ _ => true
  | .shortPacketIgnored _ _ _ _ => true
  | .hsTimeout _ => true
  | .portResetDone _ => true
  | .csiEnable _ _ _ => true
  | .csiDisable _ _ _ => true
  | .csiPortReset _ _ => true
  | .csiClearCounters _ _ => true
  | .frameTimeout _ => true
  | .epochMark _ _ _ => true
  | .epochWriteRegistered _ _ => true
  | .inlineRowReady _ _ => true
  | .pipeRowDone _ => true
  | .stripeDone _ => true
  | .pipeTtPeriodStart _ => true
  | .pipeSlotBoundary _ => true
  | .slotSwapDone _ => true
  | .waystationRestoreDone _ => true
  | .waystationSaveDone _ => true
  | .tollVisit _ _ _ _ => true
  | .panScrub _ _ => true
  | .harvestRecordWrite _ => true
  | .viewLineWrite _ => true
  | .shedStep => true
  | .tapArm _ _ => true
  | .tapDisarm _ _ => true
  | .add _ => true
  | .sub _ => true
  | .and _ => true
  | .or _ => true
  | .xor _ => true
  | .shl _ => true
  | .shr _ => true
  | .sra _ => true
  | .mul _ => true
  | .mulh _ => true
  | .jr _ => true
  | .addi _ => true
  | .lui _ => true
  | .ldB _ => true
  | .ldH _ => true
  | .ldW _ => true
  | .stB _ => true
  | .stH _ => true
  | .stW _ => true
  | .loadResponse _ => true
  | .storeResponse _ _ => true
  | .beq _ => true
  | .bne _ => true
  | .blt _ => true
  | .bge _ => true
  | .bltu _ => true
  | .jal _ => true
  | .wait _ => true
  | .waitPoll _ => true
  | .waitWake _ => true
  | .stageT _ => true
  | .stage _ => true
  | .commit _ => true
  | .post _ => true
  | .send _ => true
  | .recv _ => true
  | .arm _ => true
  | .disarm _ => true
  | .timeSnapshot _ _ => true
  | .timeRead _ => true
  | .fence _ => true
  | .trap _ => true
  | .halt _ => true
  | .droverEventPending _ => true
  | .drvWatchdogExpire _ _ => true
  | .compareMatch _ _ => true
  | .controlCycleEvent _ _ => true
  | .drvReset _ _ => true
  | .drvHalt _ _ => true
  | .drvRun _ _ => true
  | .laneLocked _ _ _ => true
  | .laneLockLost _ => true
  | .milestoneSend _ => true
  | .milestoneReceived _ blocks _ => blocks.all (fun q => arrivalOk q.1 && blockOk q.2)
  | .idleBlockReceived _ block arrival => blockOk block && arrivalOk arrival
  | .mapFragmentReceived _ block arrival => blockOk block && arrivalOk arrival
  | .identityReceived block arrival => blockOk block && arrivalOk arrival
  | .trainBlockReceived _ block arrival => blockOk block && arrivalOk arrival
  | .packetHoldEnd => true
  | .packetHeadReceived _ block arrival _ => blockOk block && arrivalOk arrival
  | .packetDataBlock _ block arrival => blockOk block && arrivalOk arrival
  | .packetEndReceived _ block arrival => blockOk block && arrivalOk arrival
  | .regrd => true
  | .regwr => true
  | .burstrd => true
  | .burstwr => true
  | .download => true
  | .mailbox => true
  | .ttstage => true
  | .grant => true
  | .notice => true
  | .query => true
  | .reset => true
  | .trunkSlot _ _ => true
  | .ttEpochStart => true
  | .trainingAttemptTimeout _ => true
  | .ctleStepTimeout _ => true
  | .fomWindow _ _ _ _ _ => true
  | .signalDetect _ => true
  | .signalLost _ => true
  | .relockTimeout _ => true
  | .partnerLockTimeout _ => true
  | .listenBurst => true
  | .listenBurstEnd => true
  | .retrain _ _ => true
  | .eidlePacketTimeout _ => true
  | .rakeBurstReceived _ blocks => blocks.all blockOk
  | .wakeTimeout _ => true
  | .laneTestMode _ _ _ => true
  | .laneTestInject _ _ => true
  | .laneTestSnap _ _ _ => true
  | .laneTestClear _ _ => true
  | .farEndLoopApply => true
  | .farEndLoopTimeout => true
  | .timeAddend _ _ => true
  | .timeStep _ => true
  | .holdoverSet _ => true
  | .holdoverClear _ => true
  | .timeSnapNs _ _ => true
  | .tsqPop _ _ => true
  | .triggerFire _ _ => true
  | .triggerPulseEnd _ => true
  | .captureEdge _ _ _ _ => true
  | .captureStuck _ => true
  | .capturePop _ _ => true
  | .registerWrite _ width addr _ => decide (addr.toNat % (if width = .byte then 1 else if width = .half then 2 else 4) = 0)
  | .sqcClear _ addr _ => alignedOk addr
  | .onceWrite _ _ => true
  | .guardedValueWrite _ addr _ => alignedOk addr
  | .guardedComplementWrite _ addr _ => alignedOk addr
  | .guardWindowExpire _ => true
  | .bitAliasWrite _ addr _ _ => alignedOk addr
  | .faultRegister _ _ => true
  | .faultForce _ _ _ => true
  | .faultAck _ _ => true
  | .unitReset _ _ => true
  | .unitReturn _ _ => true
  | .forcedClear _ => true
  | .firstClear _ => true
  | .ledgerAdvance _ _ => true
  | .heartbeat _ _ => true
  | .heartbeatMissed _ => true
  | .twtAddress _ _ => true
  | .setptr args _ => transferOk args
  | .rd32 args _ => transferOk args
  | .wr32 args _ => transferOk args
  | .blkrd args _ => transferOk args
  | .blkwr args _ => transferOk args
  | .status args _ => transferOk args
  | .lasterr args _ => transferOk args
  | .mbpush args _ => transferOk args
  | .mbpop args _ => transferOk args
  | .nop args _ => transferOk args
  | .twtLegacyTransaction bytes _ => transferOk bytes
  | .twtWritePhaseEnd _ _ => true
  | .twtAbort => true
  | .twtReadLate => true
  | .twtSdaRelease => true
  | .busFree _ => true
  | .twsSubmit _ _ _ => true
  | .twsTransactionStart _ _ => true
  | .twsTransactionEnd _ _ _ _ => true
  | .twsRetryTimer _ => true
  | .arbitrationLost cut => decide (cut.bytes ≤ 32)
  | .twsStretchTimeout cut => decide (cut.bytes ≤ 32)
  | .twsBusRecovery _ => true
  | .twsRecoveryDone _ _ => true
  | .twsFlush _ _ => true
  | .twsDonePop _ _ => true
  | .twsWindowOpen _ _ => true
  | .twsWindowClose _ _ => true
  | .bootTableRead _ _ => true
  | .verifyDone _ => true
  | .loadDone => true
  | .diagAutoAck _ => true
  | .secVerify _ => true
  | .secRecord _ => true
  | .secAttest _ => true
  | .attestPrepared => true
  | .attestDone => true
  | .headProbe _ => true
  | .headProbeDone _ record => recordOk record
  | .headCertDone _ => true
  | .headCounterHour _ _ => true
  | .headTempExpire _ => true
  | .powerApply _ => true
  | .domainOn => true
  | .grantEnforce => true
  | .feedDetectDone _ _ => true
  | .feedDetectRetry _ => true
  | .feedRampDone _ => true
  | .feedHoldDone _ volts ma => measureOk volts ma
  | .feedOvercurrent _ volts ma => measureOk volts ma
  | .feedBackoffDone _ => true
  | .thermalSample _ => true
  | .thermalTrip => true
  | .thermPeakClear _ => true
  | .illegalInstruction _ => true
  | .drvEvovrRead _ _ => true
  | .checkerLocked _ _ => true
  | .checkerLockLost _ _ => true
  | .feederReturnBlock _ _ => true
  | .qspiProgramDone => true
  | .lanePllLock => true

end Sys2Proof
end

