-- ==== Sys2Proof/Certificates/Slice0/Obligations.lean ====
section
/-! DEFINITION. The statements for the provers, in the order of OBLIGATIONS.json. -/

open Sys2Proof Sys2Proof.Machine

/-! ### Steps, the queue and reset -/

/-- A step takes the command at the front of the queue: it is exec of that command on the state with the rest of the queue. -/
def Obligations.StepRunsTheFrontCommand : Prop :=
  ∀ (s : State) (c : Instr) (l : List Instr), s.pending = c :: l → step s = exec c (s.withPending l)

/-- A step on an empty queue lets one time-base cycle pass (the model's choice, assumption log 1): the linear time grows by the addend in force for that
cycle, modulo the wrap of the 48-bit seconds (assumption log 73), and the cycle count by one; in LINEUP, where no clock runs, nothing changes. A
written addend counts from its cycle on. -/
def Obligations.EmptyQueueLetsOneCyclePass : Prop :=
  ∀ s : State, s.pending = [] →
    (s.sys.mode = .lineup → step s = .next s) ∧
    (s.sys.mode ≠ .lineup → (∀ q ∈ s.clock.coming, s.clock.cycles + 1 ≤ q.2) →
      step s = .next { s with
        clock := { s.clock with
          now := (s.clock.now + s.clock.addend) % (2 ^ 48 * 1000000000 * 2 ^ 30), cycles := s.clock.cycles + 1 } }) ∧
    (∀ (b k : Nat) (l : List (Nat × Nat)), s.sys.mode ≠ .lineup → s.clock.coming = (b, k) :: l → k ≤ s.clock.cycles →
      (∀ q ∈ l, s.clock.cycles + 1 ≤ q.2) →
      step s = .next { s with
        clock := { s.clock with
          now := (s.clock.now + b) % (2 ^ 48 * 1000000000 * 2 ^ 30), cycles := s.clock.cycles + 1, addend := b, coming := l } })

/-- Every command of the table answers a next state and leaves the queue of waiting commands alone: no command stops the machine. The model's readings:
assumption log 9 and 10. -/
def Obligations.CommandsNeverStopAndKeepTheQueue : Prop :=
  ∀ (c : Instr) (s : State), Answers c s (fun t => t.pending = s.pending)

/-- The machine right after reset, in the values the spec gives: BOOT with no mode before it and no change counted, linear time 0 at the nominal addend in
FREE, every drover in RESET with its registers 0, no memory byte written, no event or report under way, and of the domains PD32–PD39 and PD48–PD50
usable alone. That the straps read 0 there is the model's choice (assumption log 3). The model's readings: assumption log 5 and 6. -/
def Obligations.ResetLeavesTheStatedValues : Prop :=
  State.reset.pending = [] ∧ State.reset.sys.mode = .boot ∧ State.reset.sys.prev = 0 ∧ State.reset.sys.changes = 0 ∧
  State.reset.clock.now = 0 ∧ State.reset.clock.addend = 0x80000000 ∧ State.reset.clock.state = .free ∧
  State.reset.dev.mem = [] ∧ State.reset.dev.staged = [] ∧ State.reset.dev.events = [] ∧ State.reset.dev.reports = [] ∧
  (∀ n : Fin 4, (drvOf State.reset.dev n).state = .reset ∧ (drvOf State.reset.dev n).regs = [] ∧ (drvOf State.reset.dev n).pend = 0) ∧
  (∀ k : Fin 51, domainOn State.reset.dev k = (decide (32 ≤ k.val ∧ k.val ≤ 39) || decide (48 ≤ k.val))) ∧
  get State.reset.dev .glob 0 0 = 0x961601B1 ∧ get State.reset.dev .glob 0 0x20 = 1

/-- The machine right after reset meets the invariants: that of the mode machine, and the canonical form of memory and registers. -/
def Obligations.ResetMeetsTheInvariants : Prop :=
  ModeInv State.reset ∧ TablesWf State.reset

/-- Every step keeps the invariant of the mode machine: the mode stays one of the table's, the mode before it stays a mode's code, the count of changes
stays modulo 256, IDLE returns only to READY, RUN or DEGRADED, a drain goes on only there, and the HALT latch stands exactly in HALT, or in LINEUP
until power has been away. The model's readings: assumption log 30 and 31. -/
def Obligations.EveryStepKeepsTheModeInvariant : Prop :=
  ∀ s t : State, ModeInv s → step s = .next t → ModeInv t

/-- Every step keeps the canonical form of the memory and of the registers: equal contents stay equal data. -/
def Obligations.EveryStepKeepsTheTablesCanonical : Prop :=
  ∀ s t : State, TablesWf s → step s = .next t → TablesWf t

/-! ### Modes -/

/-- Mode changes follow the table of the modes and no others, and GLOBAL_MODE counts every one. A command that is no restart takes the mode along changes
of the table, each of which adds one to the count and leaves in prev the mode that it left; line-up leads from LINEUP to BOOT, or to HALT with its
latch set; the loss of line power leads to LINEUP; a device reset, from any mode but LINEUP and HALT, to BOOT, each with no mode before it and no
change counted, and a reset on along counted changes. The model's readings: assumption log 31. -/
def Obligations.ModeChangesFollowTheTable : Prop :=
  ∀ (c : Instr) (s t : State), ModeInv s → exec c s = .next t →
    (c = .linePowerLost → shownOf t.sys = (.lineup, 0, 0)) ∧
    (∀ st v i, c = .lineupComplete st v i →
      t.sys = s.sys ∨ (s.sys.mode = .lineup ∧ shownOf t.sys = (if s.sys.halt then .halt else .boot, 0, 0))) ∧
    (c = .resetNAssert ∨ c = .deviceReset →
      t.sys = s.sys ∨ (s.sys.mode ≠ .lineup ∧ s.sys.mode ≠ .halt ∧ ModePath (.boot, 0, 0) (shownOf t.sys))) ∧
    (c ≠ .linePowerLost → (∀ st v i, c ≠ .lineupComplete st v i) → c ≠ .resetNAssert → c ≠ .deviceReset →
      ModePath (shownOf s.sys) (shownOf t.sys))

/-- HALT is left by the loss of line power alone: every other command leaves the mode HALT, its latch set and no device reset due. -/
def Obligations.OnlyPowerLossLeavesHalt : Prop :=
  ∀ (c : Instr) (s t : State), ModeInv s → s.sys.mode = .halt → c ≠ .linePowerLost → exec c s = .next t →
    t.sys.mode = .halt ∧ t.sys.halt = true ∧ t.sys.resets = s.sys.resets

/-- Line-up and the loss of power. LINEUP_START starts the rails, the exported ones with them; LINEUP_COMPLETE samples the straps, shows the signature
class and the line, and enters BOOT, or HALT with the exported rails off while its latch is set, with nothing kept but OTP; LINE_POWER_LOST leaves
LINEUP with OTP and the latch alone; HALT_LATCH_CLEAR clears the latch and nothing else. The line die's warnings and a PLL's loss of lock. LINE_RANGE
sets PWR_STATUS.range and SHUTDOWN_WARNING sets PWR_STATUS.warn, each with event 45; LINE_FAULT raises FS001 and PLL_LOCK_LOST FS004, with no status
bit. PWR_LINE shows the line; nothing else changes. The model's readings: assumption log 19, 29 and 147. -/
def Obligations.TheLineComesUpWarnsAndGoes : Prop :=
  (∀ s : State,
    (s.sys.mode = .lineup → exec .lineupStart s = .next { s with sys := { s.sys with rails := true, vout := true } }) ∧
    (∀ (st : Straps) (volts ma : Nat), s.sys.mode = .lineup → s.sys.rails = true → strapsOk st = true → volts < 65536 → ma < 65536 →
      Answers (.lineupComplete st volts ma) s (fun t =>
        t.pending = s.pending ∧ t.sys.mode = (if s.sys.halt then .halt else .boot) ∧ t.sys.halt = s.sys.halt ∧ t.sys.straps = st ∧
        t.sys.vout = !s.sys.halt ∧
        t.sys.prev = 0 ∧ t.sys.changes = 0 ∧ t.clock.now = 0 ∧ t.clock.cycles = 0 ∧ t.clock.state = .free ∧
        t.dev.otp = s.dev.otp ∧ t.dev.mem = [] ∧ t.dev.reports = [] ∧
        getF t.dev .power 0 0xC 2 0 = st.lineclass + 1 ∧ getF t.dev .power 0 0xC 6 4 = st.lineclass + 1 ∧ getF t.dev .power 0 0xC 10 8 = 0 ∧
        getF t.dev .power 0 8 31 16 = volts ∧ getF t.dev .power 0 8 15 0 = ma ∧ getF t.dev .twt 0 0x10 6 0 = 0x58 + st.twaddr)) ∧
    (exec .linePowerLost s = .next { s with
      sys := { mode := .lineup, straps := s.sys.straps, rails := false, vout := false, halt := s.sys.halt }, clock := {},
      dev := { otp := s.dev.otp, otpBad := s.dev.otpBad } }) ∧
    (s.sys.mode = .lineup → s.sys.rails = false → exec .haltLatchClear s = .next { s with sys := { s.sys with halt := false } })) ∧
  (∀ (s : State) (volts ma : Nat), AonOn s → volts < 65536 → ma < 65536 →
    (∀ p ∈ [(Instr.lineRange volts ma, (8 : Nat)), (Instr.shutdownWarning volts ma, 16)], Answers p.1 s (fun t =>
      onlyDev s t ∧ onlyRegs s.dev t.dev ∧ regsBut [unitBase .power 0, unitBase .power 0 + 8] s.dev t.dev ∧
      t.dev.events = s.dev.events ++ [{ num := 45 }] ∧ t.dev.reports = s.dev.reports ∧
      get t.dev .power 0 0 = sqcEvent (get s.dev .power 0 0) p.2 ∧
      getF t.dev .power 0 8 31 16 = volts ∧ getF t.dev .power 0 8 15 0 = ma)) ∧
    Answers (.lineFault volts ma) s (fun t =>
      onlyDev s t ∧ onlyRegs s.dev t.dev ∧ regsBut [unitBase .power 0 + 8] s.dev t.dev ∧ t.dev.events = s.dev.events ∧
      t.dev.reports = s.dev.reports ++ [{ source := 1, addr := unitBase .power 0 }] ∧
      getF t.dev .power 0 8 31 16 = volts ∧ getF t.dev .power 0 8 15 0 = ma) ∧
    exec .pllLockLost s = .next (withDev s { s.dev with reports := s.dev.reports ++ [{ source := 4, addr := unitBase .glob 0 }] }))

/-- Mode requests that the table allows. RUN by master 2 and DIAG move READY on; IDLE starts a drain, in which the mode stays; leave-IDLE ends a drain, or
returns IDLE to the mode before it, and a DEGRADED device with no unit fenced to RUN; FALLOW, with its strap set, enters FALLOW with every lane group
off, every head's entry as it was, and every memory too but for the record slots that packets cut off on the trunk leave. The model's readings:
assumption log 30. -/
def Obligations.AllowedModeRequests : Prop :=
  ∀ (s : State) (m : Fin 7),
    (m = 2 → s.sys.mode = .ready → s.sys.drain = false → TakesWrite s m .power 0 4 6#32 → Answers (.modeRequestRun m) s (fun t =>
      changedTo .run s.sys t.sys ∧ onlyModeUnits s.dev t.dev ∧ t.clock = s.clock ∧ t.pending = s.pending)) ∧
    (m.val ≤ 2 → s.sys.mode = .ready → s.sys.drain = false → TakesWrite s m .power 0 4 0xA#32 → Answers (.modeRequestDiag m) s (fun t =>
      changedTo .diag s.sys t.sys ∧ onlyModeUnits s.dev t.dev ∧ t.clock = s.clock ∧ t.pending = s.pending)) ∧
    (m.val ≤ 2 → serving s.sys.mode = true → s.sys.drain = false → TakesWrite s m .power 0 4 8#32 →
      exec (.modeRequestIdle m) s = .next (withSys s { s.sys with drain := true })) ∧
    (m.val ≤ 2 → s.sys.drain = true → TakesWrite s m .power 0 4 0xF#32 →
      exec (.modeRequestLeaveIdle m) s = .next (withSys s { s.sys with drain := false })) ∧
    (m.val ≤ 2 → s.sys.mode = .idle → s.sys.drain = false → TakesWrite s m .power 0 4 0xF#32 → Answers (.modeRequestLeaveIdle m) s (fun t =>
      (if s.sys.back = .degraded ∧ s.dev.flt.fences = [] then
        t.sys = { s.sys with mode := .run, prev := 7, changes := ((s.sys.changes + 1) % 256 + 1) % 256 }
      else changedTo s.sys.back s.sys t.sys) ∧ onlyModeUnits s.dev t.dev ∧ t.clock = s.clock ∧ t.pending = s.pending)) ∧
    (m.val ≤ 2 → s.sys.mode = .idle → s.sys.drain = false → s.sys.straps.fallow = 1 → TakesWrite s m .power 0 4 9#32 →
      Answers (.modeRequestFallow m) s (fun t =>
        changedTo .fallow s.sys t.sys ∧ t.clock = s.clock ∧ t.pending = s.pending ∧
        (s.dev.trunk.curs = [] → t.dev.mem = s.dev.mem) ∧
        (∀ c : Fin 16, (vget t.dev.heads c).record = (vget s.dev.heads c).record ∧ (vget t.dev.heads c).entry = (vget s.dev.heads c).entry ∧
          (vget t.dev.heads c).phr = (vget s.dev.heads c).phr ∧ (vget t.dev.heads c).hot = (vget s.dev.heads c).hot ∧
          (vget t.dev.heads c).cyc = (vget s.dev.heads c).cyc ∧ (vget t.dev.heads c).eol = (vget s.dev.heads c).eol) ∧
        ∀ g : Fin 3, (vget t.dev.groups g).state = .off))

/-- A mode request that the table does not allow from the current mode is refused: the mode machine stays as it is, a drain goes on, and FS007 is raised
with the write that asked, whose default class is NOTE. -/
def Obligations.RefusedModeRequests : Prop :=
  programmed State.reset.dev 7 = 0 ∧
  ∀ (s : State) (m : Fin 7) (c : Instr) (code : Nat),
    (c, code) ∈ [(Instr.modeRequestRun m, 6), (.modeRequestIdle m, 8), (.modeRequestFallow m, 9), (.modeRequestDiag m, 10),
      (.modeRequestLeaveIdle m, 15)] →
    TakesWrite s m .power 0 4 (BitVec.ofNat 32 code) → requestAllowed s.sys m code = false →
    exec c s = .next (withDev s (reportAcc s.dev 7 m .write (unitBase .power 0 + 4)))

/-- The end of a drain. With no frame open and nothing left in a pipe IDLE is entered, to return to the mode that drained, and every READY lane group
starts towards electrical idle; at the drain's time limit every context is left with no frame open, and the mode and the drain stay as they are. In
IDLE no command of a pipe changes anything (for the timetable and the waystations assumption log 144). WAKE_N. In IDLE it acts as leave-IDLE; in
FALLOW, with no report latched, it enters TRAIN, sets PWR_STATUS.woke and starts switching the domains of the entry on again; in every other mode it
changes nothing. The model's readings: assumption log 8, 30, 78 and 144. -/
def Obligations.IdleIsEnteredAndLeft : Prop :=
  (∀ s : State, s.dev.acts = [] →
    (s.sys.drain = true → noFrameOpen s.dev = true → (∀ p : Fin 4, (vget s.dev.pipes p).row = none ∧ inlineReady s.dev p = none) →
      Answers .idleDrainComplete s (fun t =>
      t.sys = { s.sys with mode := .idle, prev := modeCode s.sys.mode, changes := (s.sys.changes + 1) % 256, back := s.sys.mode, drain := false } ∧
      onlyModeUnits s.dev t.dev ∧ t.clock = s.clock ∧ t.pending = s.pending ∧
      ∀ g : Fin 3, (vget s.dev.groups g).state = .ready → (vget t.dev.groups g).entering = true)) ∧
    (s.sys.mode = .idle → ∀ (p : Fin 4) (b : Bool), ∀ c ∈ [Instr.inlineRowReady p b, .pipeRowDone p, .stripeDone p, .pipeTtPeriodStart p,
      .pipeSlotBoundary p, .slotSwapDone p, .waystationRestoreDone p, .waystationSaveDone p], exec c s = .next s) ∧
    (s.sys.drain = true → unitsRun s.sys = true → Answers .idleDrainTimeout s (fun t =>
      onlyDev s t ∧ noFrameOpen t.dev = true ∧ t.dev.mem = s.dev.mem ∧ t.dev.drvs = s.dev.drvs ∧
      ∀ c : Fin 16, openFrame s.dev c = none → vget t.dev.ctxs c = vget s.dev.ctxs c))) ∧
  (∀ s : State, s.dev.acts = [] →
    (s.sys.mode = .idle → ¬ (s.sys.back = .degraded ∧ s.dev.flt.fences = []) → Answers .wakeN s (fun t =>
      changedTo s.sys.back s.sys t.sys ∧ onlyModeUnits s.dev t.dev ∧ t.clock = s.clock ∧ t.pending = s.pending)) ∧
    (s.sys.mode = .idle → s.sys.back = .degraded → s.dev.flt.fences = [] → Answers .wakeN s (fun t =>
      t.sys = { s.sys with mode := .run, prev := 7, changes := ((s.sys.changes + 1) % 256 + 1) % 256 } ∧
      onlyModeUnits s.dev t.dev ∧ t.clock = s.clock ∧ t.pending = s.pending)) ∧
    (s.sys.mode = .fallow → s.dev.flt.latched = [] → Answers .wakeN s (fun t =>
      changedTo .train s.sys t.sys ∧ t.clock = s.clock ∧ t.pending = s.pending ∧ getB t.dev .power 0 0 8 = true ∧
      { num := 45 } ∈ t.dev.events ∧ t.dev.mem = s.dev.mem ∧
      ∀ k ∈ s.dev.power.retained, switched s.dev k = false → k ∈ t.dev.power.coming)) ∧
    (s.sys.mode ≠ .idle → s.sys.mode ≠ .fallow → exec .wakeN s = .next s))

/-- Device resets, with no report latched in FALLOW. RESET_N held low, and a reset that is due, take the device to BOOT with no mode before it and no
change counted; the straps, the time base, OTP and the HALT latch are kept, but a device that ran on its recovered reference takes the crystal with
TIME_STATUS.ref_lost set, and a TRACKING clock of it enters HOLDOVER; GLOBAL_RESET_CAUSE shows the one cause and one more reset, every drover is in
RESET, and the pan, the download buffer and drover 0's memories keep their bytes. While RESET_N is low the device stays so; its release changes the
pin alone. The reference of a device that recovers it from TRET. Once the trunk group is READY its PLLs leave the crystal; when the group leaves READY
they return to it, TIME_STATUS.ref_lost is set, FS118 is raised and a TRACKING clock enters HOLDOVER. The model's readings: assumption log 31, 32 and
33. -/
def Obligations.DeviceResetsAndReferenceSwitches : Prop :=
  (∀ s : State, s.dev.flt.latched = [] →
    (∀ p ∈ [(Instr.resetNAssert, true, 3), (.deviceReset, s.sys.resetLow, firstCause (dueResets s))],
      aonRuns s.sys = true → (p.1 = .deviceReset → dueResets s ≠ []) → Answers p.1 s (fun t =>
        t.sys.mode = .boot ∧ t.sys.prev = 0 ∧ t.sys.changes = 0 ∧ t.sys.straps = s.sys.straps ∧ t.sys.halt = false ∧
        t.sys.resets = [] ∧ t.sys.resetLow = p.2.1 ∧ t.sys.drain = false ∧ t.pending = s.pending ∧
        (if recovering s.sys.straps = true ∧ s.sys.crystal = false then
          t.sys.crystal = true ∧ getB t.dev .time 0 4 6 = true ∧
          t.clock = { s.clock with state := if s.clock.state = .tracking then .holdover else s.clock.state }
        else t.clock = s.clock) ∧
        t.dev.otp = s.dev.otp ∧ t.dev.acts = [] ∧ (∀ n : Fin 4, vget t.dev.drvs n = {}) ∧ t.dev.flt.unacked = s.dev.flt.unacked ∧
        t.dev.flt.fences = [] ∧ t.dev.flt.packets = [] ∧ t.dev.flt.unlocked = false ∧
        get t.dev .glob 0 0x20 = causeWord (get s.dev .glob 0 0x20) p.2.2 ∧ get t.dev .glob 0 0x30 = get s.dev .glob 0 0x30 ∧
        (∀ a, panBase ≤ a → memByte t.dev a = memByte s.dev a) ∧ ∀ a, a < 0x720000 ∨ (0x780000 ≤ a ∧ a < 0x790000) →
          memByte t.dev a = memByte s.dev a)) ∧
    exec .resetNRelease s = .next { s with sys := { s.sys with resetLow := false } }) ∧
  (∀ s : State, s.sys.straps.role = 1 → s.sys.straps.refclk = 1 →
    (s.sys.crystal = true → (vget s.dev.groups 0).state = .ready →
      exec .refSwitchRecovered s = .next { s with sys := { s.sys with crystal := false } }) ∧
    (aonRuns s.sys = true → s.sys.crystal = false → (vget s.dev.groups 0).state ∈ [.training, .listen, .off, .test] →
      Answers .refSwitchCrystal s (fun t =>
        t.pending = s.pending ∧ t.sys = { s.sys with crystal := true } ∧
        t.clock = { s.clock with state := if s.clock.state = .tracking then .holdover else s.clock.state } ∧
        onlyRegs s.dev t.dev ∧ regsBut [unitBase .time 0 + 4] s.dev t.dev ∧
        get t.dev .time 0 4 = sqcEvent (get s.dev .time 0 4) 0x40 ∧ t.dev.events = s.dev.events ∧
        t.dev.reports = s.dev.reports ++ [{ source := 118, addr := unitBase .time 0 }])))

/-- The ONCE field GLOBAL_TREE.tree_id_set. In the root the first write after a reset enters the field, is copied to tree_id, and marks identity blocks as
due on every READY feeder where the tree ID changes it; a later write of the same value changes nothing, one of another value only logs FS130; in a
child every write only logs FS130. The model's readings: assumption log 37. -/
def Obligations.TreeIdIsWrittenOnce : Prop :=
  ∀ (s : State) (m : Fin 7) (v : Word),
    (∀ p ∈ [(Instr.onceWrite m v, v), (.treeIdSet m (v.setWidth 8), (v.setWidth 8).setWidth 32)], TakesWrite s m .glob 0 0x10 p.2 →
      (s.sys.straps.role ≠ 1 → s.dev.onceTree = false → Answers p.1 s (fun t =>
        onlyDev s t ∧ t.dev.onceTree = true ∧ getF t.dev .glob 0 0x10 7 0 = v.toNat % 256 ∧ getF t.dev .glob 0 0x10 15 8 = v.toNat % 256 ∧
        t.dev = { s.dev with regs := t.dev.regs, groups := t.dev.groups, onceTree := true } ∧
        regsBut [unitBase .glob 0 + 0x10] s.dev t.dev ∧
        ((getF s.dev .glob 0 0x10 15 8 ≠ v.toNat % 256) →
          ∀ g : Fin 3, g ≠ 0 → (vget s.dev.groups g).state = .ready → (vget t.dev.groups g).idDue = true))) ∧
      (s.sys.straps.role ≠ 1 → s.dev.onceTree = true → getF s.dev .glob 0 0x10 7 0 = v.toNat % 256 → exec p.1 s = .next s) ∧
      (s.sys.straps.role = 1 ∨ (s.dev.onceTree = true ∧ getF s.dev .glob 0 0x10 7 0 ≠ v.toNat % 256) →
        exec p.1 s = .next (withDev s (reportAcc s.dev 130 m .write (unitBase .glob 0 + 0x10)))))

/-- The staged registers of an idle unit apply: where its set breaks no limit, every staged register of its range takes its staged word, all in one step,
and none of the range stays staged; no memory, lane or collector state changes, nor any register staged elsewhere. Of GLOBAL_PROFILE, whose word shows
more than the request, the request takes effect, and eff follows it unless COOL is forced. The model's readings: assumption log 79. -/
def Obligations.IdleUnitsApplyTheirStagedWords : Prop :=
  ∀ (s : State) (u : IdleUnit), s.dev.acts = [] → idleSetFits s u = true → Answers (.idleUnitApply u) s (fun t =>
    onlyDev s t ∧ t.dev.mem = s.dev.mem ∧ t.dev.lanes = s.dev.lanes ∧ t.dev.flt = s.dev.flt ∧
    (u ≠ .profile → ∀ a, (idleRange u).1 ≤ a → a < (idleRange u).1 + (idleRange u).2 → rwsMask a ≠ 0 → rd t.dev a = stagedAt s.dev a) ∧
    (∀ a, (idleRange u).1 ≤ a → a < (idleRange u).1 + (idleRange u).2 → stagedAt t.dev a = rd t.dev a) ∧
    (∀ q ∈ s.dev.staged, ¬ ((idleRange u).1 ≤ q.1 ∧ q.1 < (idleRange u).1 + (idleRange u).2) → q ∈ t.dev.staged) ∧
    (u = .profile → getF t.dev .glob 0 0x18 1 0 = fld (stagedAt s.dev (unitBase .glob 0 + 0x18)) 1 0 ∧
      getF t.dev .glob 0 0x18 9 8 = (if s.dev.power.cool then 3 else fld (stagedAt s.dev (unitBase .glob 0 + 0x18)) 1 0)))

/-! ### Register access -/

/-- A 32-bit write that a plain register takes. RW bits take effect at once, RWS bits enter staging and leave the value in force as it was, every other
bit is left alone, and nothing else in the machine changes, but that a write of the trunk's map starts the wait for its check afresh, and is noted
while a change cycle runs: for every register of GLOBAL, the pipes, the toll wheel, the views, the harvest and the trunk timetable whose fields are RW
alone or RWS alone. A write to the shared drover memory or to the pan: the bytes of the width enter memory, lowest first, every other byte stays, and
nothing else in the machine changes, but that masters 0 and 1 reach a pan bank after every line that the scrubber has due there. The model's readings:
assumption log 37. -/
def Obligations.WritesReachRegistersAndMemory : Prop :=
  (∀ (s : State) (m : Fin 7) (u : UnitKind) (n o : Nat) (r : RegRow) (a v : Word),
    u ∈ [UnitKind.glob, .pipe, .toll, .view, .harv, .tt] → TakesWrite s m u n o v → plainReg u n o = true → rowAt u o = some r →
    a.toNat = unitBase u n + o → r.sqc = 0 → r.grd = 0 → r.once = 0 → r.pulse = 0 → r.wo = 0 →
    (r.rw ≠ 0 → r.rws = 0 → exec (.registerWrite m .word a v) s =
      .next (withDev s (wr s.dev a.toNat (mixBits (rd s.dev a.toNat) v (BitVec.ofNat 32 r.rw))))) ∧
    (r.rw = 0 → r.rws ≠ 0 → Answers (.registerWrite m .word a v) s (fun t =>
      t = withDev s { s.dev with
        staged := t.dev.staged, trunk := (if u = .tt ∧ 0x400 ≤ o then { s.dev.trunk with age := 0, since := t.dev.trunk.since } else s.dev.trunk) } ∧
      (u = .tt → 0x400 ≤ o → ∀ k, k ∈ t.dev.trunk.since ↔ k ∈ s.dev.trunk.since ∨ (s.dev.trunk.cycle ≠ none ∧ k = (o - 0x400) / 4)) ∧
      stagedAt t.dev a.toNat = mixBits (stagedAt s.dev a.toNat) v (BitVec.ofNat 32 r.rws) ∧
      ∀ b, b ≠ a.toNat → stagedAt t.dev b = stagedAt s.dev b))) ∧
  (∀ (s : State) (m : Fin 7) (w : Width) (a v : Word), s.dev.acts = [] → modeAllows s.env m false a.toNat = true → guardOf s.dev m = none →
    a.toNat % widthBytes w = 0 → badAt s.dev a.toNat = false →
    ((0x7C0000 ≤ a.toNat ∧ a.toNat < 0x800000) ∨ (inPan a.toNat = true ∧ bankOn s.dev (panBank (a.toNat - panBase)) = true)) →
    Answers (.registerWrite m w a v) s (fun t =>
      t = withDev s { (if inPan a.toNat then panTurnOf s.dev m a.toNat else s.dev) with mem := t.dev.mem } ∧
      (∀ i, i < widthBytes w → (memByte t.dev (a.toNat + i)).toNat = v.toNat / 256 ^ i % 256) ∧
      (∀ b, b < a.toNat ∨ a.toNat + widthBytes w ≤ b → memByte t.dev b = memByte s.dev b) ∧
      (memoryWf s.dev.mem = true → memoryWf t.dev.mem = true)))

/-- Writes to the register space that are rejected: misaligned ones, those of 8 or 16 bits to a unit register, those to an address that no table names, to
a live mirror, to a register of read-only fields, to a unit whose domain is off or that is fenced. Each is reported as FS131 with its master, access
type write and its address, and changes nothing else. The model's readings: assumption log 37. -/
def Obligations.RejectedWritesAreLogged : Prop :=
  ∀ (s : State) (m : Fin 7) (w : Width) (a v : Word), s.dev.acts = [] → guardOf s.dev m = none → modeAllows s.env m false a.toNat = true →
    a.toNat < 0x700000 →
    (a.toNat % widthBytes w ≠ 0 ∨ w ≠ .word ∨ unitAt a.toNat = none ∨
      (∃ u n o, unitAt a.toNat = some (u, n, o) ∧ (0x2000 ≤ o ∨
        (isReservedWord u n o = false ∧ isPairWord u o = false ∧
          (rowAt u o = none ∨ (∃ r, rowAt u o = some r ∧ (rowReadOnly r = true ∨ blockOn s.dev u n = false ∨
            (fenced s.dev u n = true ∧ u ≠ .drv)))))))) →
    exec (.registerWrite m w a v) s = .next (withDev s { s.dev with
      reports := s.dev.reports ++ [{ source := 131, master := m, access := 2, addr := a.toNat }] })

/-- Bits [31:24] of a sequence-clear register hold its sequence number: an event sets its bit and increments the number modulo 256, one whose bit is
already 1 included. A write clears the SQC bits that are 1 in its [23:0] only if its [31:24] equals the number, and changes neither the number nor
another bit; a write whose number differs changes nothing, and is not logged. -/
def Obligations.SequenceClearStatus : Prop :=
  (∀ (w : Word) (k : Nat), k < 24 →
    fld (sqcEvent w (2 ^ k)) 31 24 = (fld w 31 24 + 1) % 256 ∧
    ∀ i, i < 24 → flag (sqcEvent w (2 ^ k)) i = (flag w i || decide (i = k))) ∧
  ∀ (s : State) (m : Fin 7) (u : UnitKind) (n o : Nat) (r : RegRow) (a v : Word),
    TakesWrite s m u n o v → plainReg u n o = true → rowAt u o = some r → a.toNat = unitBase u n + o → r.sqc ≠ 0 → rowReadOnly r = false →
    Answers (.sqcClear m a v) s (fun t => (busWrite s.env s.dev m 4 a.toNat v).1 = true ∧
      onlyDev s t ∧ onlyRegs s.dev t.dev ∧ t.dev.reports = s.dev.reports ∧ t.dev.events = s.dev.events ∧ regsBut [a.toNat] s.dev t.dev ∧
      (fld v 31 24 ≠ fld (rd s.dev a.toNat) 31 24 → rd t.dev a.toNat = rd s.dev a.toNat) ∧
      (fld v 31 24 = fld (rd s.dev a.toNat) 31 24 → ∀ i, i < 32 →
        flag (rd t.dev a.toNat) i = (flag (rd s.dev a.toNat) i && !(flag v i && r.sqc.testBit i && decide (i < 24)))))

/-- Guarded pairs. A write to the value word waits, with nothing changed but the pair in progress; the complement completes it: FLT_SEV and
FLT_PIN_THRESHOLD take the class; FLT_TEST_UNLOCK unlocks once; TIME_FORCE steps the clock and puts it in HOLDOVER, with one event for its two status
bits (assumption log 19); SEC_REVOKE blows a slot's bit where another slot stays in use, and SEC_ROLLBACK the bits up to the new count (above 64
refused, assumption log 148), each by master 2, else SEC_STATUS.refused is set; GLOBAL_RESET with 0x9616 asks for a device reset of cause 2. A wrong
complement, a lone complement and the end of the window discard the value write and report FS129 with access type guard. A write in the bit alias
window to a bit of an RW register of a unit without write effects sets that bit to bit 0 of the data, and changes no other bit and nothing else; a
write to a bit of an RO, SQC, GRD or ONCE field is rejected and logged with access type alias. The model's readings: assumption log 36 and 148. -/
def Obligations.GuardedPairsAndBitAliasWrites : Prop :=
  (∀ (s : State) (m : Fin 7) (n o : Nat) (u : UnitKind) (r : RegRow) (a v : Word),
    plainReg u n o = true → rowAt u o = some r → r.grd ≠ 0 → a.toNat = unitBase u n + o →
    (TakesWrite s m u n o v → Answers (.guardedValueWrite m a v) s (fun t =>
      t = withDev s { s.dev with guards := t.dev.guards } ∧ guardOf t.dev m = some { addr := a.toNat, value := v } ∧
      ∀ k, k ≠ m.val → guardOf t.dev k = guardOf s.dev k)) ∧
    (s.dev.acts = [] → modeAllows s.env m false (a.toNat + 4) = true → writeAllowed m u n (o + 4) = true → blockOn s.dev u n = true →
      (guardOf s.dev m = none → exec (.guardedComplementWrite m (a + 4) v) s =
        .next (withDev s (reportAcc s.dev 129 m .guard (a.toNat + 4)))) ∧
      (∀ x : Word, guardOf s.dev m = some { addr := a.toNat, value := x } →
        (v ≠ ~~~ x → exec (.guardedComplementWrite m (a + 4) v) s =
          .next (withDev s (reportAcc (guardDrop s.dev m) 129 m .guard a.toNat))) ∧
        (v = ~~~ x → u = .customs → o = 8 → exec (.guardedComplementWrite m (a + 4) v) s =
          .next (withDev s (putF (guardDrop s.dev m) .customs 0 8 2 0 (fld x 2 0)))) ∧
        (v = ~~~ x → u = .customs → 0x800 ≤ o → fld x 2 0 ≤ 4 → exec (.guardedComplementWrite m (a + 4) v) s =
          .next (withDev s (putF (guardDrop s.dev m) .customs 0 o 2 0 (fld x 2 0)))) ∧
        (v = ~~~ x → u = .customs → o = 16 →
          (x ≠ 1 → exec (.guardedComplementWrite m (a + 4) v) s = .next (withDev s (reportAcc (guardDrop s.dev m) 129 m .guard a.toNat))) ∧
          (x = 1 → s.dev.flt.unlocked = true →
            exec (.guardedComplementWrite m (a + 4) v) s = .next (withDev s (reportAcc (guardDrop s.dev m) 130 m .guard a.toNat))) ∧
          (x = 1 → s.dev.flt.unlocked = false → exec (.guardedComplementWrite m (a + 4) v) s =
            .next (withDev s { guardDrop s.dev m with flt := { s.dev.flt with unlocked := true } }))) ∧
        (v = ~~~ x → u = .time → flag x 0 = true → stepOk (stepArgs s.dev) s.clock.now = true →
          Answers (.guardedComplementWrite m (a + 4) v) s (fun t =>
            t.sys = s.sys ∧ t.pending = s.pending ∧ t.clock = { stepClock (stepArgs s.dev) s.clock with state := .holdover } ∧
            get t.dev .time 0 4 = sqcEvent (get s.dev .time 0 4) 5 ∧ guardOf t.dev m = none)) ∧
        (v = ~~~ x → u = .sec → o = 0x58 →
          (if m = 2 ∧ (∃ i, i < 4 ∧ i ≠ fld x 1 0 ∧ slotProgrammed s.dev i = true ∧ slotRevoked s.dev i = false) then
            Answers (.guardedComplementWrite m (a + 4) v) s (fun t => t = withDev s { guardDrop s.dev m with otp := t.dev.otp } ∧
              (∀ i, slotRevoked t.dev i = (slotRevoked s.dev i || decide (i = fld x 1 0))) ∧ ∀ b, b ≠ 0xA0 → otpByte t.dev b = otpByte s.dev b)
          else exec (.guardedComplementWrite m (a + 4) v) s =
            .next (withDev s (put (guardDrop s.dev m) .sec 0 4 (sqcEvent (get s.dev .sec 0 4) 0x20))))) ∧
        (v = ~~~ x → u = .sec → o = 0x50 →
          (if m = 2 ∧ serving s.sys.mode = true ∧ rollbackCount s.dev < fld x 6 0 ∧ fld x 6 0 ≤ getF s.dev .boot 0 4 7 0 ∧ fld x 6 0 ≤ 64 then
            Answers (.guardedComplementWrite m (a + 4) v) s (fun t => t = withDev s { guardDrop s.dev m with otp := t.dev.otp } ∧
              (∀ i, i < 64 → (otpByte t.dev (0xA4 + i / 8)).toNat.testBit (i % 8) =
                ((otpByte s.dev (0xA4 + i / 8)).toNat.testBit (i % 8) || decide (i < fld x 6 0))) ∧
              ∀ b, b < 0xA4 ∨ 0xAC ≤ b → otpByte t.dev b = otpByte s.dev b)
          else exec (.guardedComplementWrite m (a + 4) v) s =
            .next (withDev s (put (guardDrop s.dev m) .sec 0 4 (sqcEvent (get s.dev .sec 0 4) 0x20))))) ∧
        (v = ~~~ x → u = .glob → x = 0x9616 → s.sys.mode ≠ .halt → ¬ (2 ∈ s.sys.resets) →
          exec (.guardedComplementWrite m (a + 4) v) s =
          .next { s with sys := { s.sys with resets := s.sys.resets ++ [2] }, dev := guardDrop s.dev m }))) ∧
    (aonRuns s.sys = true → s.dev.acts = [] →
      (guardOf s.dev m = none → exec (.guardWindowExpire m) s = .next s) ∧
      (∀ g, guardOf s.dev m = some g → exec (.guardWindowExpire m) s =
        .next (withDev s (reportAcc (guardDrop s.dev m) 129 m .guard g.addr))))) ∧
  (∀ (s : State) (m : Fin 7) (u : UnitKind) (n o : Nat) (r : RegRow) (a v x : Word) (b : Fin 32),
    plainReg u n o = true → rowAt u o = some r → a.toNat = unitBase u n + o → guardOf s.dev m = none → s.dev.acts = [] →
    modeAllows s.env m false a.toNat = true →
    (flag (aliasBits r) b = true → u ∈ [UnitKind.glob, .pipe, .toll, .view, .harv, .tt] → TakesWrite s m u n o x →
      writeFits s.env s.dev u n o = (fun _ => true) → r.rw.testBit b = true → r.rws = 0 → r.sqc = 0 → r.grd = 0 → r.once = 0 →
      stagedAt s.dev a.toNat = rd s.dev a.toNat →
      Answers (.bitAliasWrite m a b v) s (fun t =>
        onlyDev s t ∧ t.dev = { s.dev with regs := t.dev.regs } ∧ regsBut [a.toNat] s.dev t.dev ∧
        ∀ i, i < 32 → flag (rd t.dev a.toNat) i = (if i = b.val then flag v 0 else flag (rd s.dev a.toNat) i))) ∧
    (flag (aliasBits r) b = false → exec (.bitAliasWrite m a b v) s =
      .next (withDev s (reportAcc s.dev 131 m .bitAlias (aliasTarget a b)))))

/-! ### The fault collector -/

/-- A report that arrives outside FALLOW is registered: the programmed class (that of its latching, where FALLOW latched it), one higher while it is
RETRY, FENCE or RESET and open, and RESET in place of a FENCE that has no unit. The source holds the registration number and the acted class, the
number goes up by one, and event 43 is raised unless the class is TERMINAL. A RESET asks for a device reset, a TERMINAL enters HALT, and a FENCE in
RUN moves the device to DEGRADED with the unit fenced. (FS142 is acknowledged at once where the ROM has finished and it is the last one that waits,
assumption log 62.) A NOTE of a source that has an unread ledger entry of class NOTE joins that entry: its repeat count goes up, saturating at 255,
its timestamp is replaced, event 43 is raised, no number is taken, and the source holds the entry's number with class NOTE. The model's readings:
assumption log 62 and 115. -/
def Obligations.FaultsAreRegisteredOrJoinTheirLedgerEntry : Prop :=
  (∀ (s : State) (dt : Nat) (r : Report) (l : List Report) (acted : Nat), AonOn s → s.sys.mode ≠ .fallow → s.dev.reports = r :: l →
    r.forced = false →
    acted = (let k := classOf s.dev r
             let e := if 1 ≤ k ∧ k ≤ 3 ∧ classOpen s.dev k = true then k + 1 else k
             if e = 2 ∧ sourceUnit r.source = none then 3 else e) →
    (acted = 0 → noteEntry s.dev r.source = none) →
    Answers (.faultRegister 1 dt) s (fun t =>
      t.clock = (passTime s dt).clock ∧ t.pending = s.pending ∧ t.dev.flt.next = (s.dev.flt.next + 1) % 256 ∧
      heldBy t.dev r.source =
        (if r.source = 142 ∧ s.dev.boot.ackDue = true ∧ (∀ q ∈ l, q.source ≠ 142) then none else some { num := s.dev.flt.next, cls := acted }) ∧
      (acted ≠ 4 → acted ≠ 2 ∨ (s.dev.trunk.curs = [] ∧ s.dev.tapQueue = []) → t.dev.mem = s.dev.mem) ∧
      (acted ≠ 4 → { num := 43 } ∈ t.dev.events) ∧
      (acted ≤ 1 ∨ 5 ≤ acted → t.sys = s.sys ∧ t.dev.reports = l) ∧
      (acted = 3 → s.sys.mode ≠ .halt → 1 ∈ t.sys.resets ∧ t.sys.mode = s.sys.mode) ∧
      (acted = 4 → t.sys.mode = .halt ∧ t.sys.halt = true) ∧
      (∀ c, acted = 2 → sourceUnit r.source = some c → codeUnit c ≠ none → codeFenced s.dev c = false →
        codeFenced t.dev c = true ∧ (s.sys.mode = .run → t.sys.mode = .degraded) ∧ (s.sys.mode ≠ .run → t.sys = s.sys)))) ∧
  (∀ (s : State) (dt : Nat) (r : Report) (l : List Report) (i : Nat), AonOn s → s.sys.mode ≠ .fallow → s.dev.reports = r :: l →
    r.forced = false → classOf s.dev r = 0 → noteEntry s.dev r.source = some i → r.source ≠ 142 →
    Answers (.faultRegister 1 dt) s (fun t =>
      t.sys = s.sys ∧ t.clock = (passTime s dt).clock ∧ t.pending = s.pending ∧ t.dev.reports = l ∧
      t.dev.events = s.dev.events ++ [{ num := 43 }] ∧ t.dev.flt.next = s.dev.flt.next ∧
      heldBy t.dev r.source = some { num := fld (ledgerWord s.dev i 0) 31 24, cls := 0 } ∧
      fld (ledgerWord t.dev i 5) 7 0 = min 255 (fld (ledgerWord s.dev i 5) 7 0 + 1) ∧
      ledgerWord t.dev i 0 = ledgerWord s.dev i 0 ∧ ledgerWord t.dev i 1 = ledgerWord s.dev i 1 ∧
      ledgerWord t.dev i 4 = BitVec.ofNat 32 (nsOf (r.stamp.getD (passTime s dt).clock.now)) ∧
      regsBut [unitBase .customs 0 + 0x400 + i % 32 * 0x20 + 8, unitBase .customs 0 + 0x400 + i % 32 * 0x20 + 12,
        unitBase .customs 0 + 0x400 + i % 32 * 0x20 + 16, unitBase .customs 0 + 0x400 + i % 32 * 0x20 + 20] s.dev t.dev))

/-- The collector's write-only and pulse registers. FLT_FORCEi reports a forced fault for every 1 bit, in rising source number, with the writer, access
type write and the word's address. FLT_ACK acknowledges a source whose number matches, or with any; another number sets FLT_STATUS.ack_stale; a source
that holds nothing ignores it. FLT_CTRL clears the forced state, or marks the first-error record invalid. FLT_LEDGER_PTR.rd advances where at most 32
entries stay unread, else it stays. CUS_BEAT restarts the heartbeat. The customs heartbeat. Where the limit is not 0 and has passed in cycles of the
time base, FS169 is raised and the count restarts; before that, and in FALLOW, where it does not count, only time passes. The model's readings:
assumption log 36 and 78. -/
def Obligations.CollectorControlsAndHeartbeat : Prop :=
  (∀ (s : State) (m : Fin 7) (v : Word),
    (∀ i : Fin 6, TakesWrite s m .customs 0 (0x80 + 4 * i) v → exec (.faultForce i m v) s = .next (withDev s { s.dev with
      reports := s.dev.reports ++ ((List.range 32).filter (fun b => flag v b)).map (fun b =>
        { source := 32 * i + b, master := m, access := 2, addr := unitBase .customs 0 + 0x80 + 4 * i, forced := true }) })) ∧
    (TakesWrite s m .customs 0 0x40 v →
      (heldBy s.dev (fld v 7 0) = none → exec (.faultAck m v) s = .next s) ∧
      (∀ h, heldBy s.dev (fld v 7 0) = some h →
        (h.num = fld v 31 24 ∨ flag v 8 = true → exec (.faultAck m v) s =
          .next (withDev s { s.dev with flt := { s.dev.flt with unacked := sDel (fld v 7 0) s.dev.flt.unacked } })) ∧
        (h.num ≠ fld v 31 24 → flag v 8 = false → exec (.faultAck m v) s =
          .next (withDev s (put s.dev .customs 0 0 (sqcEvent (get s.dev .customs 0 0) 4)))))) ∧
    (TakesWrite s m .customs 0 4 2#32 →
      exec (.forcedClear m) s = .next (withDev s { s.dev with flt := { s.dev.flt with forced := false } })) ∧
    (TakesWrite s m .customs 0 4 1#32 →
      exec (.firstClear m) s = .next (withDev s (putF s.dev .customs 0 0x34 9 9 0))) ∧
    (∀ i : Fin 64, TakesWrite s m .customs 0 0x48 (BitVec.ofNat 32 i) →
      ((getF s.dev .customs 0 0x48 13 8 + 64 - i.val) % 64 ≤ 32 → exec (.ledgerAdvance i m) s =
        .next (withDev s (putF s.dev .customs 0 0x48 5 0 i))) ∧
      (32 < (getF s.dev .customs 0 0x48 13 8 + 64 - i.val) % 64 → exec (.ledgerAdvance i m) s = .next s)) ∧
    (TakesWrite s m .customs 0 0x3C v →
      exec (.heartbeat m v) s = .next (withDev s { s.dev with flt := { s.dev.flt with beatAt := s.clock.cycles } }))) ∧
  (∀ (s : State) (dt : Nat), s.dev.acts = [] →
    (aonRuns s.sys = true → s.sys.mode ≠ .fallow → getF s.dev .customs 0 0x38 15 0 ≠ 0 →
      s.dev.flt.beatAt + getF s.dev .customs 0 0x38 15 0 * 500000 ≤ s.clock.cycles + dt →
      exec (.heartbeatMissed dt) s = .next (withDev (passTime s dt) { s.dev with
        reports := s.dev.reports ++ [{ source := 169, addr := unitBase .customs 0 }],
        flt := { s.dev.flt with beatAt := s.clock.cycles + dt } })) ∧
    (s.sys.mode = .fallow ∨ getF s.dev .customs 0 0x38 15 0 = 0 ∨
      s.clock.cycles + dt < s.dev.flt.beatAt + getF s.dev .customs 0 0x38 15 0 * 500000 →
      exec (.heartbeatMissed dt) s = .next (passTime s dt)))

/-- Unit reset and return. A reset of a fenced unit puts its registers to their reset values and leaves it fenced; a return of a unit that was reset
since, whose fencing source holds nothing, lifts the fence, and with the last one DEGRADED becomes RUN; of a unit that is not fenced, or where a
condition is not met, they only set FLT_STATUS.unit_refused. -/
def Obligations.UnitResetAndReturn : Prop :=
  ∀ (s : State) (m : Fin 7) (c : Fin 256),
    (TakesWrite s m .customs 0 0x44 (BitVec.ofNat 32 (0x100 + c)) →
      (codeUnit c = none ∨ fenceOf s.dev c = none → exec (.unitReset c m) s =
        .next (withDev s (put s.dev .customs 0 0 (sqcEvent (get s.dev .customs 0 0) 8)))) ∧
      (∀ u n f, codeUnit c = some (u, n) → fenceOf s.dev c = some f → Answers (.unitReset c m) s (fun t =>
        onlyDev s t ∧ fenceOf t.dev c = some { f with wasReset := true } ∧ t.dev.mem = s.dev.mem ∧
        (u ≠ .feeder → ∀ o, o < 0x2000 → rd t.dev (unitBase u n + o) = resetWord (unitBase u n + o)) ∧
        (∀ a, 0x4000 ≤ a → a < 0x6000 → rd t.dev a = rd s.dev a)))) ∧
    (TakesWrite s m .customs 0 0x44 (BitVec.ofNat 32 (0x200 + c)) →
      (codeUnit c = none ∨ fenceOf s.dev c = none ∨
          (∃ f, fenceOf s.dev c = some f ∧ (f.wasReset = false ∨ heldBy s.dev f.source ≠ none)) → exec (.unitReturn c m) s =
        .next (withDev s (put s.dev .customs 0 0 (sqcEvent (get s.dev .customs 0 0) 8)))) ∧
      (∀ f, codeUnit c ≠ none → fenceOf s.dev c = some f → f.wasReset = true → heldBy s.dev f.source = none →
        Answers (.unitReturn c m) s (fun t =>
          codeFenced t.dev c = false ∧ t.dev.flt.fences = sDel c s.dev.flt.fences ∧ t.clock = s.clock ∧ t.pending = s.pending ∧
          t.dev.mem = s.dev.mem ∧
          (if sDel c s.dev.flt.fences = [] ∧ s.sys.mode = .degraded then changedTo .run s.sys t.sys else t.sys = s.sys))))

/-! ### Power and heat -/

/-- PWR_CTRL.apply. An apply that breaks a dependency or the budget changes no domain, sets PWR_STATUS.refused with event 45 and raises FS002 with the
write that asked. An accepted one switches the domains that are no longer wanted off at once, leaves the wanted usable ones usable, and makes the
wanted others wait for their turn; the pan keeps its bytes unless its banks go off. A domain that was switched on becomes usable: the one whose turn
is next, PD32–PD39 together after every other (assumption log 142), with which every line of the pan reads 0 unless FALLOW kept it; a device with an
ID of 7–14 keeps PD14–PD23 off. No other domain changes; with none waiting, and no class either, nothing does. A class that waits comes into force
where the charge then fits it. 1 s after a lowering GRANT. With no class waiting nothing happens; a class whose charge fits comes into force;
otherwise the governor switches domains off in its order until it does, so that afterwards either no class waits or every domain of its list is off.
The model's readings: assumption log 21, 22, 25, 78 and 142. -/
def Obligations.DomainsAreJudgedSwitchedAndGoverned : Prop :=
  (∀ (s : State) (m : Fin 7), TakesWrite s m .power 0 0x24 1#32 →
    (dependOk (wanted s.dev) = false ∨ judgeBudget s.dev < chargeSet s.dev (feederCharged s.dev) (profileReq s.dev) (wanted s.dev) →
      exec (.powerApply m) s = .next (withDev s { put s.dev .power 0 0 (sqcEvent (get s.dev .power 0 0) 1) with
        events := s.dev.events ++ [{ num := 45 }], reports := s.dev.reports ++ [{ source := 2, master := m, access := 2, addr := unitBase .power 0 + 0x24 }] })) ∧
    (dependOk (wanted s.dev) = true → chargeSet s.dev (feederCharged s.dev) (profileReq s.dev) (wanted s.dev) ≤ judgeBudget s.dev →
      Answers (.powerApply m) s (fun t =>
        onlyDev s t ∧
        (∀ k : Fin 50, domainOn t.dev (k + 1) = (domainOn s.dev (k + 1) && wanted s.dev (k + 1)) ∧
          switched t.dev (k + 1) = wanted s.dev (k + 1)) ∧
        ((∀ k : Fin 4, switched s.dev (39 + k) = true → wanted s.dev (39 + k) = true) → s.dev.power.retained = [] →
          s.dev.trunk.curs = [] → s.dev.tapQueue = [] → t.dev.mem = s.dev.mem)))) ∧
  (∀ (s : State), UnitsOn s →
    (s.dev.power.coming = [] → s.dev.power.granted = none → exec .domainOn s = .next s) ∧
    (∀ a k l, s.dev.power.coming = a ++ k :: l → (∀ j ∈ a, 32 ≤ j ∧ j ≤ 39) → 1 ≤ k → k ≤ 50 → ¬ (32 ≤ k ∧ k ≤ 39) →
      Answers .domainOn s (fun t =>
        onlyDev s t ∧ domainOn t.dev k = (domainOn s.dev k || !(decide (14 ≤ k) && decide (k ≤ 23) && leafDevice s.dev)) ∧
        k ∉ t.dev.power.coming ∧ t.dev.mem = s.dev.mem ∧ (∀ j : Fin 50, j.val + 1 ≠ k → domainOn t.dev (j + 1) = domainOn s.dev (j + 1)) ∧
        (∀ c, s.dev.power.granted = some c → t.dev.power.granted = none ∨ classBudget c < chargeNow t.dev))) ∧
    (s.dev.power.coming ≠ [] → (∀ k ∈ s.dev.power.coming, 32 ≤ k ∧ k ≤ 39) → Answers .domainOn s (fun t =>
      onlyDev s t ∧ t.dev.power.coming = [] ∧
      (∀ j : Fin 50, domainOn t.dev (j + 1) = (domainOn s.dev (j + 1) || s.dev.power.coming.contains (j.val + 1))) ∧
      (39 ∈ s.dev.power.coming → 39 ∉ s.dev.power.retained → ∀ a, inPan a = true → memByte t.dev a = 0) ∧
      (39 ∉ s.dev.power.coming ∨ 39 ∈ s.dev.power.retained → t.dev.mem = s.dev.mem) ∧
      ∀ a, inPan a = false → memByte t.dev a = memByte s.dev a))) ∧
  (∀ (s : State), AonOn s →
    (s.dev.power.granted = none → exec .grantEnforce s = .next s) ∧
    (∀ c, s.dev.power.granted = some c → chargeNow s.dev ≤ classBudget c → Answers .grantEnforce s (fun t =>
      t = withDev s { putF s.dev .power 0 0xC 6 4 c with power := { s.dev.power with granted := none } })) ∧
    (∀ c, s.dev.power.granted = some c → Answers .grantEnforce s (fun t =>
      onlyDev s t ∧ (t.dev.power.granted = none ∨
        ∀ l ∈ enforceSteps, ∀ k ∈ l, switched t.dev k = false) ∧
      (∀ k : Fin 50, domainOn t.dev (k + 1) = true → domainOn s.dev (k + 1) = true))))

/-- A feeder line on its way up, and off again. A signature of a class that the line may power goes to RAMP, any other reading waits with PWR_STATUS.feedf
set; RAMP goes to HOLD, HOLD to ON, where a group that waited for its line starts training attempt 1 once the lane PLLs are locked; a broken limit
removes the line and takes the group to WAIT_LINE, with no fault but that of packets of the child which were open; BACKOFF and the wait of a failed
detection lead back to DETECT. The model's readings: assumption log 8 and 26. -/
def Obligations.FeederLinesFollowTheirStates : Prop :=
  (∀ ma, signatureClass ma = (if 25 ≤ ma ∧ ma ≤ 55 then 1 else if 65 ≤ ma ∧ ma ≤ 95 then 2 else if 105 ≤ ma ∧ ma ≤ 135 then 3
    else if 160 ≤ ma ∧ ma ≤ 200 then 4 else 0)) ∧
  ∀ (s : State) (f : Fin 2) (volts ma : Nat), UnitsOn s →
    ((feedOf s.dev f).state = .detect → (feedOf s.dev f).wait = false →
      (1 ≤ signatureClass ma → signatureClass ma ≤ getF s.dev .power 0 (0x40 + 8 * f) 26 24 → exec (.feedDetectDone f ma) s =
        .next (withDev s (onFeed s.dev f (fun _ => { state := .ramp, cls := signatureClass ma })))) ∧
      (signatureClass ma = 0 ∨ getF s.dev .power 0 (0x40 + 8 * f) 26 24 < signatureClass ma → Answers (.feedDetectDone f ma) s (fun t =>
        onlyDev s t ∧ t.dev.power.feeds = vmod s.dev.power.feeds f (fun _ => { state := .detect, cls := 0, wait := true }) ∧
        t.dev.events = s.dev.events ++ [{ num := 45 }] ∧ t.dev.reports = s.dev.reports ∧ getB t.dev .power 0 0 (6 + f) = true))) ∧
    ((feedOf s.dev f).state = .detect → (feedOf s.dev f).wait = true → exec (.feedDetectRetry f) s =
      .next (withDev s (onFeed s.dev f (fun _ => { state := .detect })))) ∧
    ((feedOf s.dev f).state = .ramp → exec (.feedRampDone f) s =
      .next (withDev s (onFeed s.dev f (fun x => { x with state := .hold })))) ∧
    ((feedOf s.dev f).state = .hold → Answers (.feedHoldDone f volts ma) s (fun t =>
      onlyDev s t ∧ (feedOf t.dev f).state = .on ∧ t.dev.mem = s.dev.mem ∧
      getF t.dev .power 0 (0x44 + 8 * f) 31 16 = volts % 65536 ∧ getF t.dev .power 0 (0x44 + 8 * f) 15 0 = ma % 65536 ∧
      ((vget s.dev.groups (f + 1)).state = .waitLine → s.dev.power.pllUp = true →
        (vget t.dev.groups (f + 1)).state = .training ∧ (vget t.dev.groups (f + 1)).attempt = 1) ∧
      ((vget s.dev.groups (f + 1)).state ≠ .waitLine ∨ s.dev.power.pllUp = false → t.dev.groups = s.dev.groups))) ∧
    ((feedOf s.dev f).state ∈ [.ramp, .hold, .on] → Answers (.feedOvercurrent f volts ma) s (fun t =>
      onlyDev s t ∧ (feedOf t.dev f).state = .backoff ∧ (vget t.dev.groups (f + 1)).state = .waitLine ∧
      (vget t.dev.groups (f + 1)).attempt = 0 ∧ getB t.dev .power 0 0 (6 + f) = true ∧
      t.dev.events = s.dev.events ++ [{ num := 45 }] ∧ t.dev.mem = s.dev.mem ∧
      ((vget s.dev.groups (f + 1)).opens = [] → t.dev.reports = s.dev.reports))) ∧
    ((feedOf s.dev f).state = .backoff → exec (.feedBackoffDone f) s =
      .next (withDev s (onFeed s.dev f (fun _ => { state := .detect }))))

/-- A thermal sample, valid while PD50 is on: THERM_TJ takes the highest of sensors 0–12 and each THERM_SENS its sensor. Forced COOL begins at 135 °C and
ends after 1 s of samples below 125 °C, shedding begins at 145 °C and ends after 1 s below 140 °C (10,000 samples, assumption log 27); the beginning
of forced COOL raises FS003. With PD50 off nothing changes. A trip raises FS000; in FALLOW it enters HALT, with FS000 on record. The model's readings:
assumption log 28. -/
def Obligations.HeatIsMonitored : Prop :=
  ∀ (s : State), AonOn s →
    (∀ temps : Vector Int 14, domainOn s.dev 50 = false → exec (.thermalSample temps) s = .next s) ∧
    (∀ temps : Vector Int 14, domainOn s.dev 50 = true → Answers (.thermalSample temps) s (fun t =>
      onlyDev s t ∧ t.dev.mem = s.dev.mem ∧
      ∀ tj : Int, (∃ k : Fin 13, tj = temps[k.val]) → (∀ k : Fin 13, temps[k.val] ≤ tj) →
        get t.dev .thermal 0 0 = BitVec.ofNat 32 (2 ^ 31 + (tj % 65536).toNat) ∧
        (∀ k : Fin 14, get t.dev .thermal 0 (0x40 + 4 * k) = BitVec.ofNat 32 (2 ^ 31 + (temps[k.val] % 65536).toNat)) ∧
        t.dev.power.cool =
          (if s.dev.power.cool then !(decide (tj < 2000) && decide (9999 ≤ s.dev.power.coolRun)) else decide (2160 ≤ tj)) ∧
        t.dev.power.shedding =
          (if s.dev.power.shedding then !(decide (tj < 2240) && decide (9999 ≤ s.dev.power.shedRun)) else decide (2320 ≤ tj)) ∧
        (s.dev.power.cool = false → 2160 ≤ tj → { source := 3, addr := unitBase .thermal 0 } ∈ t.dev.reports ∧ { num := 46 } ∈ t.dev.events))) ∧
    (s.sys.mode ≠ .fallow → exec .thermalTrip s =
      .next (withDev s { s.dev with reports := s.dev.reports ++ [{ source := 0, addr := unitBase .thermal 0 }] })) ∧
    (s.sys.mode = .fallow → Answers .thermalTrip s (fun t =>
      t.sys.mode = .halt ∧ t.sys.halt = true ∧ t.clock = s.clock ∧ t.pending = s.pending ∧ (heldBy t.dev 0).isSome = true)) ∧
    (∀ m : Fin 7, TakesWrite s m .thermal 0 0xC 0x80000000#32 → exec (.thermPeakClear m) s =
      .next (withDev s { put s.dev .thermal 0 0xC (BitVec.ofNat 32 (getF s.dev .thermal 0 0 15 0)) with
        power := { s.dev.power with peaked := getB s.dev .thermal 0 0 31 } }))

/-! ### Drovers -/

/-- Work registers, and the instructions that compute. w0 reads as zero and discards writes, and a write changes its register alone. The RR rows, ADDI and
LUI write their result to rd and go on at the next word. Branches and jumps. t is the branch's address plus four times the offset. A branch goes to t
where its condition holds, else to the next word; JAL writes the return address to w15 and goes to t; JR goes to the address it read from rs1 before
it writes the return address to rd. A target that is no instruction address traps with cause FETCH at the branch, with nothing written. -/
def Obligations.ArithmeticBranchesAndJumps : Prop :=
  ((∀ (v : Drover) (r q : Nat) (x : Word),
    wReg v 0 = 0 ∧ wSet v 0 x = v ∧ (r ≠ 0 → wReg (wSet v r x) q = if q = r then x else wReg v q)) ∧
  ∀ (s : State) (n : Fin 4) (w : Word) (c : Instr) (row : JRow) (x : Word),
    ((c, row) ∈ [(Instr.add n, JRow.add), (.sub n, .sub), (.and n, .and), (.or n, .or), (.xor n, .xor), (.shl n, .shl), (.shr n, .shr),
        (.sra n, .sra), (.mul n, .mul), (.mulh n, .mulh)] ∧
      rrResult row (wReg (drvOf s.dev n) (fieldB w)) (wReg (drvOf s.dev n) (fieldC w)) = some x) ∨
    (c = .addi n ∧ row = .addi ∧ x = wReg (drvOf s.dev n) (fieldB w) + BitVec.ofInt 32 (sInt 18 (fld w 31 14))) ∨
    (c = .lui n ∧ row = .lui ∧ x = BitVec.ofNat 32 (fld w 31 14 * 2 ^ 14)) →
    Fetched s n row w → (drvOf s.dev n).pc + 4 < imSize → exec c s =
      .next (withDev s (onDrv s.dev n (fun v => { wSet v (fieldA w) x with pc := v.pc + 4 })))) ∧
  (∀ (s : State) (n : Fin 4) (w : Word) (a b : Word) (t : Int),
    a = wReg (drvOf s.dev n) (fieldA w) → b = wReg (drvOf s.dev n) (fieldB w) → t = (drvOf s.dev n).pc + 4 * sInt 18 (fld w 31 14) →
    (∀ c row cond, (c, row, cond) ∈ [(Instr.beq n, JRow.beq, decide (a = b)), (.bne n, .bne, decide (a ≠ b)),
        (.blt n, .blt, decide (a.toInt < b.toInt)), (.bge n, .bge, decide (a.toInt ≥ b.toInt)),
        (.bltu n, .bltu, decide (a.toNat < b.toNat))] → Fetched s n row w →
      (cond = false → (drvOf s.dev n).pc + 4 < imSize → exec c s = .next (withDev s (onDrv s.dev n (fun v => { v with pc := v.pc + 4 })))) ∧
      (cond = true → 0 ≤ t → t < 0x20000 → t % 4 = 0 → exec c s = .next (withDev s (onDrv s.dev n (fun v => { v with pc := t.toNat })))) ∧
      (cond = true → ¬ (0 ≤ t ∧ t < 0x20000 ∧ t % 4 = 0) → exec c s =
        .next (withDev s (takeTrap s.dev n 2 0 (drvOf s.dev n).pc (BitVec.ofInt 32 t))))) ∧
    (Fetched s n .jal w →
      (0 ≤ t → t < 0x20000 → t % 4 = 0 → exec (.jal n) s = .next (withDev s (onDrv s.dev n (fun v =>
        { wSet v 15 (BitVec.ofNat 32 (v.pc + 4)) with pc := t.toNat })))) ∧
      (¬ (0 ≤ t ∧ t < 0x20000 ∧ t % 4 = 0) → exec (.jal n) s =
        .next (withDev s (takeTrap s.dev n 2 0 (drvOf s.dev n).pc (BitVec.ofInt 32 t))))) ∧
    (Fetched s n .jr w →
      (b.toNat < 0x20000 → b.toNat % 4 = 0 → exec (.jr n) s = .next (withDev s (onDrv s.dev n (fun v =>
        { wSet v (fieldA w) (BitVec.ofNat 32 (v.pc + 4)) with pc := b.toNat })))) ∧
      (¬ (b.toNat < 0x20000 ∧ b.toNat % 4 = 0) → exec (.jr n) s =
        .next (withDev s (takeTrap s.dev n 2 0 (drvOf s.dev n).pc b)))))

/-- Loads and stores. The effective address is rs1 plus the immediate. A misaligned one traps with cause ALIGN and makes no access. A load from the
drover's own data memory or the shared memory reads its bytes zero-extended into rd, a store there writes the low bytes of rs and no other byte; a
load from anywhere else waits for its response, and a store to anywhere else joins the store queue while it holds fewer than eight, or stalls. An
access to a pan bank with power also joins that drover's pan requests. The model's readings: assumption log 50, 51 and 53. -/
def Obligations.LoadsAndStores : Prop :=
  ∀ (s : State) (n : Fin 4) (w : Word) (a : Nat),
    a = (wReg (drvOf s.dev n) (fieldB w) + BitVec.ofInt 32 (sInt 18 (fld w 31 14))).toNat →
    (∀ c row k, (c, row, k) ∈ [(Instr.ldB n, JRow.ldB, 1), (.ldH n, .ldH, 2), (.ldW n, .ldW, 4)] → Fetched s n row w →
      (a % k ≠ 0 → exec c s = .next (withDev s (takeTrap s.dev n 3 0 (drvOf s.dev n).pc (BitVec.ofNat 32 a)))) ∧
      (a % k = 0 → pathOf n a ∈ [.own, .shared] → badAt s.dev a = false → (drvOf s.dev n).pc + 4 < imSize → exec c s =
        .next (withDev s (onDrv s.dev n (fun v => { wSet v (fieldA w) (BitVec.ofNat 32 (memVal s.dev k a)) with pc := v.pc + 4 })))) ∧
      (a % k = 0 → pathOf n a = .own → badAt s.dev a = true → exec c s =
        .next (withDev s (takeTrap s.dev n 8 0 (drvOf s.dev n).pc (BitVec.ofNat 32 (lineOf a))))) ∧
      (a % k = 0 → pathOf n a = .bus → exec c s = .next (withDev s (onDrv s.dev n (fun v => { v with
        load := some { addr := a, width := k, rd := fieldA w, pc := v.pc } })))) ∧
      (a % k = 0 → pathOf n a = .pan → bankOn s.dev (panBank (a - panBase)) = true → exec c s =
        .next (withDev s { onDrv s.dev n (fun v => { v with load := some { addr := a, width := k, rd := fieldA w, pc := v.pc } }) with
          panReqs := s.dev.panReqs ++ [{ drover := n, addr := a, width := k, write := false, pc := (drvOf s.dev n).pc }] }))) ∧
    (∀ c row k, (c, row, k) ∈ [(Instr.stB n, JRow.stB, 1), (.stH n, .stH, 2), (.stW n, .stW, 4)] → Fetched s n row w →
      (a % k ≠ 0 → exec c s = .next (withDev s (takeTrap s.dev n 3 0 (drvOf s.dev n).pc (BitVec.ofNat 32 a)))) ∧
      (a % k = 0 → pathOf n a ∈ [.own, .shared] → badAt s.dev a = false → (drvOf s.dev n).pc + 4 < imSize → Answers c s (fun t =>
        t = withDev s { onDrv s.dev n (fun v => { v with pc := v.pc + 4 }) with mem := t.dev.mem } ∧
        (∀ i, i < k → (memByte t.dev (a + i)).toNat = (wReg (drvOf s.dev n) (fieldA w)).toNat / 256 ^ i % 256) ∧
        (∀ q, q < a ∨ a + k ≤ q → memByte t.dev q = memByte s.dev q) ∧
        (memoryWf s.dev.mem = true → memoryWf t.dev.mem = true))) ∧
      (a % k = 0 → pathOf n a = .bus → (drvOf s.dev n).stores.length < 8 → (drvOf s.dev n).pc + 4 < imSize → exec c s =
        .next (withDev s (onDrv s.dev n (fun v => { v with
          pc := v.pc + 4, stores := v.stores ++ [{ addr := a, data := wReg v (fieldA w), width := k, pc := v.pc }] })))) ∧
      (a % k = 0 → pathOf n a = .pan → bankOn s.dev (panBank (a - panBase)) = true → (drvOf s.dev n).stores.length < 8 →
        (drvOf s.dev n).pc + 4 < imSize → exec c s =
        .next (withDev s { onDrv s.dev n (fun v => { v with
            pc := v.pc + 4, stores := v.stores ++ [{ addr := a, data := wReg v (fieldA w), width := k, pc := v.pc }] }) with
          panReqs := s.dev.panReqs ++ [{
            drover := n, addr := a, width := k, write := true, data := wReg (drvOf s.dev n) (fieldA w), pc := (drvOf s.dev n).pc }] })) ∧
      (a % k = 0 → pathOf n a ∈ [.bus, .pan] → 8 ≤ (drvOf s.dev n).stores.length → exec c s = .next s))

/-- The responses of loads and stores, and FENCE. A load from the crossbar makes the read of master 2 + n once no earlier store there is open, and its
data enter rd, with which a halt that waited for it takes effect; an error response, from the crossbar or the pan, traps with cause LOAD_ERR at the
load, which writes nothing, and an uncorrectable line of the drover's own instruction memory with cause ECC. A posted store makes its write in program
order and leaves the queue; where the drover runs, an error response traps with cause STORE_ERR at the store. FENCE retires once no store is open. The
model's readings: assumption log 51, 52 and 59. -/
def Obligations.LoadAndStoreResponses : Prop :=
  ∀ (s : State) (n : Fin 4), UnitsOn s →
    (∀ l, (drvOf s.dev n).load = some l →
      (∀ x, (inPan l.addr = true ∧ l.reply = some (some x)) ∨ (inPan l.addr = false ∧
          (drvOf s.dev n).stores.any (fun q => !(inPan q.addr)) = false ∧ (ownInstr n l.addr && badAt s.dev l.addr) = false ∧
          busRead s.env s.dev (2 + n) l.width l.addr = (some x, s.dev)) →
        (drvOf s.dev n).failed = none → (drvOf s.dev n).pc + 4 < imSize →
          ((drvOf s.dev n).haltDue = false → exec (.loadResponse n) s =
            .next (withDev s (onDrv s.dev n (fun v => { wSet v l.rd x with pc := v.pc + 4, load := none })))) ∧
          ((drvOf s.dev n).haltDue = true → (drvOf s.dev n).state = .running → exec (.loadResponse n) s =
            .next (withDev s (onDrv s.dev n (fun v => { wSet v l.rd x with
              pc := v.pc + 4, load := none, state := .halted, haltDue := false }))))) ∧
      (inPan l.addr = true → l.reply = some none → exec (.loadResponse n) s =
        .next (withDev s (takeTrap (onDrv s.dev n (fun v => { v with load := none })) n 4 0 l.pc (BitVec.ofNat 32 l.addr)))) ∧
      (inPan l.addr = false → (drvOf s.dev n).stores.any (fun q => !(inPan q.addr)) = false → ownInstr n l.addr = true →
        badAt s.dev l.addr = true → guardOf s.dev (2 + n) = none → exec (.loadResponse n) s =
        .next (withDev s (takeTrap s.dev n 8 0 l.pc (BitVec.ofNat 32 (lineOf l.addr))))) ∧
      (∀ d, inPan l.addr = false → (drvOf s.dev n).stores.any (fun q => !(inPan q.addr)) = false →
        (ownInstr n l.addr && badAt s.dev l.addr) = false → d.acts = [] →
        busRead s.env s.dev (2 + n) l.width l.addr = (none, d) → exec (.loadResponse n) s =
        .next (withDev s (takeTrap (onDrv d n (fun v => { v with load := none })) n 4 0 l.pc (BitVec.ofNat 32 l.addr)))) ∧
      (inPan l.addr = false → (drvOf s.dev n).stores.any (fun q => !(inPan q.addr)) = true → exec (.loadResponse n) s = .next s)) ∧
    (∀ (i : Nat) (p : PostedStore) (gone : Dev), (drvOf s.dev n).stores[i]? = some p →
      gone = onDrv s.dev n (fun v => { v with stores := v.stores.eraseIdx i }) →
      (inPan p.addr = true → p.reply = some true → exec (.storeResponse n i) s = .next (withDev s gone)) ∧
      (inPan p.addr = true → p.reply = some false → (drvOf s.dev n).state = .running → (drvOf s.dev n).load = none →
        exec (.storeResponse n i) s = .next (withDev s (takeTrap gone n 5 0 p.pc (BitVec.ofNat 32 p.addr)))) ∧
      (inPan p.addr = false → ((drvOf s.dev n).stores.take i).any (fun q => !(inPan q.addr)) = true →
        exec (.storeResponse n i) s = .next s) ∧
      (∀ d, inPan p.addr = false → ((drvOf s.dev n).stores.take i).any (fun q => !(inPan q.addr)) = false → d.acts = [] →
        (busWrite s.env gone (2 + n) p.width p.addr p.data = (true, d) → exec (.storeResponse n i) s = .next (withDev s d)) ∧
        (busWrite s.env gone (2 + n) p.width p.addr p.data = (false, d) → (drvOf d n).state = .running → (drvOf d n).load = none →
          exec (.storeResponse n i) s = .next (withDev s (takeTrap d n 5 0 p.pc (BitVec.ofNat 32 p.addr)))))) ∧
    (∀ w, Fetched s n .fence w →
      ((drvOf s.dev n).stores = [] → (drvOf s.dev n).pc + 4 < imSize → exec (.fence n) s =
        .next (withDev s (onDrv s.dev n (fun v => { v with pc := v.pc + 4 })))) ∧
      ((drvOf s.dev n).stores ≠ [] → exec (.fence n) s = .next s))

/-- WAIT. With a wanted event pending, WAIT and its polling form consume the lowest one and write its number to rd. With none pending the polling form
writes 0xFFFF_FFFF, and WAIT sleeps, or traps with cause ILLEGAL where no wanted event is enabled. A sleeping WAIT retires and consumes the lowest
wanted event that is pending; while none is, it sleeps on. Each retirement and each sleep restarts the watchdog. Events reach the drovers. An
occurrence sets the pending bit in every drover that enables the event; where the bit is set already, the overrun is counted in DRV_EVOVR with the
event, and FS107 is raised on the first overrun since DRV_EVOVR was read; a drover that does not enable the event does not record it. The squash event
reaches the drover it is for. A read of DRV_EVOVR lets the next overrun raise FS107. The model's readings: assumption log 9 and 10. -/
def Obligations.EventsReachTheDroversAndWaitConsumesThem : Prop :=
  (∀ (s : State) (n : Fin 4) (w : Word) (m : Nat),
    m = (wReg (drvOf s.dev n) (fieldC w)).toNat * 2 ^ 32 + (wReg (drvOf s.dev n) (fieldB w)).toNat → (drvOf s.dev n).pc + 4 < imSize →
    (∀ ev : Fin 64, ((drvOf s.dev n).pend &&& m).testBit ev = true → (∀ j, j < ev.val → ((drvOf s.dev n).pend &&& m).testBit j = false) →
      (Fetched s n .wait w → m &&& eventsOn s.dev n ≠ 0 → exec (.wait n) s = .next (withDev s (onDrv s.dev n (fun v =>
        { wSet v (fieldA w) (BitVec.ofNat 32 ev) with pc := v.pc + 4, pend := v.pend - 2 ^ ev.val, wdog := 0 })))) ∧
      (Fetched s n .waitPoll w → exec (.waitPoll n) s = .next (withDev s (onDrv s.dev n (fun v =>
        { wSet v (fieldA w) (BitVec.ofNat 32 ev) with pc := v.pc + 4, pend := v.pend - 2 ^ ev.val, wdog := 0 }))))) ∧
    (Fetched s n .wait w → m &&& eventsOn s.dev n = 0 → exec (.wait n) s =
      .next (withDev s (takeTrap s.dev n 1 0 (drvOf s.dev n).pc 0))) ∧
    (Fetched s n .wait w → m &&& eventsOn s.dev n ≠ 0 → (drvOf s.dev n).pend &&& m = 0 → exec (.wait n) s =
      .next (withDev s (onDrv s.dev n (fun v => { v with state := .waiting, sleep := some { mask := m, rd := fieldA w }, wdog := 0 })))) ∧
    (Fetched s n .waitPoll w → (drvOf s.dev n).pend &&& m = 0 → exec (.waitPoll n) s =
      .next (withDev s (onDrv s.dev n (fun v => { wSet v (fieldA w) 0xFFFFFFFF#32 with pc := v.pc + 4, wdog := 0 })))) ∧
    (∀ z, UnitsOn s → (drvOf s.dev n).state = .waiting → (drvOf s.dev n).sleep = some z → (drvOf s.dev n).failed = none →
      (drvOf s.dev n).haltDue = false →
      (∀ ev : Fin 64, ((drvOf s.dev n).pend &&& z.mask).testBit ev = true →
        (∀ j, j < ev.val → ((drvOf s.dev n).pend &&& z.mask).testBit j = false) → exec (.waitWake n) s =
        .next (withDev s (onDrv s.dev n (fun v => { wSet v z.rd (BitVec.ofNat 32 ev) with
          pc := v.pc + 4, pend := v.pend - 2 ^ ev.val, state := .running, sleep := none, wdog := 0 })))) ∧
      ((drvOf s.dev n).pend &&& z.mask = 0 → exec (.waitWake n) s = .next s))) ∧
  ((∀ (s : State) (ev : Fin 64) (q : Option Nat) (a l : List Ev), UnitsOn s → s.dev.events = a ++ { num := ev, drover := q } :: l →
    (∀ x ∈ a, x.num ≠ ev.val) → Answers (.droverEventPending ev) s (fun t =>
      onlyDev s t ∧ t.dev.events = a ++ l ∧ t.dev.mem = s.dev.mem ∧
      (∀ n : Fin 4, (q ≠ none ∧ q ≠ some n.val) ∨ (eventsOn s.dev n).testBit ev = false →
        drvOf t.dev n = drvOf s.dev n ∧ get t.dev .drv n 0x30 = get s.dev .drv n 0x30) ∧
      (∀ n : Fin 4, (q = none ∨ q = some n.val) → (eventsOn s.dev n).testBit ev = true → (drvOf s.dev n).pend.testBit ev = false →
        drvOf t.dev n = { drvOf s.dev n with pend := (drvOf s.dev n).pend + 2 ^ ev.val } ∧ get t.dev .drv n 0x30 = get s.dev .drv n 0x30) ∧
      (∀ n : Fin 4, (q = none ∨ q = some n.val) → (eventsOn s.dev n).testBit ev = true → (drvOf s.dev n).pend.testBit ev = true →
        drvOf t.dev n = { drvOf s.dev n with ovrArm := false } ∧
        getF t.dev .drv n 0x30 31 16 = min 65535 (getF s.dev .drv n 0x30 31 16 + 1) ∧ getF t.dev .drv n 0x30 5 0 = ev.val ∧
        ((drvOf s.dev n).ovrArm = true → { source := 107, addr := unitBase .drv n } ∈ t.dev.reports)))) ∧
  (∀ (s : State) (m : Fin 7) (n : Fin 4), modeAllows s.env m true (unitBase .drv n + 0x30) = true → guardOf s.dev m = none →
    s.dev.acts = [] → blockOn s.dev .drv n = true →
    exec (.drvEvovrRead n m) s = .next (withDev s (onDrv s.dev n (fun v => { v with ovrArm := true })))))

/-- POST, SEND and RECV. POST waits until no store is open; then it raises a doorbell event 47–63, and traps with cause EVENT on any other number. SEND
and RECV trap with cause PORT on a port that the drover does not own, with ALIGN on a misaligned buffer, and with LOAD_ERR on a buffer outside the
drover's own data memory and the shared memory. SEND refuses a length outside 1–32 with code 2, and so on the link ports 2–4 a first byte other than
0x48 and 0x4B, and a full queue with code 1; otherwise it queues the bytes, from where they join class H while that has room, and writes 0. RECV takes
the oldest message, writes it and zeros over 32 bytes, and its length to rd; an empty queue writes 0. TIME, ARM, DISARM and the compare units.
Selector 0 takes a snapshot and returns linear nanoseconds [31:0]; the others return the parts of the snapshot, or the holdover bit, which is 0 in
TRACKING alone. ARM arms a unit with its 40-bit target and writes 0, or is refused with 1 where the unit runs a control cycle; DISARM disarms it. A
unit that has reached its target raises event 36 + u and disarms itself; one that has not stays armed. The model's readings: assumption log 56, 57, 58
and 74. -/
def Obligations.DoorbellsMessagesAndTimes : Prop :=
  (∀ (s : State) (n : Fin 4) (w : Word) (x y : Word) (d' : Word → Dev), x = wReg (drvOf s.dev n) (fieldB w) →
    y = wReg (drvOf s.dev n) (fieldC w) →
    d' = (fun r => onDrv s.dev n (fun v => { wSet v (fieldA w) r with pc := v.pc + 4 })) → (drvOf s.dev n).pc + 4 < imSize →
    (Fetched s n .post w →
      ((drvOf s.dev n).stores ≠ [] → exec (.post n) s = .next s) ∧
      ((drvOf s.dev n).stores = [] → fld x 5 0 < 47 → exec (.post n) s = .next (withDev s (takeTrap s.dev n 7 0 (drvOf s.dev n).pc x))) ∧
      ((drvOf s.dev n).stores = [] → 47 ≤ fld x 5 0 → exec (.post n) s = .next (withDev s { onDrv s.dev n (fun v => { v with pc := v.pc + 4 }) with
        events := s.dev.events ++ [{ num := fld x 5 0 }] }))) ∧
    (∀ c row, (c, row) ∈ [(Instr.send n, JRow.send), (.recv n, .recv)] → Fetched s n row w →
      (portOwner s.dev (imm11 w) ≠ some n.val → exec c s =
        .next (withDev s (takeTrap s.dev n 6 0 (drvOf s.dev n).pc (BitVec.ofNat 32 (imm11 w))))) ∧
      (portOwner s.dev (imm11 w) = some n.val → x.toNat % 4 ≠ 0 → exec c s =
        .next (withDev s (takeTrap s.dev n 3 0 (drvOf s.dev n).pc x))) ∧
      (portOwner s.dev (imm11 w) = some n.val → x.toNat % 4 = 0 → pathOf n x.toNat ∉ [.own, .shared] → exec c s =
        .next (withDev s (takeTrap s.dev n 4 0 (drvOf s.dev n).pc x)))) ∧
    (Fetched s n .send w → portOwner s.dev (imm11 w) = some n.val → x.toNat % 4 = 0 → pathOf n x.toNat ∈ [.own, .shared] →
      (y.toNat = 0 ∨ 32 < y.toNat → exec (.send n) s = .next (withDev s (d' 2#32))) ∧
      (1 ≤ y.toNat → y.toNat ≤ 32 → bufferOk n x.toNat y.toNat = true → badRange s.dev x.toNat y.toNat = none →
        (2 ≤ imm11 w → memByte s.dev x.toNat ∉ [0x48#8, 0x4B#8] → exec (.send n) s = .next (withDev s (d' 2#32))) ∧
        (imm11 w < 2 ∨ memByte s.dev x.toNat ∈ [0x48#8, 0x4B#8] →
        (8 ≤ (vget s.dev.boxes (imm11 w)).outbox.length → exec (.send n) s = .next (withDev s (d' 1#32))) ∧
        ((vget s.dev.boxes (imm11 w)).outbox.length < 8 → exec (.send n) s = .next (withDev s (onDrv
          (refill (onBox s.dev (imm11 w) (fun b => { b with outbox := b.outbox ++ [memBytes s.dev x.toNat y.toNat] }))) n
          (fun v => { wSet v (fieldA w) 0#32 with pc := v.pc + 4 }))))))) ∧
    (Fetched s n .recv w → portOwner s.dev (imm11 w) = some n.val → x.toNat % 4 = 0 → bufferOk n x.toNat 32 = true →
      ((vget s.dev.boxes (imm11 w)).inbox = [] → exec (.recv n) s = .next (withDev s (d' 0#32))) ∧
      (∀ m rest, (vget s.dev.boxes (imm11 w)).inbox = m :: rest → m.length ≤ 32 → exec (.recv n) s =
        .next (withDev s { d' (BitVec.ofNat 32 m.length) with
          boxes := vmod s.dev.boxes (imm11 w) (fun b => { b with inbox := rest }),
          mem := memPut s.dev.mem x.toNat (m ++ List.replicate (32 - m.length) 0) })))) ∧
  (∀ (s : State) (n : Fin 4) (w : Word) (d' : Word → Dev),
    d' = (fun r => onDrv s.dev n (fun v => { wSet v (fieldA w) r with pc := v.pc + 4 })) →
    ((drvOf s.dev n).pc + 4 < imSize →
      (∀ dt, Fetched s n .timeSnapshot w → exec (.timeSnapshot n dt) s =
        .next (withDev (passTime s dt) (onDrv s.dev n (fun v =>
          { wSet v (fieldA w) (BitVec.ofNat 32 ((passTime s dt).clock.now / 2 ^ 30)) with
            pc := v.pc + 4, snap := (passTime s dt).clock.now })))) ∧
      (Fetched s n .timeRead w → exec (.timeRead n) s = .next (withDev s (d' (BitVec.ofNat 32
        (if imm11 w = 1 then (drvOf s.dev n).snap / 2 ^ 30 / 2 ^ 32 % 256
         else if imm11 w = 2 then secOf (drvOf s.dev n).snap
         else if imm11 w = 3 then secOf (drvOf s.dev n).snap / 2 ^ 32
         else if imm11 w = 4 then nsOf (drvOf s.dev n).snap
         else if imm11 w = 5 then fracOf (drvOf s.dev n).snap
         else if s.clock.state = .tracking then 0 else 1))))) ∧
      (Fetched s n .arm w →
        (cycleOn s.dev (imm11 w) = true → exec (.arm n) s = .next (withDev s (d' 1#32))) ∧
        (cycleOn s.dev (imm11 w) = false → exec (.arm n) s = .next (withDev s { d' 0#32 with
          compares := vmod s.dev.compares (imm11 w) (fun c => { c with
            armed := true, target := (wReg (drvOf s.dev n) (fieldC w)).toNat % 256 * 2 ^ 32 + (wReg (drvOf s.dev n) (fieldB w)).toNat }) }))) ∧
      (Fetched s n .disarm w → exec (.disarm n) s = .next (withDev s { d' 0#32 with
        compares := vmod s.dev.compares (imm11 w % 4) (fun c => { c with armed := false }) }))) ∧
    (∀ (u : Fin 4) (dt : Nat), AonOn s → cycleOn s.dev u = false → (vget s.dev.compares u).armed = true →
      ((((passTime s dt).clock.now / 2 ^ 30 : Int) - (vget s.dev.compares u).target) % 2 ^ 40 < 2 ^ 39 → exec (.compareMatch u dt) s =
        .next (withDev (passTime s dt) { s.dev with
          compares := vmod s.dev.compares u (fun c => { c with armed := false }), events := s.dev.events ++ [{ num := 36 + u }] })) ∧
      (2 ^ 39 ≤ (((passTime s dt).clock.now / 2 ^ 30 : Int) - (vget s.dev.compares u).target) % 2 ^ 40 → exec (.compareMatch u dt) s =
        .next (passTime s dt))))

/-- Staged sets. STAGE.T opens a set for its context and epoch in place of any open one. STAGE appends its entry, marks the set overflowed past its 64
entries or the drover's 256, and is ignored with no set open. COMMIT closes the open set: with none it writes −1; a set that overflowed gives −4, one
whose context is disabled −5, one with a wrong entry −2, and one beyond eight armed sets −3, each discarded; any other is armed under the lowest free
handle (assumption log 55), which rd names, with bit 8 set where the target's epoch is reached already. What stops a drover, and DRV_CTRL. TRAP traps
with cause SOFTWARE and its code: the drover is TRAPPED with its registers, pc, pending events and armed sets as they were and neither an open set nor
a load (assumption log 54), DRV_TRAP, DRV_TRAP_PC and DRV_TRAP_ADDR show it, and its source is raised. HALT stops drovers 1–3 after the instruction
and traps drover 0 with cause ILLEGAL; words whose opcode or unused fields are wrong trap the same way; a pc past the memory traps with cause FETCH;
the watchdog traps a running drover with cause WATCHDOG once its limit has passed (in the time its command tells, assumption log 106). Reset (what it
keeps: assumption log 34), halt, which waits for a load's response, and run of DRV_CTRL act from the states of R252; run in TRAPPED is only logged,
and without its domain a drover stays as it is. An instruction in the last word of the instruction memory that goes on at the next word traps with
cause FETCH: a computing one after its result is written, and a branch that is not taken (assumption log 53). The model's readings: assumption log 34,
53, 54, 55 and 106. -/
def Obligations.StagedSetsAndTheirDrovers : Prop :=
  (∀ (s : State) (n : Fin 4) (w : Word) (d' : Option StagedSet → Dev),
    d' = (fun o => onDrv s.dev n (fun v => { v with pc := v.pc + 4, openSet := o })) → (drvOf s.dev n).pc + 4 < imSize →
    (Fetched s n .stageT w → exec (.stageT n) s = .next (withDev s (d' (some {
      ctx := fld (wReg (drvOf s.dev n) (fieldB w)) 3 0, epoch := fld (wReg (drvOf s.dev n) (fieldC w)) 15 0 })))) ∧
    (Fetched s n .stage w →
      ((drvOf s.dev n).openSet = none → exec (.stage n) s = .next (withDev s (d' none))) ∧
      (∀ o, (drvOf s.dev n).openSet = some o →
        (o.entries.length < 64 → entriesHeld (drvOf s.dev n) < 256 → exec (.stage n) s = .next (withDev s (d' (some { o with
          entries := o.entries ++ [((wReg (drvOf s.dev n) (fieldB w)).toNat, wReg (drvOf s.dev n) (fieldC w))] })))) ∧
        (64 ≤ o.entries.length ∨ 256 ≤ entriesHeld (drvOf s.dev n) → exec (.stage n) s =
          .next (withDev s (d' (some { o with overflow := true })))))) ∧
    (Fetched s n .commit w →
      (∀ code : Word, (((drvOf s.dev n).openSet = none ∧ code = 0xFFFFFFFF#32) ∨ ∃ o, (drvOf s.dev n).openSet = some o ∧
          ((o.overflow = true ∧ code = 0xFFFFFFFC#32) ∨
           (o.overflow = false ∧ getB s.dev .ctx o.ctx 0 0 = false ∧ code = 0xFFFFFFFB#32) ∨
           (o.overflow = false ∧ getB s.dev .ctx o.ctx 0 0 = true ∧ (∃ x ∈ o.entries, entryOk s.dev o x = false) ∧ code = 0xFFFFFFFE#32) ∨
           (o.overflow = false ∧ getB s.dev .ctx o.ctx 0 0 = true ∧ (∀ x ∈ o.entries, entryOk s.dev o x = true) ∧
            8 ≤ (drvOf s.dev n).armed.length ∧ code = 0xFFFFFFFD#32))) →
        exec (.commit n) s = .next (withDev s (onDrv s.dev n (fun v => { wSet v (fieldA w) code with pc := v.pc + 4, openSet := none })))) ∧
      (∀ (o : StagedSet) (h : Nat), (drvOf s.dev n).openSet = some o → o.overflow = false → getB s.dev .ctx o.ctx 0 0 = true →
        (∀ x ∈ o.entries, entryOk s.dev o x = true) → (drvOf s.dev n).armed.length < 8 → h < 8 →
        (∀ z ∈ (drvOf s.dev n).armed, z.handle ≠ h) → (∀ j, j < h → ∃ z ∈ (drvOf s.dev n).armed, z.handle = j) →
        exec (.commit n) s = .next (withDev s { onDrv s.dev n (fun v => { wSet v (fieldA w) (BitVec.ofNat 32
              (h + if epochReached (getF s.dev .ctx o.ctx 0x704 15 0) o.epoch then 256 else 0)) with
            pc := v.pc + 4, openSet := none, armed := v.armed ++ [{ o with handle := h, order := s.dev.commitNo }] }) with
          commitNo := s.dev.commitNo + 1 })))) ∧
  (∀ (s : State) (n : Fin 4) (w : Word),
    (Fetched s n .trap w → Answers (.trap n) s (fun t =>
      onlyDev s t ∧ drvOf t.dev n = { drvOf s.dev n with
          state := .trapped, sleep := none, openSet := none, load := none, failed := none, haltDue := false } ∧
      (∀ k : Fin 4, k ≠ n → drvOf t.dev k = drvOf s.dev k) ∧ onlyRegs { s.dev with drvs := t.dev.drvs } t.dev ∧
      get t.dev .drv n 0x10 = BitVec.ofNat 32 (imm11 w * 2 ^ 16 + 9) ∧ get t.dev .drv n 0x14 = BitVec.ofNat 32 (drvOf s.dev n).pc ∧
      get t.dev .drv n 0x18 = 0 ∧ regsBut [unitBase .drv n + 0x10, unitBase .drv n + 0x14, unitBase .drv n + 0x18] s.dev t.dev ∧
      t.dev.events = s.dev.events ∧ t.dev.reports = s.dev.reports ++ [{ source := 103 + n, addr := sourceBase (103 + n) }])) ∧
    (Fetched s n .halt w →
      (n ≠ 0 → exec (.halt n) s = .next (withDev s (onDrv s.dev n (fun v => { v with state := .halted, pc := v.pc + 4 })))) ∧
      (n = 0 → exec (.halt n) s = .next (withDev s (takeTrap s.dev n 1 0 (drvOf s.dev n).pc 0)))) ∧
    (UnitsOn s → canRun s.dev n = true →
      (fetchOk s.dev n = true → rowOf (fetchWord s.dev n) = .illegal → exec (.illegalInstruction n) s =
        .next (withDev s (takeTrap s.dev n 1 0 (drvOf s.dev n).pc 0))) ∧
      (∀ c row, (c, row) ∈ [(Instr.add n, JRow.add), (.sub n, .sub), (.and n, .and), (.or n, .or), (.xor n, .xor), (.shl n, .shl),
          (.shr n, .shr), (.sra n, .sra), (.mul n, .mul), (.mulh n, .mulh), (.jr n, .jr), (.lui n, .lui), (.jal n, .jal), (.wait n, .wait),
          (.waitPoll n, .waitPoll), (.stageT n, .stageT), (.stage n, .stage), (.commit n, .commit), (.post n, .post), (.send n, .send),
          (.recv n, .recv), (.arm n, .arm), (.disarm n, .disarm), (.timeRead n, .timeRead), (.fence n, .fence), (.trap n, .trap),
          (.halt n, .halt)] → fetchOk s.dev n = true → rowOf (fetchWord s.dev n) = row → legalWord (fetchWord s.dev n) = false →
        exec c s = .next (withDev s (takeTrap s.dev n 1 0 (drvOf s.dev n).pc 0))) ∧
      (∀ c ∈ [Instr.add n, .addi n, .ldW n, .beq n, .halt n, .illegalInstruction n], (drvOf s.dev n).failed = none →
        (drvOf s.dev n).pc = imSize → exec c s = .next (withDev s (takeTrap s.dev n 2 0 0x1FFFC 0x20000#32)))) ∧
    (∀ us, UnitsOn s → (drvOf s.dev n).state = .running → getF s.dev .drv n 0x40 15 0 ≠ 0 →
      (getF s.dev .drv n 0x40 15 0 ≤ (drvOf s.dev n).wdog + us → exec (.drvWatchdogExpire n us) s =
        .next (withDev s (takeTrap s.dev n 10 0 (drvOf s.dev n).pc 0))) ∧
      ((drvOf s.dev n).wdog + us < getF s.dev .drv n 0x40 15 0 → exec (.drvWatchdogExpire n us) s =
        .next (withDev s (onDrv s.dev n (fun v => { v with wdog := v.wdog + us }))))) ∧
    (∀ m : Fin 7, fenceOf s.dev (0x28 + n) = none →
      (TakesWrite s m .drv n 0 4#32 → Answers (.drvReset n m) s (fun t =>
        onlyDev s t ∧ (drvOf t.dev n).state = .reset ∧ (drvOf t.dev n).regs = [] ∧ (drvOf t.dev n).pc = getF s.dev .drv n 4 16 2 * 4 ∧
        (drvOf t.dev n).pend = 0 ∧ (drvOf t.dev n).snap = 0 ∧ (drvOf t.dev n).openSet = none ∧ (drvOf t.dev n).armed = [] ∧
        get t.dev .drv n 0x30 = 0 ∧ get t.dev .drv n 0x3C = get s.dev .drv n 0x3C ∧ t.dev.events = s.dev.events ∧
        (∀ k : Fin 4, k ≠ n → drvOf t.dev k = drvOf s.dev k) ∧ t.dev.mem = s.dev.mem)) ∧
      (TakesWrite s m .drv n 0 2#32 →
        ((drvOf s.dev n).state = .waiting ∨ ((drvOf s.dev n).state = .running ∧ (drvOf s.dev n).load = none) → exec (.drvHalt n m) s =
          .next (withDev s (onDrv s.dev n (fun v => { v with state := .halted, sleep := none })))) ∧
        ((drvOf s.dev n).state = .running → (drvOf s.dev n).load ≠ none → exec (.drvHalt n m) s =
          .next (withDev s (onDrv s.dev n (fun v => { v with haltDue := true })))) ∧
        ((drvOf s.dev n).state ∉ [.running, .waiting] → exec (.drvHalt n m) s = .next s)) ∧
      (TakesWrite s m .drv n 0 1#32 →
        (n ≠ 0 → domainOn s.dev (39 + n) = false → (drvOf s.dev n).state ≠ .trapped → exec (.drvRun n m) s = .next s) ∧
        ((drvOf s.dev n).state = .reset → (n = 0 ∨ domainOn s.dev (39 + n) = true) → exec (.drvRun n m) s =
          .next (withDev s (onDrv s.dev n (fun v => { v with state := .running, pc := getF s.dev .drv n 4 16 2 * 4 })))) ∧
        ((drvOf s.dev n).state = .halted → (n = 0 ∨ domainOn s.dev (39 + n) = true) → exec (.drvRun n m) s =
          .next (withDev s (onDrv s.dev n (fun v => { v with state := .running })))) ∧
        ((drvOf s.dev n).state = .trapped → exec (.drvRun n m) s =
          .next (withDev s (reportAcc s.dev 131 m .write (unitBase .drv n)))) ∧
        ((drvOf s.dev n).state ∈ [.running, .waiting] → exec (.drvRun n m) s = .next s)))) ∧
  ((∀ (s : State) (n : Fin 4) (w : Word) (c : Instr) (row : JRow) (x : Word),
    ((c, row) ∈ [(Instr.add n, JRow.add), (.sub n, .sub), (.and n, .and), (.or n, .or), (.xor n, .xor), (.shl n, .shl), (.shr n, .shr),
        (.sra n, .sra), (.mul n, .mul), (.mulh n, .mulh)] ∧
      rrResult row (wReg (drvOf s.dev n) (fieldB w)) (wReg (drvOf s.dev n) (fieldC w)) = some x) ∨
    (c = .addi n ∧ row = .addi ∧ x = wReg (drvOf s.dev n) (fieldB w) + BitVec.ofInt 32 (sInt 18 (fld w 31 14))) ∨
    (c = .lui n ∧ row = .lui ∧ x = BitVec.ofNat 32 (fld w 31 14 * 2 ^ 14)) →
    Fetched s n row w → (drvOf s.dev n).pc + 4 = imSize → exec c s =
      .next (withDev s (takeTrap (onDrv s.dev n (fun v => wSet v (fieldA w) x)) n 2 0 (drvOf s.dev n).pc 0x20000#32))) ∧
  (∀ (s : State) (n : Fin 4) (w : Word) (a b : Word), a = wReg (drvOf s.dev n) (fieldA w) → b = wReg (drvOf s.dev n) (fieldB w) →
    ∀ c row cond, (c, row, cond) ∈ [(Instr.beq n, JRow.beq, decide (a = b)), (.bne n, .bne, decide (a ≠ b)),
      (.blt n, .blt, decide (a.toInt < b.toInt)), (.bge n, .bge, decide (a.toInt ≥ b.toInt)),
      (.bltu n, .bltu, decide (a.toNat < b.toNat))] → Fetched s n row w → cond = false → (drvOf s.dev n).pc + 4 = imSize → exec c s =
        .next (withDev s (takeTrap s.dev n 2 0 (drvOf s.dev n).pc 0x20000#32))))

/-! ### The Caravan link -/

/-- Link blocks. A milestone goes out on the line of every lane of its group's transmit link, coded as the lane is, and on no other: it carries its type,
the map generation in force on the trunk, and the wrapping count of its group, and seals right; the trunk's next opportunity is slot 0. A set of
milestones that agrees and whose skew is at most 32 deskews its link; one that does not sets LINK_STATUS.deskew, and the second in a row retrains a
READY group. An IDLE block of a READY group sets the partner's lock and forced bits, and on a timetabled link discards an open packet of its slot's
owner. A MAP block of a feeder joins the fragments that are held and passes a slot; the 40th fragment of the generation in the milestones makes the
map known at the next epoch. A child takes the ID and tree ID of an IDENTITY whose fields are consistent, with an ID of 7–14 turns its feeders'
domains off, and counts any other; a root raises FS007. A block that fails its CRC-16 on TRET is counted and raises FS109 in every state of its group,
and so is a MAP counted, which TRET reserves. The model's readings: assumption log 70, 110 and 122. -/
def Obligations.LinkBlocksAreTaken : Prop :=
  ∀ (s : State) (g : Fin 3) (block bs : List Byte) (a : Arrival) (d : Dev), UnitsOn s →
    ((vget s.dev.groups g).tx ∈ [.training, .blocks] → Answers (.milestoneSend g) s (fun t =>
      t = withDev s { s.dev with
        groups := t.dev.groups, lanes := t.dev.lanes, trunk := { s.dev.trunk with last := t.dev.trunk.last, slot := t.dev.trunk.slot } } ∧
      (vget t.dev.groups g).txCount = ((vget s.dev.groups g).txCount + 1) % 2 ^ 32 ∧
      (∀ h : Fin 3, h ≠ g → vget t.dev.groups h = vget s.dev.groups h) ∧
      (∀ n : Fin 15, n.val ∉ txLanes s.dev g → vget t.dev.lanes n = vget s.dev.lanes n) ∧
      (∀ n : Fin 15, n.val ∈ txLanes s.dev g → ∃ b,
        (vget t.dev.lanes n).tx.line = (sendPieces (txPam s.dev n) (vget s.dev.lanes n).tx [.commas, .block true b]).1 ∧
        sealOk b = true ∧ (b.getD 0 0).toNat = 2 ∧ (b.getD 2 0).toNat = sendByte2 s.dev n ∧
        (b.getD 3 0).toNat = (if g = 0 then getF s.dev .tt 0 8 7 0 else 0) ∧
        leVal ((b.drop 4).take 4) = ((vget s.dev.groups g).txCount + 1) % 2 ^ 32) ∧
      (g = 0 → t.dev.trunk.slot = 0) ∧ (g ≠ 0 → t.dev.trunk = s.dev.trunk) ∧
      (g ≠ 0 → hasChildren s.dev = true → (vget t.dev.groups g).idDue = true) ∧
      ∃ b, (if g = 0 then t.dev.trunk.last else (vget t.dev.groups g).last) = some { ctl := true, bytes := b } ∧ sealOk b = true ∧
        (b.getD 0 0).toNat = 2 ∧ (b.getD 3 0).toNat = (if g = 0 then getF s.dev .tt 0 8 7 0 else 0) ∧
        leVal ((b.drop 4).take 4) = ((vget s.dev.groups g).txCount + 1) % 2 ^ 32)) ∧
    (∀ (bl : List (Arrival × List Byte)) (ms : List (List Byte)) (skew : Nat), linkLive s.dev g = true →
      bl.length = (rxLanes s.dev g).length → milestonesOf s.dev ((rxLanes s.dev g).zip bl) = (ms.map some, d) → d.acts = [] →
      (vget d.groups g).state = .ready → (∀ b ∈ ms, sealOk b = true) →
      ((∀ b ∈ ms, ∀ c ∈ ms, leVal ((b.drop 4).take 4) = leVal ((c.drop 4).take 4)) → skew ≤ 32 →
        Answers (.milestoneReceived g bl skew) s (fun t =>
          onlyDev s t ∧ (vget t.dev.groups g).state = .ready ∧ (vget t.dev.groups g).deskewed = true ∧
          (vget t.dev.groups g).deskewBad = false ∧ (vget t.dev.groups g).mileGen = ((ms.headD []).getD 3 0).toNat ∧
          (vget t.dev.groups g).slot = 0)) ∧
      (32 < skew ∨ (∃ b ∈ ms, ∃ c ∈ ms, leVal ((b.drop 4).take 4) ≠ leVal ((c.drop 4).take 4)) →
        Answers (.milestoneReceived g bl skew) s (fun t =>
          onlyDev s t ∧ getB t.dev .link 0 4 4 = true ∧ (vget t.dev.groups g).deskewed = false ∧
          (vget t.dev.groups g).state = (if (vget d.groups g).deskewBad then .training else .ready)))) ∧
    (Brings s.dev 0 true block a false bs d → sealOk bs = false →
      (∀ c ∈ [Instr.idleBlockReceived 0 block a, .identityReceived block a, .mapFragmentReceived 0 block a,
          .packetHeadReceived 0 block a 0, .packetEndReceived 0 block a], Answers c s (fun t =>
        getF t.dev .link 0 0xC 15 0 = min 65535 (getF d .link 0 0xC 15 0 + 1) ∧ getB t.dev .link 0 4 1 = true ∧
        t.dev.groups = d.groups ∧ { source := 109, addr := unitBase .link 0 } ∈ t.dev.reports))) ∧
    (Brings s.dev g true block a false bs d → (vget d.groups g).state = .ready →
      (sealOk bs = true → (bs.getD 0 0).toNat = 1 → Answers (.idleBlockReceived g block a) s (fun t =>
        onlyDev s t ∧ (vget t.dev.groups g).lockNow = (bs.getD 1 0).getLsbD 0 ∧ (vget t.dev.groups g).forcedIn = (bs.getD 1 0).getLsbD 1 ∧
        (g = 0 → (vget t.dev.groups 0).opens = (vget d.groups 0).opens) ∧
        (∀ o, g ≠ 0 → rxOwner d g = some o → openOf t.dev g o = none) ∧ t.dev.mem = d.mem)) ∧
      (g = 0 → sealOk bs = true → (bs.getD 0 0).toNat = 6 → exec (.mapFragmentReceived 0 block a) s =
        .next (withDev s (addSat d .link 0 0x10 31 16 1))) ∧
      (g ≠ 0 → sealOk bs = true → (bs.getD 0 0).toNat = 6 → (vget d.groups g).slot < 1023 →
        Answers (.mapFragmentReceived g block a) s (fun t =>
          onlyDev s t ∧ (vget t.dev.groups g).slot = (vget d.groups g).slot + 1 ∧ (vget t.dev.groups g).map = (vget d.groups g).map ∧
          { gen := (bs.getD 2 0).toNat, pending := decide (128 ≤ (bs.getD 3 0).toNat), index := (bs.getD 3 0).toNat % 64,
            codes := (bs.drop 4).take 26 } ∈ (vget t.dev.groups g).frags ∧
          ((vget d.groups g).map = none → (bs.getD 3 0).toNat < 128 → (bs.getD 2 0).toNat = (vget d.groups g).mileGen →
            (∀ i : Fin 40, ∃ f ∈ (vget t.dev.groups g).frags, f.gen = (bs.getD 2 0).toNat ∧ f.pending = false ∧ f.index = i.val) →
            (vget t.dev.groups g).nextMap.map Prod.fst = some (bs.getD 2 0).toNat))) ∧
      (g = 0 → sealOk bs = true → (bs.getD 0 0).toNat = 5 →
        (s.sys.straps.role = 1 → 1 ≤ (bs.getD 2 0).toNat → (bs.getD 2 0).toNat ≤ 14 →
          (bs.getD 4 0).toNat = levelOf (bs.getD 2 0).toNat → Answers (.identityReceived block a) s (fun t =>
            onlyDev s t ∧ getB t.dev .glob 0 0x10 31 = true ∧ getF t.dev .glob 0 0x10 19 16 = (bs.getD 2 0).toNat ∧
            getF t.dev .glob 0 0x10 21 20 = levelOf (bs.getD 2 0).toNat ∧ getF t.dev .glob 0 0x10 15 8 = (bs.getD 3 0).toNat ∧
            t.dev.mem = d.mem ∧ (7 ≤ (bs.getD 2 0).toNat → ∀ k : Fin 10, switched t.dev (14 + k) = false))) ∧
        (s.sys.straps.role = 1 → ¬ (1 ≤ (bs.getD 2 0).toNat ∧ (bs.getD 2 0).toNat ≤ 14 ∧ (bs.getD 4 0).toNat = levelOf (bs.getD 2 0).toNat) →
          Answers (.identityReceived block a) s (fun t =>
            getF t.dev .link 0 0x10 31 16 = min 65535 (getF d .link 0 0x10 31 16 + 1) ∧ get t.dev .glob 0 0x10 = get d .glob 0 0x10)) ∧
        (s.sys.straps.role = 0 → Answers (.identityReceived block a) s (fun t =>
          t.dev.reports = d.reports ++ [{ source := 7, addr := unitBase .glob 0 }] ∧ get t.dev .glob 0 0x10 = get d .glob 0 0x10))))

/-- Packets on TRET, of blocks as their lane decodes them. A head of an allowed type opens a packet and discards an open one; a data block joins the open
packet, and marks it bad where it is errored; one with none open, or a head of another type, is counted in LINK_CNT_PKT.discarded; a data block of a
training stream is ignored. An END delivers the packet only where its length, its copy of the head and its CRC-32C agree and no block was errored: a
mailbox message goes to port 0 with event 40, and a request for this device joins the request queue, or is counted with FS110 where 64 wait; otherwise
it counts the packet as discarded, and a failed CRC-32C with LINK_STATUS.crc32, LINK_CNT_CRC.crc32 and FS109 too, of a request that the device answers
with status 4 (assumption log 69). A feeder's packets, outside IDLE. A child's packet that passes its checks is written whole, head, data and END, to
the feeder's pass-through buffer in the pan with its tree byte overwritten and its checks made anew (assumption log 138), or is counted as foreign
where its device is not below the feeder; one that the buffer cannot hold, or whose ingress the toll wheel never serves, is discarded as it arrives,
with an overflow counted; in IDLE every packet is. The model's readings: assumption log 69, 70, 122 and 138. -/
def Obligations.PacketsAreFramedDeliveredAndPassedThrough : Prop :=
  (∀ (s : State) (block bs : List Byte) (a : Arrival) (dt : Nat) (d x : Dev), UnitsOn s → (vget d.groups 0).state = .ready →
    x = onGroup d 0 (fun q => { q with rxStream := false }) →
    (Brings s.dev 0 true block a false bs d → sealOk bs = true →
      (headAllowed 0 (bs.getD 0 0).toNat = true → openOf d 0 0 = none → exec (.packetHeadReceived 0 block a dt) s =
        .next (withDev (passTime s dt) (onGroup x 0 (fun q => { q with
          opens := q.opens.filter (fun q => decide (q.1 ≠ 0)) ++ [(0, { head := bs.take 30, stamp := (passTime s dt).clock.now })] })))) ∧
      (∀ o, headAllowed 0 (bs.getD 0 0).toNat = true → openOf d 0 0 = some o → o.drop = false →
        Answers (.packetHeadReceived 0 block a dt) s (fun t =>
          openOf t.dev 0 0 = some { head := bs.take 30, stamp := (passTime s dt).clock.now } ∧
          getF t.dev .link 0 0x10 31 16 = min 65535 (getF d .link 0 0x10 31 16 + 1) ∧ t.dev.boxes = d.boxes)) ∧
      (headAllowed 0 (bs.getD 0 0).toNat = false → headType 0 (bs.getD 0 0).toNat = true → exec (.packetHeadReceived 0 block a dt) s =
        .next (withDev (passTime s dt) (addSat x .link 0 0x10 31 16 1)))) ∧
    (∀ errored, Brings s.dev 0 false block a errored bs d →
      ((vget d.groups 0).rxStream = true → exec (.packetDataBlock 0 block a) s = .next (withDev s d)) ∧
      ((vget d.groups 0).rxStream = false → openOf d 0 0 = none →
        exec (.packetDataBlock 0 block a) s = .next (withDev s (addSat d .link 0 0x10 31 16 1))) ∧
      (∀ o, (vget d.groups 0).rxStream = false → openOf d 0 0 = some o → o.drop = false → exec (.packetDataBlock 0 block a) s =
        .next (withDev s (onGroup d 0 (fun q => { q with
          opens := q.opens.filter (fun q => decide (q.1 ≠ 0)) ++ [(0, { o with data := o.data ++ [bs], bad := o.bad || errored })] }))))) ∧
    (Brings s.dev 0 true block a false bs d → sealOk bs = true → (bs.getD 0 0).toNat = 0x3F →
      (openOf d 0 0 = none → exec (.packetEndReceived 0 block a) s = .next (withDev s (addSat x .link 0 0x10 31 16 1))) ∧
      (∀ o, openOf d 0 0 = some o → o.drop = false →
        (o.bad = true ∨ o.data.length ≠ leVal ((o.head.drop 10).take 2) ∨ (bs.drop 1).take 3 ≠ (o.head.drop 1).take 3 →
          Answers (.packetEndReceived 0 block a) s (fun t =>
            onlyDev s t ∧ openOf t.dev 0 0 = none ∧ t.dev.boxes = d.boxes ∧ t.dev.trunk = d.trunk ∧
            getF t.dev .link 0 0x10 31 16 = min 65535 (getF d .link 0 0x10 31 16 + 1))) ∧
        (o.bad = false → o.data.length = leVal ((o.head.drop 10).take 2) → (bs.drop 1).take 3 = (o.head.drop 1).take 3 →
          (leVal ((bs.drop 4).take 4) ≠ crc32c (o.head ++ o.data.flatten) → Answers (.packetEndReceived 0 block a) s (fun t =>
            onlyDev s t ∧ openOf t.dev 0 0 = none ∧ t.dev.boxes.toList.map MsgPort.inbox = d.boxes.toList.map MsgPort.inbox ∧
            getF t.dev .link 0 0x10 31 16 = min 65535 (getF d .link 0 0x10 31 16 + 1) ∧
            getF t.dev .link 0 0xC 31 16 = min 65535 (getF d .link 0 0xC 31 16 + 1) ∧ getB t.dev .link 0 4 2 = true ∧
            { source := 109, addr := unitBase .link 0 } ∈ t.dev.reports ∧
            ((o.head.getD 0 0).toNat < 0x60 → t.dev.trunk = d.trunk) ∧
            (0x60 ≤ (o.head.getD 0 0).toNat → deviceId d = some ((o.head.getD 1 0).toNat % 16) →
              (o.head.getD 2 0).toNat ∈ [0xFF, treeId d] → answersBad o.head = true → d.trunk.requests.length < 64 →
              t.dev.trunk = (refill (onTrunk d (fun t => { t with
                requests := t.requests ++ [{ head := o.head, data := o.data.flatten, status := 4 }] }))).trunk))) ∧
          (leVal ((bs.drop 4).take 4) = crc32c (o.head ++ o.data.flatten) →
            ((o.head.getD 0 0).toNat = 0x47 → (vget d.boxes 0).inbox.length < 8 → Answers (.packetEndReceived 0 block a) s (fun t =>
              onlyDev s t ∧ openOf t.dev 0 0 = none ∧ t.dev.events = d.events ++ [{ num := 40 }] ∧
              t.dev.boxes = vmod d.boxes 0 (fun b => { b with inbox := b.inbox ++ [(o.data.headD []).take (o.head.getD 16 0).toNat] }))) ∧
            (0x60 ≤ (o.head.getD 0 0).toNat → deviceId d = some ((o.head.getD 1 0).toNat % 16) → (o.head.getD 1 0).toNat % 16 ≠ 15 →
              (o.head.getD 2 0).toNat ∈ [0xFF, treeId d] →
              (d.trunk.requests.length < 64 → exec (.packetEndReceived 0 block a) s =
                .next (withDev s (refill (onTrunk (setOpen x 0 0 none) (fun t => { t with
                  requests := t.requests ++ [{ head := o.head, data := o.data.flatten }] }))))) ∧
              (64 ≤ d.trunk.requests.length → Answers (.packetEndReceived 0 block a) s (fun t =>
                t.dev.trunk = d.trunk ∧ { source := 110, addr := sourceBase 110 } ∈ t.dev.reports ∧
                getF t.dev .link 0 0x10 15 0 = min 65535 (getF d .link 0 0x10 15 0 + 1))))))))) ∧
  (∀ (s : State) (f : Fin 2) (block bs : List Byte) (a : Arrival) (d : Dev) (k : Nat) (codes : List Nat), UnitsOn s →
    Brings s.dev (f + 1) true block a false bs d → (vget d.groups (f + 1)).state = .ready →
    (vget d.groups (f + 1)).map = some (k, codes) → (vget d.groups (f + 1)).slot < 1023 → sealOk bs = true →
    (∀ o, s.sys.mode ≠ .idle → (bs.getD 0 0).toNat = 0x3F → openOf d (f + 1) (codes.getD (vget d.groups (f + 1)).slot 0) = some o →
      o.drop = false → o.bad = false →
      o.data.length = leVal ((o.head.drop 10).take 2) → (bs.drop 1).take 3 = (o.head.drop 1).take 3 →
      leVal ((bs.drop 4).take 4) = crc32c (o.head ++ o.data.flatten) → (o.head.getD 0 0).toNat ∈ [0x40, 0x41, 0x42, 0x43, 0x44, 0x45] →
      (feederTo d ((o.head.getD 2 0).toNat / 16) = some f.val → (o.head.getD 2 0).toNat / 16 ≠ 15 →
        Answers (.packetEndReceived (f.castLE (by decide) + 1) block a) s (fun t =>
          onlyDev s t ∧ ∃ q l, l = heldPacket q.head o.data.flatten ∧ q.head = setByte o.head 3 (treeId d) ∧
            q.kind = .through f (d.trunk.nextOff.getD f 0) l.length ∧
            t.dev.trunk.fill = lmod d.trunk.fill f (· + l.length) ∧
            t.dev.trunk.through = lmod d.trunk.through f (fun z => z ++ [q]) ∧
            (∀ size base, size = getF d .feeder f 4 8 0 * 0x1000 → base = panBase + getF d .feeder f 4 24 12 * 0x1000 → d.badLines = [] →
              l.length ≤ size →
              (∀ i, i < l.length → memByte t.dev (base + (d.trunk.nextOff.getD f 0 + i) % size) = l.getD i 0) ∧
              ∀ b, b < base ∨ base + size ≤ b → memByte t.dev b = memByte d b))) ∧
      (feederTo d ((o.head.getD 2 0).toNat / 16) ≠ some f.val ∨ (o.head.getD 2 0).toNat / 16 = 15 →
        Answers (.packetEndReceived (f.castLE (by decide) + 1) block a) s (fun t =>
          onlyDev s t ∧ t.dev.trunk = d.trunk ∧ t.dev.mem = d.mem ∧
          getF t.dev .feeder f 0xC 15 0 = min 65535 (getF d .feeder f 0xC 15 0 + 1) ∧ getB t.dev .feeder f 8 2 = true))) ∧
    (fenced d .feeder f = false → headAllowed (f + 1) (bs.getD 0 0).toNat = true →
      openOf d (f + 1) (codes.getD (vget d.groups (f + 1)).slot 0) = none → (s.sys.mode = .idle ∨ headOver d f bs = true) →
      Answers (.packetHeadReceived (f.castLE (by decide) + 1) block a 0) s (fun t =>
        getF t.dev .feeder f 0xC 31 16 = min 65535 (getF d .feeder f 0xC 31 16 + 1) ∧ getB t.dev .feeder f 8 1 = true ∧
        t.dev.trunk = d.trunk ∧ ∃ o, openOf t.dev (f + 1) (codes.getD (vget d.groups (f + 1)).slot 0) = some o ∧ o.drop = true)))

/-- Requests run in arrival order as master 1, with the trunk group READY and room in class H. REGRD answers the word it reads; REGWR makes its write, and
with guarded the write of the complement after it; BURSTRD and BURSTWR make one access for each word at rising addresses and stop at the first error
response; a misaligned address, a wrong length or count is answered with status 2 and does nothing. A response of type 0x45 joins class H, for REGWR
and BURSTWR with ack or an error only; whatever waits to move up then joins class H too, while it has room. The other requests. DOWNLOAD writes its
blocks into the download buffer where the mode allows it, and answers status 1 where a line's read half fails; elsewhere it is answered with status 5.
MAILBOX delivers its message to port 0. TTSTAGE holds the timetable, writes all 256 map words and releases it. A GRANT of a class 1–4 shows it, and
the lower of it and the signature class comes into force where the charge fits, else waits with PWR_STATUS.over and FS002; NOTICE sets
PWR_STATUS.shutdown; QUERY changes nothing; each leaves the queue and answers PWR_CLASS as it then stands. RESET with its two values arms a device
reset for the departure of its response. The model's readings: assumption log 20 and 69. -/
def Obligations.RequestsRun : Prop :=
  ((∀ (d : Dev) (req : List Byte) (status addr count value : Nat) (data : List Byte),
    ∃ p, respond d req status addr count value data = onTrunk d (fun t => { t with classH := t.classH ++ [p] }) ∧ p.bytes = data ∧
      (p.head.getD 0 0).toNat = 0x45 ∧ fieldAt p.head 4 4 = addr % 2 ^ 32 ∧ fieldAt p.head 8 2 = count % 2 ^ 16 ∧
      fieldAt p.head 12 4 = value % 2 ^ 32 ∧ p.head.getD 16 0 = req.getD 3 0 ∧ (p.head.getD 17 0).toNat = status % 256 ∧
      p.head.getD 18 0 = req.getD 0 0) ∧
  ∀ (s : State) (r : Request) (rest : List Request) (d : Dev) (a : Nat), UnitsOn s → (vget s.dev.groups 0).state = .ready →
    s.dev.trunk.classH.length < 256 → s.dev.trunk.requests = r :: rest → r.status = 0 →
    d = onTrunk s.dev (fun t => { t with requests := rest }) → a = reqAddr r →
    ((r.head.getD 0 0).toNat = 0x60 →
      (a % 4 ≠ 0 ∨ reqLen r ≠ 0 → exec .regrd s = .next (withDev s (refill (respond d r.head 2 a 0 0 [])))) ∧
      (∀ e, a % 4 = 0 → reqLen r = 0 → e.acts = [] →
        (∀ w, busRead s.env d 1 4 a = (some w, e) → exec .regrd s = .next (withDev s (refill (respond e r.head 0 a 1 w.toNat [])))) ∧
        (busRead s.env d 1 4 a = (none, e) → exec .regrd s = .next (withDev s (refill (respond e r.head 1 a 0 0 [])))))) ∧
    ((r.head.getD 0 0).toNat = 0x61 →
      (a % 4 ≠ 0 ∨ reqLen r ≠ 0 → exec .regwr s = .next (withDev s (refill (respond d r.head 2 a 0 0 [])))) ∧
      (∀ e, a % 4 = 0 → reqLen r = 0 → e.acts = [] →
        (busWrite s.env d 1 4 a (reqValue r) = (false, e) → exec .regwr s = .next (withDev s (refill (respond e r.head 1 a 0 0 [])))) ∧
        (busWrite s.env d 1 4 a (reqValue r) = (true, e) → reqGuarded r = false → exec .regwr s =
          .next (withDev s (refill (if reqAck r then respond e r.head 0 a 1 0 [] else e)))) ∧
        (∀ e', busWrite s.env d 1 4 a (reqValue r) = (true, e) → reqGuarded r = true → e'.acts = [] →
          busWrite s.env e 1 4 (a + 4) (~~~ (reqValue r)) = (true, e') → exec .regwr s =
          .next (withDev s (refill (if reqAck r then respond e' r.head 0 a 1 0 [] else e')))))) ∧
    ((r.head.getD 0 0).toNat = 0x62 →
      (a % 4 ≠ 0 ∨ reqLen r ≠ 0 ∨ reqCount r = 0 ∨ 256 < reqCount r → exec .burstrd s = .next (withDev s (refill (respond d r.head 2 a 0 0 [])))) ∧
      (∀ (ds : Nat → Dev) (x : Nat → Word) (k : Nat), a % 4 = 0 → reqLen r = 0 → 1 ≤ reqCount r → reqCount r ≤ 256 → ds 0 = d →
        k ≤ reqCount r → (∀ i, i < k → busRead s.env (ds i) 1 4 (a + 4 * i) = (some (x i), ds (i + 1))) →
        (k = reqCount r → (ds k).acts = [] → exec .burstrd s =
          .next (withDev s (refill (respond (ds k) r.head 0 a k 0 ((List.range k).flatMap (fun i => leBytes 4 (x i).toNat)))))) ∧
        (∀ e, k < reqCount r → busRead s.env (ds k) 1 4 (a + 4 * k) = (none, e) → e.acts = [] → exec .burstrd s =
          .next (withDev s (refill (respond e r.head 1 (a + 4 * k) k 0 ((List.range k).flatMap (fun i => leBytes 4 (x i).toNat)))))))) ∧
    ((r.head.getD 0 0).toNat = 0x63 →
      (a % 4 ≠ 0 ∨ reqCount r = 0 ∨ 256 < reqCount r ∨ reqLen r ≠ (reqCount r + 7) / 8 → exec .burstwr s =
        .next (withDev s (refill (respond d r.head 2 a 0 0 [])))) ∧
      (∀ (ds : Nat → Dev) (k : Nat), a % 4 = 0 → reqLen r = (reqCount r + 7) / 8 → 1 ≤ reqCount r → reqCount r ≤ 256 → ds 0 = d →
        k ≤ reqCount r → (∀ i, i < k → busWrite s.env (ds i) 1 4 (a + 4 * i) (reqWord r i) = (true, ds (i + 1))) →
        (k = reqCount r → (ds k).acts = [] → exec .burstwr s =
          .next (withDev s (refill (if reqAck r then respond (ds k) r.head 0 a k 0 [] else ds k)))) ∧
        (∀ e, k < reqCount r → busWrite s.env (ds k) 1 4 (a + 4 * k) (reqWord r k) = (false, e) → e.acts = [] → exec .burstwr s =
          .next (withDev s (refill (respond e r.head 1 (a + 4 * k) k 0 []))))))) ∧
  (∀ (s : State) (r : Request) (rest : List Request) (d : Dev), UnitsOn s → (vget s.dev.groups 0).state = .ready →
    s.dev.trunk.classH.length < 256 → s.dev.trunk.requests = r :: rest → r.status = 0 →
    d = onTrunk s.dev (fun t => { t with requests := rest }) →
    ((r.head.getD 0 0).toNat = 0x64 →
      (downloadAllowed s.env s.dev = false → exec .download s = .next (withDev s (refill (respond d r.head 5 (reqAddr r) 0 0 [])))) ∧
      (downloadAllowed s.env s.dev = true → 1 ≤ reqLen r → reqLen r ≤ 64 → reqAddr r % 32 = 0 → reqAddr r + 32 * reqLen r ≤ bufSize s.dev →
        exec .download s = .next (withDev s (refill
          (respond (panWrite d (bufBase d + reqAddr r) (r.data.take (32 * reqLen r))) r.head
            (if (panParts d (bufBase d + reqAddr r) (32 * reqLen r)).lines = [] then 0 else 1) (reqAddr r) 0 0 [])))) ∧
      (downloadAllowed s.env s.dev = true → reqLen r = 0 ∨ 64 < reqLen r ∨ reqAddr r % 32 ≠ 0 ∨ bufSize s.dev < reqAddr r + 32 * reqLen r →
        exec .download s = .next (withDev s (refill (respond d r.head 2 (reqAddr r) 0 0 []))))) ∧
    (∀ x, (r.head.getD 0 0).toNat = 0x65 → reqLen r = 1 → 1 ≤ (r.head.getD 16 0).toNat → (r.head.getD 16 0).toNat ≤ 32 →
      (vget s.dev.boxes 0).inbox.length < 8 → x = deliverMsg d 0 (r.data.take (r.head.getD 16 0).toNat) →
      exec .mailbox s = .next (withDev s (refill (if reqAck r then respond x r.head 0 0 0 0 [] else x))) ∧
      x.boxes = vmod s.dev.boxes 0 (fun b => { b with inbox := b.inbox ++ [r.data.take (r.head.getD 16 0).toNat] }) ∧
      x.events = s.dev.events ++ [{ num := 40 }]) ∧
    ((r.head.getD 0 0).toNat = 0x66 → reqLen r = 32 → ∀ ds : Nat → Dev, ds 0 = putF d .tt 0 0 0 0 1 →
      (∀ i, i < 256 → busWrite s.env (ds i) 1 4 (unitBase .tt 0 + 0x400 + 4 * i) (reqWord r i) = (true, ds (i + 1))) →
      (ds 256).acts = [] → exec .ttstage s = .next (withDev s (refill (respond (putF (ds 256) .tt 0 0 0 0 0) r.head 0 0 0 0 [])))) ∧
    ((r.head.getD 0 0).toNat = 0x67 → 1 ≤ reqLen r → reqLen r ≤ 2 →
      (∀ c x k, (r.data.getD 0 0).toNat = 1 → c = (r.data.getD 1 0).toNat → 1 ≤ c → c ≤ 4 → x = grantClass d c →
        k = min c (getF s.dev .power 0 0xC 2 0) →
        exec .grant s = .next (withDev s (refill (respond x r.head 0 0 0 (get x .power 0 0xC).toNat []))) ∧
        onlyRegs { d with power := x.power } x ∧ getF x .power 0 0xC 10 8 = c ∧ getB x .power 0 0 2 = true ∧
        (chargeNow s.dev ≤ classBudget k → getF x .power 0 0xC 6 4 = k ∧ x.power = { s.dev.power with granted := none } ∧
          x.reports = s.dev.reports) ∧
        (classBudget k < chargeNow s.dev → getF x .power 0 0xC 6 4 = getF s.dev .power 0 0xC 6 4 ∧
          x.power = { s.dev.power with granted := some k } ∧
          getB x .power 0 0 1 = true ∧ x.reports = s.dev.reports ++ [{ source := 2, addr := unitBase .power 0 }])) ∧
      ((r.data.getD 0 0).toNat = 2 → exec .notice s = .next (withDev s (refill
        (respond (pwrStat d 0x20) r.head 0 0 0 (get s.dev .power 0 0xC).toNat [])))) ∧
      ((r.data.getD 0 0).toNat = 3 → exec .query s = .next (withDev s (refill
        (respond d r.head 0 0 0 (get s.dev .power 0 0xC).toNat []))))) ∧
    ((r.head.getD 0 0).toNat = 0x68 →
      (reqLen r = 0 → reqValue r = 0x9616 → fieldAt r.head 16 4 = 0xFFFF69E9 → exec .reset s =
        .next (withDev s (refill (onTrunk (respond d r.head 0 0 0 0 []) (fun t => { t with resetTag := some (r.head.getD 3 0).toNat }))))) ∧
      (reqLen r ≠ 0 ∨ reqValue r ≠ 0x9616 ∨ fieldAt r.head 16 4 ≠ 0xFFFF69E9 → exec .reset s =
        .next (withDev s (refill (respond d r.head 2 0 0 0 []))))))

/-- Trunk slots, epochs and feeder returns. Slot 0 carries a MAP block, 26 owner codes of the map in force under its generation, or of the next map while
that is announced. A slot whose owner has nothing to send carries IDLE and counts in TT_CNT; else it carries the head of the owner's next packet, or
the next data block or the END of its packet in progress; a packet whose pan read misses its slot (assumption log 113), as each does where the egress
owner has no position, ends there with the inverse of its CRC-32C. A slot's block leaves on the lane whose turn it is, alone. At an epoch start a good
staged map starts a change cycle which announces its words under the next generation, a bad one is refused with TT_STATUS.refused and FS111, and the
40th epoch of a cycle puts the announced words in force, each with its staged word unless that was written since, unless TT_CTRL.hold keeps it waiting
(assumption log 112). A feeder return with nothing queued sends IDLE, and starts the packet at the front of its queue. The model's readings:
assumption log 71, 112, 113 and 121. -/
def Obligations.TrunkSlotsEpochsAndReturns : Prop :=
  ∀ (s : State) (late : Bool) (dt : Nat), UnitsOn s →
    ((vget s.dev.groups 0).state = .ready → (vget s.dev.groups 0).tx = .blocks →
      (s.dev.trunk.slot = 0 → Answers (.trunkSlot late dt) s (fun t =>
        t = withDev (passTime s dt) { s.dev with trunk := t.dev.trunk, lanes := t.dev.lanes } ∧ t.dev.trunk.slot = 1 ∧
        (∀ n : Fin 15, n.val ≠ slotLane s.dev → vget t.dev.lanes n = vget s.dev.lanes n) ∧
        ∃ b, t.dev.trunk.last = some { ctl := true, bytes := b } ∧ sealOk b = true ∧ (b.getD 0 0).toNat = 6 ∧
          (s.dev.trunk.cycle = none → (b.getD 2 0).toNat = getF s.dev .tt 0 8 7 0 ∧ (s.dev.trunk.frag < 40 → (b.getD 3 0).toNat = s.dev.trunk.frag) ∧
            ∀ i, i < 26 → 26 * s.dev.trunk.frag + i < 1024 → (b.getD (4 + i) 0).toNat = slotOwner s.dev (26 * s.dev.trunk.frag + i)) ∧
          (∀ k, s.dev.trunk.cycle = some k → k < 40 → (b.getD 2 0).toNat = (getF s.dev .tt 0 8 7 0 + 1) % 256 ∧ (b.getD 3 0).toNat = 128 + k ∧
            ∀ i, i < 26 → 26 * k + i < 1024 → (b.getD (4 + i) 0).toNat = mapCode (newWord s.dev) (26 * k + i)))) ∧
      (∀ o, s.dev.trunk.slot ≠ 0 → s.dev.trunk.slot < 1024 → o = slotOwner s.dev s.dev.trunk.slot → ownerFenced s.dev o = false →
        (vget s.dev.groups 0).hold = false →
        (curOf s.dev o = none → 1 ≤ o → o ≤ 0x20 → (vget s.dev.views (o - 1)).queue = [] → Answers (.trunkSlot late dt) s (fun t =>
          t = withDev (passTime s dt) { s.dev with trunk := t.dev.trunk, regs := t.dev.regs, lanes := t.dev.lanes } ∧
          (∀ n : Fin 15, n.val ≠ slotLane s.dev → vget t.dev.lanes n = vget s.dev.lanes n) ∧
          t.dev.trunk.slot = (s.dev.trunk.slot + 1) % 1024 ∧ get t.dev .tt 0 0xC = get s.dev .tt 0 0xC + 1 ∧
          ∃ b, t.dev.trunk.last = some { ctl := true, bytes := b } ∧ sealOk b = true ∧ (b.getD 0 0).toNat = 1)) ∧
        (∀ p l, curOf s.dev o = none → (vget s.dev.groups 0).entering = false → 1 ≤ o → o ≤ 0x20 →
          (vget s.dev.views (o - 1)).queue = p :: l → (∀ f b n, p.kind ≠ .through f b n) → p.head = [] →
          (fromPan p = true → ownerServed s.dev 0x1C = true) → (deviceId s.dev).isSome = true → Answers (.trunkSlot late dt) s (fun t =>
            onlyDev (passTime s dt) t ∧ t.dev.mem = s.dev.mem ∧ (vget t.dev.views (o - 1)).queue = l ∧
            t.dev.trunk.slot = (s.dev.trunk.slot + 1) % 1024 ∧ get t.dev .tt 0 0xC = get s.dev .tt 0 0xC ∧
            ∃ y, curOf t.dev o = some y ∧ y.pkt = p ∧ y.pos = 1 ∧ y.bad = false ∧ y.cut = false ∧
              y.head = (manifestHead (passTime s dt).env s.dev p.man).take 30 ∧ y.crc = crc32Run crc32Init y.head ∧
              t.dev.trunk.last = some { ctl := true, bytes := sealBlock y.head })) ∧
        (∀ x, curOf s.dev o = some x → x.cut = false → x.pos = packetLen x.pkt + 1 → x.pkt.kind = .plain → s.dev.trunk.resetTag = none →
          Answers (.trunkSlot late dt) s (fun t =>
            t = withDev (passTime s dt) { s.dev with trunk := t.dev.trunk, lanes := t.dev.lanes } ∧ curOf t.dev o = none ∧
            t.dev.trunk.slot = (s.dev.trunk.slot + 1) % 1024 ∧
            ∃ b, t.dev.trunk.last = some { ctl := true, bytes := b } ∧ sealOk b = true ∧ (b.getD 0 0).toNat = 0x3F ∧
              (3 ≤ x.head.length - 1 → (b.drop 1).take 3 = (x.head.drop 1).take 3 ∧
                leVal ((b.drop 4).take 4) = (if x.bad then 0xFFFFFFFF - crc32End x.crc else crc32End x.crc)))) ∧
        (∀ x, curOf s.dev o = some x → x.cut = false → 1 ≤ x.pos → x.pos ≤ packetLen x.pkt →
          (x.pkt.kind = .plain → x.pkt.inPan = none → Answers (.trunkSlot late dt) s (fun t =>
            t = withDev (passTime s dt) { s.dev with trunk := t.dev.trunk, lanes := t.dev.lanes } ∧
            (∀ n : Fin 15, n.val ≠ slotLane s.dev → vget t.dev.lanes n = vget s.dev.lanes n) ∧
            t.dev.trunk.slot = (s.dev.trunk.slot + 1) % 1024 ∧
            t.dev.trunk.last = some { bytes := (x.pkt.bytes.drop (32 * (x.pos - 1)) ++ List.replicate 32 0).take 32 } ∧
            ∃ y, curOf t.dev o = some y ∧ y.pos = x.pos + 1 ∧ y.pkt = x.pkt)) ∧
          (fromPan x.pkt = true → late = true ∨ ownerServed s.dev 0x1C = false → Answers (.trunkSlot late dt) s (fun t =>
            t.dev.trunk.last = some { ctl := true, bytes := endBlock { x with bad := true, cut := true } } ∧ curOf t.dev o = none ∧
            t.dev.trunk.missed = s.dev.trunk.missed + 1))))) ∧
    ((vget s.dev.groups 0).state = .ready → (vget s.dev.groups 0).tx = .blocks → (vget s.dev.groups 0).entering = false →
      getB s.dev .tt 0 0 0 = false → stagedIn s.dev (unitBase .tt 0 + 0x400) 0x400 ≠ [] → 4 ≤ s.dev.trunk.age →
      (s.dev.trunk.cycle = none → mapOk (fun k => stagedAt s.dev (unitBase .tt 0 + 0x400 + 4 * k)) = true → Answers .ttEpochStart s (fun t =>
        onlyDev s t ∧ t.dev.trunk.slot = 0 ∧ t.dev.trunk.cycle = some 0 ∧ getB t.dev .tt 0 8 16 = true ∧
        getF t.dev .tt 0 8 15 8 = (getF s.dev .tt 0 8 7 0 + 1) % 256 ∧ getF t.dev .tt 0 8 7 0 = getF s.dev .tt 0 8 7 0 ∧
        t.dev.staged = s.dev.staged ∧ t.dev.trunk.since = [] ∧ (∀ k, get t.dev .tt 0 (0x400 + 4 * k) = get s.dev .tt 0 (0x400 + 4 * k)) ∧
        t.dev.trunk.newMap = (List.range 256).map (fun k => (k, stagedAt s.dev (unitBase .tt 0 + 0x400 + 4 * k))) ∧
        ∀ k, k < 256 → newWord t.dev k = stagedAt s.dev (unitBase .tt 0 + 0x400 + 4 * k))) ∧
      (s.dev.trunk.cycle = none → mapOk (fun k => stagedAt s.dev (unitBase .tt 0 + 0x400 + 4 * k)) = false → Answers .ttEpochStart s (fun t =>
        onlyDev s t ∧ t.dev.trunk.cycle = none ∧ getB t.dev .tt 0 4 1 = true ∧ get t.dev .tt 0 8 = get s.dev .tt 0 8 ∧
        stagedIn t.dev (unitBase .tt 0 + 0x400) 0x400 = [] ∧ { source := 111, addr := sourceBase 111 } ∈ t.dev.reports))) ∧
    ((vget s.dev.groups 0).state = .ready → (vget s.dev.groups 0).tx = .blocks → (vget s.dev.groups 0).entering = false →
      s.dev.trunk.cycle = some 39 →
      (getB s.dev .tt 0 0 0 = true → Answers .ttEpochStart s (fun t =>
        onlyDev s t ∧ t.dev.trunk.cycle = some 39 ∧ t.dev.regs = s.dev.regs ∧ t.dev.staged = s.dev.staged)) ∧
      (∀ w : Nat → Word, getB s.dev .tt 0 0 0 = false → s.dev.trunk.newMap = (List.range 256).map (fun k => (k, w k)) →
        Answers .ttEpochStart s (fun t =>
          onlyDev s t ∧ t.dev.mem = s.dev.mem ∧ getF t.dev .tt 0 8 7 0 = (getF s.dev .tt 0 8 7 0 + 1) % 256 ∧ getB t.dev .tt 0 4 0 = true ∧
          (∀ k, k < 256 → get t.dev .tt 0 (0x400 + 4 * k) = w k ∧
            (k ∉ s.dev.trunk.since → ∀ q ∈ t.dev.staged, q.1 ≠ unitBase .tt 0 + 0x400 + 4 * k) ∧
            (k ∈ s.dev.trunk.since → s.dev.trunk.age < 4 → ∀ q ∈ s.dev.staged, q.1 = unitBase .tt 0 + 0x400 + 4 * k → q ∈ t.dev.staged)) ∧
          (stagedIn t.dev (unitBase .tt 0 + 0x400) 0x400 = [] → t.dev.trunk.cycle = none ∧ getB t.dev .tt 0 8 16 = false)))) ∧
    ((vget s.dev.groups 0).state = .ready → (vget s.dev.groups 0).tx = .blocks → (vget s.dev.groups 0).entering = false →
      ∀ k, s.dev.trunk.cycle = some k → k < 39 → Answers .ttEpochStart s (fun t =>
        t = withDev s { s.dev with trunk := t.dev.trunk, groups := t.dev.groups } ∧ t.dev.trunk.cycle = some (k + 1) ∧
        t.dev.trunk.newMap = s.dev.trunk.newMap ∧ t.dev.trunk.slot = 0)) ∧
    (∀ f : Fin 2, (vget s.dev.groups (f + 1)).state = .ready → (vget s.dev.groups (f + 1)).tx = .blocks →
      (vget s.dev.boxes (3 + f)).outbox = [] → (vget s.dev.groups (f + 1)).sending = none → (vget s.dev.groups (f + 1)).entering = false →
      (vget s.dev.groups (f + 1)).idDue = false → fenced s.dev .feeder f = false →
      ((vget s.dev.groups (f + 1)).retQueue = [] → Answers (.feederReturnBlock f dt) s (fun t =>
        t = withDev (passTime s dt) { s.dev with groups := t.dev.groups, lanes := t.dev.lanes } ∧
        (∀ n : Fin 15, n.val ≠ 9 + 5 * f.val → vget t.dev.lanes n = vget s.dev.lanes n) ∧
        ∃ b, (vget t.dev.groups (f + 1)).last = some { ctl := true, bytes := b } ∧ sealOk b = true ∧ (b.getD 0 0).toNat = 1)) ∧
      (∀ p l, (vget s.dev.groups (f + 1)).retQueue = (0, p) :: l → 0x60 ≤ (p.head.getD 0 0).toNat → p.kind = .plain → 30 ≤ p.head.length →
        Answers (.feederReturnBlock f dt) s (fun t =>
          t = withDev (passTime s dt) { s.dev with groups := t.dev.groups, lanes := t.dev.lanes } ∧ (vget t.dev.groups (f + 1)).retQueue = l ∧
          (vget t.dev.groups (f + 1)).last = some { ctl := true, bytes := sealBlock (p.head.take 30) } ∧
          ∃ y, (vget t.dev.groups (f + 1)).sending = some y ∧ y.pkt = p ∧ y.pos = 1)))

/-! ### Lanes -/

/-- Training that does not succeed. After 100 ms an attempt below 16 is followed by the next, and attempt 16 by LISTEN, each with its event on every lane
in use; 5 ms without lock move an acquiring receiver to the next CTLE step of 8, 11, 5, 14, 2; 10 µs of WAKE lead to attempt 1. A READY group
retrains, from attempt 1 and with its open packets discarded, when a receive lane that left LOCKED is not locked again in time, when the partner has
reported no lock for 2 ms, and at the retrain pulse of LINK_GROUP, which also takes a group out of LISTEN. The model's readings: assumption log 8 and
77. -/
def Obligations.GroupsTrainAgain : Prop :=
  (∀ (s : State), UnitsOn s →
    (∀ g : Fin 3, (vget s.dev.groups g).state = .training →
      ((vget s.dev.groups g).attempt < 16 → Answers (.trainingAttemptTimeout g) s (fun t =>
        onlyDev s t ∧ (vget t.dev.groups g).state = .training ∧ (vget t.dev.groups g).attempt = (vget s.dev.groups g).attempt + 1 ∧
        (∀ n ∈ useLanes s.dev g, getB t.dev .lane n 0xC 1 = true) ∧ (∀ n ∈ rxLanes s.dev g, (vget t.dev.lanes n).rx = .hunt) ∧
        ∀ h : Fin 3, h ≠ g → vget t.dev.groups h = vget s.dev.groups h)) ∧
      (16 ≤ (vget s.dev.groups g).attempt → Answers (.trainingAttemptTimeout g) s (fun t =>
        onlyDev s t ∧ (vget t.dev.groups g).state = .listen ∧ (vget t.dev.groups g).faultArm = false ∧
        (∀ n ∈ useLanes s.dev g, getB t.dev .lane n 0xC 1 = true ∧ getB t.dev .lane n 0xC 2 = true) ∧
        ((vget s.dev.groups g).faultArm = true → ∃ r ∈ t.dev.reports, r.source = listenSource g) ∧
        ∀ h : Fin 3, h ≠ g → vget t.dev.groups h = vget s.dev.groups h))) ∧
    (∀ (n : Fin 15) (k : Nat), (vget s.dev.groups (laneGroup n)).state = .training → (vget s.dev.lanes n).signal = true →
      getB s.dev .lane n 0 24 = false → (vget s.dev.lanes n).rx ≠ .locked → (vget s.dev.lanes n).search = .acquire k → k < 4 →
      Answers (.ctleStepTimeout n) s (fun t =>
        t = withDev s { s.dev with lanes := t.dev.lanes } ∧ (vget t.dev.lanes n).ctle = [8, 11, 5, 14, 2].getD (k + 1) 0 ∧
        (vget t.dev.lanes n).search = .acquire (k + 1) ∧ ∀ j, j ≠ n.val → vget t.dev.lanes j = vget s.dev.lanes j)) ∧
    (∀ g : Fin 3, (vget s.dev.groups g).state = .wake → Answers (.wakeTimeout g) s (fun t =>
      onlyDev s t ∧ (vget t.dev.groups g).state = .training ∧ (vget t.dev.groups g).attempt = 1))) ∧
  (∀ (s : State),
    (∀ n : Fin 15, UnitsOn s → (vget s.dev.groups (laneGroup n)).state = .ready → n.val ∈ rxLanes s.dev (laneGroup n) →
      (vget s.dev.lanes n).rx ∉ [.locked, .hold] → Answers (.relockTimeout n) s (fun t =>
        onlyDev s t ∧ (vget t.dev.groups (laneGroup n)).state = .training ∧ (vget t.dev.groups (laneGroup n)).attempt = 1 ∧
        (vget t.dev.groups (laneGroup n)).opens = [])) ∧
    (∀ g : Fin 3, UnitsOn s → (vget s.dev.groups g).state = .ready → (vget s.dev.groups g).lockNow = false →
      Answers (.partnerLockTimeout g) s (fun t =>
        onlyDev s t ∧ (vget t.dev.groups g).state = .training ∧ (vget t.dev.groups g).attempt = 1 ∧ (vget t.dev.groups g).opens = [])) ∧
    (∀ (g : Fin 3) (m : Fin 7), TakesWrite s m .link 0 0 (setBit 0 (24 + g)) → (vget s.dev.groups g).state ∈ [.ready, .listen] →
      Answers (.retrain g m) s (fun t =>
        onlyDev s t ∧ (vget t.dev.groups g).state = .training ∧ (vget t.dev.groups g).attempt = 1 ∧ (vget t.dev.groups g).opens = [] ∧
        ∀ h : Fin 3, h ≠ g → vget t.dev.groups h = vget s.dev.groups h)))

/-- Signals. A signal that newly appears restarts the acquisition of a receiver in training that is not locked, and takes a group out of LISTEN where the
lane was silent since; a signal lost before lock restarts the acquisition from step 8, or from the fixed step. Locks. A hunting receiver counts valid
headers one after the other: with 160 of them in PAM4, or 64 in 8b/10b, it is LOCKED and goes on to measure the CTLE steps from 0, unless its step is
fixed or its group is in LISTEN; with fewer a PAM4 candidate is in VERIFY; an invalid one sends it back to HUNT, a PAM4 one slipped by a symbol. One
whose five acquisition steps have passed stays unlocked in training. In TRAINING and WAKE a lock makes the group READY where every receive lane then
meets R310 and the partner is ready. A receiver that loses lock hunts again, its link's open packets are discarded, in READY its lane event is set,
and on TRET FS109 is raised. The model's readings: assumption log 77. -/
def Obligations.SignalsAndLocks : Prop :=
  (∀ (s : State) (n : Fin 15), UnitsOn s → n.val ∈ rxLanes s.dev (laneGroup n) →
    ((vget s.dev.lanes n).signal = false →
      ((vget s.dev.groups (laneGroup n)).state = .training → (vget s.dev.lanes n).rx ≠ .locked → Answers (.signalDetect n) s (fun t =>
        t = withDev s { s.dev with lanes := t.dev.lanes } ∧ (vget t.dev.lanes n).signal = true ∧ (vget t.dev.lanes n).rx = .hunt ∧
        (vget t.dev.lanes n).ctle = (if getB s.dev .lane n 0 24 then getF s.dev .lane n 0 28 25 else 8) ∧
        (vget t.dev.lanes n).search = .acquire 0)) ∧
      ((vget s.dev.groups (laneGroup n)).state = .listen → (vget s.dev.lanes n).silent = true → Answers (.signalDetect n) s (fun t =>
        onlyDev s t ∧ (vget t.dev.groups (laneGroup n)).state = .training ∧ (vget t.dev.groups (laneGroup n)).attempt = 1)) ∧
      ((vget s.dev.groups (laneGroup n)).state ∉ [.training, .listen] → exec (.signalDetect n) s =
        .next (withDev s (onLane s.dev n (fun l => { l with signal := true, silent := false }))))) ∧
    ((vget s.dev.lanes n).signal = true → (vget s.dev.groups (laneGroup n)).state = .training → (vget s.dev.lanes n).rx ≠ .locked →
      Answers (.signalLost n) s (fun t =>
        t = withDev s { s.dev with lanes := t.dev.lanes } ∧ (vget t.dev.lanes n).signal = false ∧ (vget t.dev.lanes n).rx = .hunt ∧
        (vget t.dev.lanes n).search = .acquire 0 ∧ (vget t.dev.lanes n).dfe = List.replicate 12 0 ∧
        (vget t.dev.lanes n).ctle = (if getB s.dev .lane n 0 24 then getF s.dev .lane n 0 28 25 else 8)))) ∧
  (∀ (s : State) (n : Fin 15) (k : Nat) (hist : List Bool), UnitsOn s →
    (n.val ∈ rxLanes s.dev (laneGroup n) → (vget s.dev.lanes n).rx ∈ [.hunt, .verify] →
      ((vget s.dev.groups (laneGroup n)).state ∉ [.training, .wake] →
        ((vget s.dev.lanes n).rcv.good < lockCount s.dev n → (vget s.dev.lanes n).rcv.good + k = lockCount s.dev n →
          Answers (.laneLocked n (List.replicate k true) hist) s (fun t =>
            t = withDev s { s.dev with lanes := t.dev.lanes, groups := t.dev.groups } ∧ (vget t.dev.lanes n).rx = .locked ∧
            (vget t.dev.lanes n).rcv.hist = (hist ++ (vget s.dev.lanes n).rcv.hist).take 58 ∧
            (getB s.dev .lane n 0 24 = true → (vget t.dev.lanes n).search = .done) ∧
            ((vget s.dev.groups (laneGroup n)).state = .listen → getB s.dev .lane n 0 24 = false →
              (vget t.dev.lanes n).search = (vget s.dev.lanes n).search ∧ (vget t.dev.lanes n).ctle = (vget s.dev.lanes n).ctle) ∧
            (∀ j, getB s.dev .lane n 0 24 = false → (vget s.dev.groups (laneGroup n)).state ≠ .listen →
              (vget s.dev.lanes n).search = .acquire j → (vget t.dev.lanes n).search = .measure 0 0 0 ∧ (vget t.dev.lanes n).ctle = 0))) ∧
        (0 < k → (vget s.dev.lanes n).rcv.good + k < lockCount s.dev n → Answers (.laneLocked n (List.replicate k true) hist) s (fun t =>
          t = withDev s { s.dev with lanes := t.dev.lanes } ∧ (vget t.dev.lanes n).rcv.good = (vget s.dev.lanes n).rcv.good + k ∧
          (vget t.dev.lanes n).rx = (if rxPam s.dev n then .verify else (vget s.dev.lanes n).rx))) ∧
        Answers (.laneLocked n [false] hist) s (fun t =>
          t = withDev s { s.dev with lanes := t.dev.lanes } ∧ (vget t.dev.lanes n).rcv.good = 0 ∧ (vget t.dev.lanes n).rx = .hunt ∧
          (vget t.dev.lanes n).rcv.slip = (vget s.dev.lanes n).rcv.slip + (if rxPam s.dev n then 1 else 0))) ∧
      ((vget s.dev.groups (laneGroup n)).state ∈ [.training, .wake] →
        ((vget s.dev.groups (laneGroup n)).state = .wake ∨ (vget s.dev.lanes n).search ≠ .acquire 5) →
        (vget s.dev.lanes n).rcv.good < lockCount s.dev n → (vget s.dev.lanes n).rcv.good + k = lockCount s.dev n →
        Answers (.laneLocked n (List.replicate k true) hist) s (fun t =>
          t.clock = s.clock ∧ t.pending = s.pending ∧ (vget t.dev.lanes n).rx = .locked ∧
          (∀ j : Fin 15, j ≠ n → vget t.dev.lanes j = vget s.dev.lanes j) ∧
          (getB s.dev .lane n 0 24 = true → (vget t.dev.lanes n).search = .done ∧ (vget t.dev.lanes n).ctle = (vget s.dev.lanes n).ctle) ∧
          (∀ j, getB s.dev .lane n 0 24 = false → (vget s.dev.lanes n).search = .acquire j →
            (vget t.dev.lanes n).search = .measure 0 0 0 ∧ (vget t.dev.lanes n).ctle = 0) ∧
          (vget t.dev.groups (laneGroup n)).state = readyOr s t (laneGroup n))) ∧
      ((vget s.dev.groups (laneGroup n)).state = .training → (vget s.dev.lanes n).search = .acquire 5 →
        ∀ headers, exec (.laneLocked n headers hist) s = .next s)) ∧
    ((vget s.dev.lanes n).rx = .locked → Answers (.laneLockLost n) s (fun t =>
      onlyDev s t ∧ (vget t.dev.lanes n).rx = .hunt ∧ (vget t.dev.groups (laneGroup n)).opens = [] ∧
      (vget t.dev.groups (laneGroup n)).state = (vget s.dev.groups (laneGroup n)).state ∧
      ((vget s.dev.groups (laneGroup n)).state = .ready → getB t.dev .lane n 0xC 0 = true) ∧
      (laneGroup n = 0 → (vget s.dev.groups 0).state = .ready → { source := 109, addr := unitBase .link 0 } ∈ t.dev.reports) ∧
      t.dev.mem = s.dev.mem)))

/-- A window of a receiver that is not OFF completes. The figure of merit is clamp(floor(256 (a/2 − q) / (a/2)), 0, 255). Of a LOCKED receiver the CTLE
search moves to the next step, keeps the best, and after step 15 ends at the best step, the lower one on a tie; a receiver that is not locked goes on
with its search. One update of the DFE taps is made every 2^μ × 64 UI, μ by the figure of merit; frozen, or in HOLD, it keeps its taps and thresholds.
A low figure in READY for the fourth window running sets fom_low and raises FS117 once, until a good window re-arms it. In TRAINING and WAKE a window
makes the group READY where every receive lane then meets R310 and the partner is ready. -/
def Obligations.FomWindowsDriveTheSearch : Prop :=
  ∀ (s : State) (n : Fin 15) (a q : Int) (ups : List (Int × List Int)) (slicer : List Int), UnitsOn s →
    ((vget s.dev.lanes n).rx = .off → exec (.fomWindow n a q ups slicer) s = .next s) ∧
    ((vget s.dev.lanes n).rx ≠ .off → 0 < a →
      Answers (.fomWindow n a q ups slicer) s (fun t =>
        t.clock = s.clock ∧ t.pending = s.pending ∧
        ((vget s.dev.groups (laneGroup n)).state ∉ [.training, .wake] →
          onlyDev s t ∧ t.dev.groups = s.dev.groups ∧ t.dev.mem = s.dev.mem ∧
          ((vget s.dev.lanes n).lowSent = true → t.dev.reports = s.dev.reports)) ∧
        ((vget s.dev.groups (laneGroup n)).state ∈ [.training, .wake] →
          (vget t.dev.groups (laneGroup n)).state = readyOr s t (laneGroup n)) ∧
        (∀ j : Fin 15, j ≠ n → vget t.dev.lanes j = vget s.dev.lanes j) ∧
        ((vget t.dev.lanes n).fom : Int) = max 0 (min 255 (256 * (a - 2 * q) / a)) ∧
        (vget t.dev.lanes n).rx = (vget s.dev.lanes n).rx ∧ (vget t.dev.lanes n).fomKnown = true ∧
        (adaptOff s.dev n = true → (vget t.dev.lanes n).dfe = (vget s.dev.lanes n).dfe ∧
          (vget t.dev.lanes n).rcv.slicer = (vget s.dev.lanes n).rcv.slicer) ∧
        (∀ mu, adaptOff s.dev n = false →
          mu = (if (vget s.dev.lanes n).fom < 128 then getF s.dev .lane n 0x1C 2 0 else getF s.dev .lane n 0x1C 6 4) →
          (vget t.dev.lanes n).dfe = (ups.take (2 ^ (14 - mu))).foldl (fun c u => dfeUpdate c u.1 u.2) (vget s.dev.lanes n).dfe ∧
          (vget t.dev.lanes n).rcv.slicer = slicer) ∧
        ((vget s.dev.lanes n).rx ≠ .locked → (vget t.dev.lanes n).search = (vget s.dev.lanes n).search ∧
          (vget t.dev.lanes n).ctle = (vget s.dev.lanes n).ctle) ∧
        (∀ k b f, (vget s.dev.lanes n).rx = .locked → (vget s.dev.lanes n).search = .measure k b f → k < 15 →
          (vget t.dev.lanes n).ctle = k + 1 ∧ (vget t.dev.lanes n).search =
            (if k = 0 ∨ f < (vget t.dev.lanes n).fom then .measure (k + 1) k (vget t.dev.lanes n).fom else .measure (k + 1) b f)) ∧
        (∀ b f, (vget s.dev.lanes n).rx = .locked → (vget s.dev.lanes n).search = .measure 15 b f →
          (vget t.dev.lanes n).search = .done ∧ (vget t.dev.lanes n).ctle = (if f < (vget t.dev.lanes n).fom then 15 else b)) ∧
        (n.val ∈ rxLanes s.dev (laneGroup n) →
          ((vget s.dev.groups (laneGroup n)).state = .ready → (vget t.dev.lanes n).fom < getF s.dev .lane n 0 23 16 →
            (vget s.dev.lanes n).lowRun = 3 → (vget s.dev.lanes n).lowSent = false →
            getB t.dev .lane n 0xC 3 = true ∧ t.dev.reports = s.dev.reports ++ [{ source := 117, addr := unitBase .lane n }]) ∧
          (getF s.dev .lane n 0 23 16 ≤ (vget t.dev.lanes n).fom →
            (vget t.dev.lanes n).lowRun = 0 ∧ (vget t.dev.lanes n).lowSent = false))))

/-- The bursts of LISTEN and the packet hold: in LISTEN the trunk transmitters start the training stream for a burst and then fall silent, and 40 epochs
after READY the trunk may send packets. Nothing else changes. Electrical idle ends. A rake burst takes every receive lane in HOLD to LOCKED where its
MILESTONE passes, else to HUNT, and a group in EIDLE to WAKE or on to READY, with a rake burst of its own and a MILESTONE that counts one more on the
line of each lane it sends on; on TRET it takes the device out of IDLE. After FALLOW, in TRAIN, the lane PLLs' lock starts the trunk at attempt 1, and
every feeder that waits for it with its line up; in a recovering device TRET must lock first. The model's readings: assumption log 8 and 77. -/
def Obligations.ListenBurstsAndTheEndOfElectricalIdle : Prop :=
  (∀ (s : State), UnitsOn s →
    ((vget s.dev.groups 0).state = .listen →
      exec .listenBurst s = .next (withDev s (onGroup (startStream s.dev 0) 0 (fun x => { x with tx := .training }))) ∧
      exec .listenBurstEnd s = .next (withDev s (onGroup (groupQuiet s.dev 0) 0 (fun x => { x with tx := .silent })))) ∧
    ((vget s.dev.groups 0).state = .ready →
      exec .packetHoldEnd s = .next (withDev s (onGroup s.dev 0 (fun x => { x with hold := false }))))) ∧
  (∀ (s : State), UnitsOn s →
    (∀ (g : Fin 3) (bl : List (List Byte)), (vget s.dev.groups g).state = .eidle → (g.val ≠ 0 ∨ s.sys.mode ≠ .idle) →
      bl.length = (rxLanes s.dev g).length → Answers (.rakeBurstReceived g bl) s (fun t =>
        t.clock = s.clock ∧ t.pending = s.pending ∧ (vget t.dev.groups g).state ∈ [.wake, .ready] ∧
        (vget t.dev.groups g).txCount = ((vget s.dev.groups g).txCount + 1) % 2 ^ 32 ∧
        (∀ n : Fin 15, n.val ∈ txLanes s.dev g → ∃ b, (vget t.dev.lanes n).tx.line =
            (sendPieces (txPam s.dev n) { (vget s.dev.lanes n).tx with hist := allOnes58, word := [], prev := 0, unit := 0 }
              [.levels (rakeLevels (txPam s.dev n)), .commas, .block true b]).1 ∧
          sealOk b = true ∧ (b.getD 0 0).toNat = 2 ∧ (b.getD 2 0).toNat = sendByte2 s.dev n ∧
          leVal ((b.drop 4).take 4) = ((vget s.dev.groups g).txCount + 1) % 2 ^ 32) ∧
        ∀ p ∈ (rxLanes s.dev g).zip bl, (vget s.dev.lanes p.1).rx = .hold →
          (vget t.dev.lanes p.1).rx = (if sealOk p.2 = true ∧ (p.2.getD 0 0).toNat = 2 then .locked else .hunt) ∧
          (sealOk p.2 = true → (p.2.getD 0 0).toNat = 2 → (vget t.dev.lanes p.1).rcv.hist = allOnes58 ∧
            (vget t.dev.lanes p.1).rcv.rdPos = false ∧ (vget t.dev.lanes p.1).rcv.prev = 0))) ∧
    (∀ bl : List (List Byte), s.sys.mode = .idle → ¬ (s.sys.back = .degraded ∧ s.dev.flt.fences = []) →
      (vget s.dev.groups 0).state = .eidle →
      Answers (.rakeBurstReceived 0 bl) s (fun t => changedTo s.sys.back s.sys t.sys ∧ t.clock = s.clock)) ∧
    (s.sys.mode = .train → (vget s.dev.groups 0).state = .off →
      (recovering s.sys.straps = true → (vget s.dev.lanes 4).rx = .locked ∨ s.dev.power.pllUp = true) → Answers .lanePllLock s (fun t =>
        onlyDev s t ∧ t.dev.power.pllUp = true ∧ (vget t.dev.groups 0).state = .training ∧ (vget t.dev.groups 0).attempt = 1 ∧
        ∀ f : Fin 2, (vget s.dev.groups (f + 1)).state = .waitLine → lineUp s.dev f = true →
          (vget t.dev.groups (f + 1)).state = .training ∧ (vget t.dev.groups (f + 1)).attempt = 1)) ∧
    (recovering s.sys.straps = true → (vget s.dev.lanes 4).rx ≠ .locked → s.dev.power.pllUp = false → exec .lanePllLock s = .next s))

/-- Blocks of the training stream, as their lane decodes them. In training, readiness reported on every receive lane makes a group READY where its own
lanes are ready; a training block on a READY group whose sender is not ready retrains it, and so does one on a lane in HOLD; an EI_ENTER takes the
lane to HOLD; a FALLOW_ENTER on every lane takes the group, WAIT_LINE and TEST included, to LISTEN with no fault; in LISTEN a partner that starts its
first attempt starts this one's. A TRAIN block whose CRC-16 fails changes no group. The model's readings: assumption log 77 and 109. -/
def Obligations.TrainBlocksMoveTheGroup : Prop :=
  ∀ (s : State) (n : Fin 15) (block bs : List Byte) (a : Arrival) (d : Dev) (ready : Bool), UnitsOn s →
    (vget s.dev.groups (laneGroup n)).state ≠ .off → n.val ∈ rxLanes s.dev (laneGroup n) → n.val ∈ rxLanes d (laneGroup n) →
    arrive s.dev n true block a = (some { ctl := true, bytes := bs }, d) → d.acts = [] → ready = (bs.getD 3 0).getLsbD 4 →
    (sealOk bs = false → Answers (.trainBlockReceived n block a) s (fun t => onlyDev s t ∧ t.dev.groups = d.groups ∧ t.dev.lanes = d.lanes)) ∧
    (sealOk bs = true → (bs.getD 0 0).toNat = 3 → (bs.getD 3 0).toNat % 16 = 1 →
      (((vget d.groups (laneGroup n)).state = .ready ∧ ready = false) ∨
          ((vget d.groups (laneGroup n)).state ∈ [.ready, .eidle, .training, .wake] ∧ (vget d.lanes n).rx = .hold) ∨
          ((vget d.groups (laneGroup n)).state = .listen ∧ (bs.getD 4 0).toNat = 1) → Answers (.trainBlockReceived n block a) s (fun t =>
        onlyDev s t ∧ (vget t.dev.groups (laneGroup n)).state = .training ∧ (vget t.dev.groups (laneGroup n)).attempt = 1)) ∧
      ((vget d.groups (laneGroup n)).state = .training → (vget d.lanes n).rx ≠ .hold → (vget d.groups (laneGroup n)).lockSeen = false →
        (∃ k ∈ rxLanes d (laneGroup n), k ≠ n.val ∧ k ∉ (vget d.groups (laneGroup n)).trained) → ready = true →
        Answers (.trainBlockReceived n block a) s (fun t =>
          onlyDev s t ∧ (vget t.dev.groups (laneGroup n)).state = .training ∧ n.val ∈ (vget t.dev.groups (laneGroup n)).trained ∧
          (vget t.dev.groups (laneGroup n)).rxStream = true ∧ (vget t.dev.lanes n).partner = true)) ∧
      ((vget d.groups (laneGroup n)).state ∈ [.training, .wake] → (vget d.lanes n).rx ≠ .hold → ready = true →
        (bs.getD 2 0).toNat = expectByte2 d n →
        (∀ k ∈ rxLanes d (laneGroup n), laneReady d k = true ∧ (k ≠ n.val → k ∈ (vget d.groups (laneGroup n)).trained)) →
        Answers (.trainBlockReceived n block a) s (fun t => t.clock = s.clock ∧ t.pending = s.pending ∧
          (vget t.dev.groups (laneGroup n)).state = .ready ∧ (vget t.dev.groups (laneGroup n)).hold = true))) ∧
    (sealOk bs = true → (bs.getD 0 0).toNat = 3 → (bs.getD 3 0).toNat % 16 = 2 →
      (vget d.groups (laneGroup n)).state ∉ [.off, .waitLine, .test] →
      exec (.trainBlockReceived n block a) s = .next (withDev s (onLane d n (fun l => { l with rx := .hold })))) ∧
    (sealOk bs = true → (bs.getD 0 0).toNat = 3 → (bs.getD 3 0).toNat % 16 = 3 → (vget d.groups (laneGroup n)).state ≠ .off →
      (∀ k ∈ rxLanes d (laneGroup n), k ≠ n.val → k ∈ (vget d.groups (laneGroup n)).fallowOn) →
      (vget d.groups (laneGroup n)).opens = [] → (laneGroup n = 0 → d.trunk.curs = []) → Answers (.trainBlockReceived n block a) s (fun t =>
        onlyDev s t ∧ (vget t.dev.groups (laneGroup n)).state = .listen ∧ t.dev.reports = d.reports ∧ t.dev.mem = d.mem))

/-- Electrical idle and the test modes. 100 µs after the idle request a group's packets in progress are cut, to end in their owners' next slots; with none
left the trunk enters EIDLE at an epoch start and a return at its next block position: EI_ENTER is sent on each transmit lane, which then drives 0,
and the trunk's change cycle ends. A write of LANE_TEST whose pattern is not of the lane's coding is rejected. A write of LANE_TEST.mode that its
chapter accepts puts the lane's group, unless it is OFF, in TEST, where a lane in mode 4 drives its pattern, and the write of mode 0 to its last lane
under test starts training attempt 1; the far-end loop's mode waits for its 1 ms. inject counts one error to inject, snap copies both counters, clear
zeroes them. A checker counts bits and errors while it is locked, 64 correct bits lock it and 32 wrong ones of 64 take its lock. The far-end loop
starts on the trunk, and its timeout ends it with a retraining. The model's readings: assumption log 8, 76, 77, 108 and 109. -/
def Obligations.IdleEntryAndTestModes : Prop :=
  (∀ (pat : Nat) (l : Lane) (b c : Bool), c = xor b (decide (pat = 5)) →
    (l.checkLock = true → (checkBit pat l b).bits = (l.bits + 1) % 2 ^ 48 ∧
      (checkBit pat l b).errs = (l.errs + if c = prbsNext pat l.rcv.seed then 0 else 1) % 2 ^ 48 ∧
      ∀ k, k = (((xor (prbsNext pat l.rcv.seed) c :: l.rcv.wrong).take 64).filter id).length →
        (checkBit pat l b).checkLock = decide (k < 32) ∧
        (checkBit pat l b).relocks = (if k < 32 then l.relocks else min 65535 (l.relocks + 1))) ∧
    (l.checkLock = false → (checkBit pat l b).bits = l.bits ∧ (checkBit pat l b).errs = l.errs ∧ (checkBit pat l b).relocks = l.relocks ∧
      ((checkBit pat l b).checkLock = true ↔
        (prbsTaps pat).headD 31 ≤ l.rcv.seed.length ∧ c = prbsNext pat l.rcv.seed ∧ 63 ≤ l.rcv.right))) ∧
  ∀ (s : State) (n : Fin 15) (m : Fin 7) (v : Word) (dt : Nat) (bits : List Bool),
    (UnitsOn s → ∀ g : Fin 3, (vget s.dev.groups g).entering = true →
      exec (.eidlePacketTimeout g) s = .next (withDev s (if g = 0 then
          onTrunk s.dev (fun t => { t with curs := t.curs.map (fun q => (q.1, { q.2 with bad := true, cut := true })) })
        else onGroup s.dev g (fun x => { x with sending := x.sending.map (fun q => { q with bad := true, cut := true }) })))) ∧
    (UnitsOn s → (vget s.dev.groups 0).state = .ready → (vget s.dev.groups 0).entering = true → s.dev.trunk.curs = [] →
      Answers .ttEpochStart s (fun t => onlyDev s t ∧ (vget t.dev.groups 0).state = .eidle ∧ (vget t.dev.groups 0).entering = false ∧
        (vget t.dev.groups 0).tx = .silent ∧ t.dev.trunk.cycle = none ∧
        (s.dev.trunk.cycle ≠ none → get t.dev .tt 0 8 = BitVec.ofNat 32 (getF s.dev .tt 0 8 7 0)) ∧
        ∀ k ∈ txLanes s.dev 0, (vget t.dev.lanes k).tx.held = [0, 0, 0] ∧
          (vget t.dev.lanes k).tx.line =
            (sendPieces (txPam s.dev k) (vget s.dev.lanes k).tx [.block true (trainBytes s.env s.dev k 2)]).1)) ∧
    (UnitsOn s → ∀ f : Fin 2, (vget s.dev.groups (f + 1)).tx = .blocks → (vget s.dev.groups (f + 1)).state = .ready →
      (vget s.dev.groups (f + 1)).entering = true → (vget s.dev.groups (f + 1)).sending = none →
      Answers (.feederReturnBlock f dt) s (fun t =>
        (vget t.dev.groups (f + 1)).state = .eidle ∧ (vget t.dev.groups (f + 1)).tx = .silent ∧
        (vget t.dev.lanes (9 + 5 * f)).tx.held = [0, 0, 0] ∧
        (vget t.dev.lanes (9 + 5 * f)).tx.line =
          (sendPieces false (vget s.dev.lanes (9 + 5 * f)).tx [.block true (trainBytes (passTime s dt).env s.dev (9 + 5 * f) 2)]).1)) ∧
    (UnitsOn s → ∀ f : Fin 2, (vget s.dev.groups (f + 1)).tx = .pattern → (vget s.dev.groups (f + 1)).state = .test →
      testMode s.dev (9 + 5 * f) = 4 → (vget s.dev.lanes (9 + 5 * f)).tx.inject = 0 → Answers (.feederReturnBlock f dt) s (fun t =>
        (vget t.dev.lanes (9 + 5 * f)).tx.line =
          nrzLevels (prbsSend (testPattern s.dev (9 + 5 * f)) 330 (vget s.dev.lanes (9 + 5 * f)).tx.prbs).1)) ∧
    (fld v 6 4 < 6 → decide (4 ≤ fld v 6 4) ≠ lanePam4 s.dev n → writeFits s.env s.dev .lane n 0x20 v = false) ∧
    (TakesWrite s m .lane n 0x20 (v &&& 0xFFFFF1FF#32) → getF s.dev .lane n 0x20 2 0 ≠ fld v 2 0 →
      (fld v 2 0 ≠ 0 → fld v 2 0 ≠ 3 → Answers (.laneTestMode n m v) s (fun t =>
        onlyDev s t ∧ getF t.dev .lane n 0x20 2 0 = fld v 2 0 ∧
        (if (vget s.dev.groups (laneGroup n)).state = .off then (vget t.dev.groups (laneGroup n)).state = .off
          else (vget t.dev.groups (laneGroup n)).state = .test ∧ (vget t.dev.groups (laneGroup n)).tx = .pattern ∧
            (vget t.dev.groups (laneGroup n)).opens = []) ∧
        (s.dev.trunk.curs = [] → t.dev.mem = s.dev.mem))) ∧
      (fld v 2 0 = 3 → Answers (.laneTestMode n m v) s (fun t =>
        onlyDev s t ∧ getF t.dev .lane n 0x20 2 0 = 3 ∧ t.dev.groups = s.dev.groups ∧ t.dev.mem = s.dev.mem)) ∧
      (fld v 2 0 = 0 → (vget s.dev.groups (laneGroup n)).state = .test →
        (∀ k : Fin 15, k ≠ n → laneGroup k = laneGroup n → getF s.dev .lane k 0x20 2 0 = 0) → Answers (.laneTestMode n m v) s (fun t =>
          onlyDev s t ∧ getF t.dev .lane n 0x20 2 0 = 0 ∧
          (vget t.dev.groups (laneGroup n)).state = .training ∧ (vget t.dev.groups (laneGroup n)).attempt = 1))) ∧
    (getF s.dev .lane n 0x20 11 9 = 0 →
      (TakesWrite s m .lane n 0x20 (setBit (testWord s.dev n) 9) → Answers (.laneTestInject n m) s (fun t =>
        t = withDev s { s.dev with
          regs := t.dev.regs, lanes := vmod s.dev.lanes n (fun l => { l with tx := { l.tx with inject := l.tx.inject + 1 } }) } ∧
        regsBut [] s.dev t.dev)) ∧
      (TakesWrite s m .lane n 0x20 (setBit (testWord s.dev n) 11) → Answers (.laneTestClear n m) s (fun t =>
        t = withDev s { s.dev with
          regs := t.dev.regs, lanes := vmod s.dev.lanes n (fun l => { l with bits := 0, errs := 0, relocks := 0 }) } ∧
        regsBut [] s.dev t.dev)) ∧
      (UnitsOn s → TakesWrite s m .lane n 0x20 (setBit (testWord s.dev n) 10) → (vget s.dev.groups 0).tx ≠ .loop →
        Answers (.laneTestSnap n m bits) s (fun t =>
          onlyDev s t ∧ t.dev.lanes = (checkBits s.dev n bits).lanes ∧
          get t.dev .lane n 0x28 = BitVec.ofNat 32 (vget t.dev.lanes n).bits ∧ get t.dev .lane n 0x2C = BitVec.ofNat 32 (vget t.dev.lanes n).errs ∧
          ((vget t.dev.lanes n).bits < 2 ^ 48 → (vget t.dev.lanes n).errs < 2 ^ 48 →
            getF t.dev .lane n 0x30 15 0 = (vget t.dev.lanes n).bits / 2 ^ 32 ∧
            getF t.dev .lane n 0x30 31 16 = (vget t.dev.lanes n).errs / 2 ^ 32)))) ∧
    (∀ c ∈ [Instr.checkerLocked n bits, .checkerLockLost n bits], UnitsOn s → (vget s.dev.groups 0).tx ≠ .loop →
      (getB s.dev .lane n 0x20 8 = true → testMode s.dev n ≠ 0 →
        exec c s = .next (withDev s (onLane s.dev n (fun l => bits.foldl (checkBit (testPattern s.dev n)) l)))) ∧
      (getB s.dev .lane n 0x20 8 = false ∨ testMode s.dev n = 0 → exec c s = .next s)) ∧
    (UnitsOn s → getF s.dev .lane 4 0x20 2 0 = 3 →
      ((vget s.dev.groups 0).state ≠ .off → Answers .farEndLoopApply s (fun t =>
        onlyDev s t ∧ (vget t.dev.groups 0).state = .test ∧ (vget t.dev.groups 0).tx = .loop ∧ (vget t.dev.groups 0).opens = [])) ∧
      ((vget s.dev.groups 0).state = .off → exec .farEndLoopApply s = .next s) ∧
      ((vget s.dev.groups 0).state = .test → (∀ k : Fin 4, getF s.dev .lane k 0x20 2 0 = 0) → Answers .farEndLoopTimeout s (fun t =>
        onlyDev s t ∧ getF t.dev .lane 4 0x20 2 0 = 0 ∧ (vget t.dev.groups 0).state = .training ∧ (vget t.dev.groups 0).attempt = 1)))

/-! ### Time -/

/-- The clock. A write of TIME_ADDEND acts as the nearest value within 2 ns ± 500 ppm, from the fourth cycle after it. A step request moves the linear
time by S in FREE, with a forced step's two bits under one number (assumption log 19) and, while convoys are enabled, with the convoys abandoned and
FS102; elsewhere it does where S is within TIME_STEP_LIMIT; a larger one is refused with FS118 and leads to HOLDOVER; a malformed one is refused and
changes neither the time nor the state. HOLDOVER is entered from TRACKING and left for it on request. -/
def Obligations.TheClockIsSteeredAndStepped : Prop :=
  ∀ (s : State) (m : Fin 7),
    (∀ v : Word, TakesWrite s m .time 0 8 v → Answers (.timeAddend m v) s (fun t =>
      t.sys = s.sys ∧ t.pending = s.pending ∧ t.dev = put s.dev .time 0 8 v ∧
      t.clock = { s.clock with
        coming := s.clock.coming ++ [(if v.toNat < 0x7FEF9DB2 then 0x7FEF9DB2 else if 0x8010624E < v.toNat then 0x8010624E else v.toNat,
          s.clock.cycles + 3)] })) ∧
    (∀ (S : Int) (target : Int), S = sInt 32 (get s.dev .time 0 0x10).toNat * 1000000000 + (get s.dev .time 0 0x14).toNat →
      target = s.clock.now / 2 ^ 30 + S → TakesWrite s m .time 0 0 1#32 →
      (999999999 < (get s.dev .time 0 0x14).toNat ∨ target < 0 ∨ 2 ^ 48 * 1000000000 ≤ target → exec (.timeStep m) s =
        .next (withDev s { put s.dev .time 0 4 (sqcEvent (get s.dev .time 0 4) 2) with
          reports := s.dev.reports ++ [{ source := 118, addr := unitBase .time 0 }] })) ∧
      ((get s.dev .time 0 0x14).toNat ≤ 999999999 → 0 ≤ target → target < 2 ^ 48 * 1000000000 →
        (s.clock.state = .free → getB s.dev .time 0 0x400 0 = false → exec (.timeStep m) s = .next { s with
          clock := { s.clock with now := target.toNat * 2 ^ 30 + s.clock.now % 2 ^ 30, state := .holdover, stepped := some s.clock.cycles }
          dev := put s.dev .time 0 4 (sqcEvent (get s.dev .time 0 4) 5) }) ∧
        (s.clock.state = .free → getB s.dev .time 0 0x400 0 = true → Answers (.timeStep m) s (fun t =>
          t.sys = s.sys ∧ t.pending = s.pending ∧
          t.clock = { s.clock with
            now := target.toNat * 2 ^ 30 + s.clock.now % 2 ^ 30, state := .holdover, stepped := some s.clock.cycles } ∧
          get t.dev .time 0 4 = sqcEvent (get s.dev .time 0 4) 5 ∧ get t.dev .time 0 0x414 = sqcEvent (get s.dev .time 0 0x414) 2 ∧
          t.dev.ctxs = s.dev.ctxs.map (fun x => { x with abandoned := true, lastTick := none }) ∧
          t.dev.reports = s.dev.reports ++ [{ source := 102, addr := sourceBase 102 }] ∧
          regsBut [unitBase .time 0 + 4, unitBase .time 0 + 0x414] s.dev t.dev)) ∧
        (s.clock.state ≠ .free → S.natAbs ≤ (get s.dev .time 0 0xC).toNat → exec (.timeStep m) s = .next { s with
          clock := { s.clock with now := target.toNat * 2 ^ 30 + s.clock.now % 2 ^ 30, stepped := some s.clock.cycles }
          dev := put s.dev .time 0 4 (sqcEvent (get s.dev .time 0 4) 1) }) ∧
        (s.clock.state ≠ .free → (get s.dev .time 0 0xC).toNat < S.natAbs → exec (.timeStep m) s = .next { s with
          clock := { s.clock with state := .holdover }
          dev := { put s.dev .time 0 4 (sqcEvent (get s.dev .time 0 4) 2) with
            reports := s.dev.reports ++ [{ source := 118, addr := unitBase .time 0 }] } }))) ∧
    (TakesWrite s m .time 0 0 2#32 → exec (.holdoverSet m) s = .next { s with
      clock := { s.clock with state := if s.clock.state = .tracking then .holdover else s.clock.state } }) ∧
    (TakesWrite s m .time 0 0 4#32 → exec (.holdoverClear m) s = .next { s with
      clock := { s.clock with state := if s.clock.state = .holdover then .tracking else s.clock.state } })

/-- Snapshots and pop registers. A read of TIME_SNAP_NS takes the reading master's snapshot of the linear time; a read of a timestamp queue's header, or
of a capture input's, takes its oldest entry off the queue and latches the entry's time for that master, or 0 where the queue is empty. Nothing else
changes. Capture inputs. An enabled edge at least the minimum interval after the last accepted one enters the input's queue with its time in half
nanoseconds, its direction and the count of edges discarded before it, and rings its doorbell; a sooner one is counted in CNT.rate, and one that finds
four entries in CNT.overflow. An input active beyond its limit is stuck: TIME_STATUS.cap_stuck and its source. It takes no edge, enabled or not, until
it becomes active again after at least the minimum interval; the edge that makes it inactive is not taken. The model's readings: assumption log 75 and
123. -/
def Obligations.TimeReadsAndCaptureInputs : Prop :=
  (∀ (s : State) (m : Fin 7),
    (∀ dt, TakesRead s m .time 0 0x20 → exec (.timeSnapNs m dt) s =
      .next (withDev (passTime s dt) { s.dev with snaps := sPut 0 s.dev.snaps m (passTime s dt).clock.now })) ∧
    (∀ q : Fin 6, TakesRead s m .time 0 (0x200 + 0x20 * q) →
      (vget s.dev.tsq q = [] → exec (.tsqPop q m) s = .next (withDev s { s.dev with latches := sPut 0 s.dev.latches (tsqKey m q) 0 })) ∧
      (∀ x l, vget s.dev.tsq q = x :: l → exec (.tsqPop q m) s = .next (withDev s { s.dev with
        tsq := vmod s.dev.tsq q (fun _ => l), latches := sPut 0 s.dev.latches (tsqKey m q) x.time }))) ∧
    (∀ n : Fin 8, TakesRead s m .time 0 (0x80C + 0x20 * n) →
      ((vget s.dev.caps n).fifo = [] → exec (.capturePop n m) s =
        .next (withDev s { s.dev with latches := sPut 0 s.dev.latches (capKey m n) 0 })) ∧
      (∀ x l, (vget s.dev.caps n).fifo = x :: l → exec (.capturePop n m) s = .next (withDev s { s.dev with
        caps := vmod s.dev.caps n (fun c => { c with fifo := l }), latches := sPut 0 s.dev.latches (capKey m n) x.time })))) ∧
  (∀ (s : State) (n : Fin 8), AonOn s →
    (∀ (sub : Fin 4) (rising : Bool) (dt : Nat), flag (capReg s.dev n 0) 31 = true → (vget s.dev.caps n).stuck = false →
      flag (capReg s.dev n 0) (if rising then 0 else 1) = true →
      ((∀ l, (vget s.dev.caps n).lastEdge = some l → l + 2 * max 20 (fld (capReg s.dev n 4) 19 0) ≤ 4 * (passTime s dt).clock.cycles + sub) →
        ((vget s.dev.caps n).fifo.length < 4 → Answers (.captureEdge n sub rising dt) s (fun t =>
          t.clock = (passTime s dt).clock ∧ t.sys = s.sys ∧ t.pending = s.pending ∧ t.dev.regs = s.dev.regs ∧
          (vget t.dev.caps n).fifo = (vget s.dev.caps n).fifo ++ [{
            rising := rising, discarded := (vget s.dev.caps n).discarded, time := ((passTime s dt).clock.now + sub * 2 ^ 29) / 2 ^ 29 }] ∧
          (vget t.dev.caps n).level = rising ∧ (vget t.dev.caps n).lastEdge = some (4 * (passTime s dt).clock.cycles + sub) ∧
            (vget t.dev.caps n).discarded = 0 ∧
          t.dev.events = s.dev.events ++
            (if 47 ≤ fld (capReg s.dev n 0) 13 8 then [{ num := fld (capReg s.dev n 0) 13 8 }] else []))) ∧
        ((vget s.dev.caps n).fifo.length = 4 → Answers (.captureEdge n sub rising dt) s (fun t =>
          (vget t.dev.caps n).fifo = (vget s.dev.caps n).fifo ∧ t.dev.events = s.dev.events ∧
          getF t.dev .time 0 (0x81C + 32 * n) 15 0 = min 65535 (getF s.dev .time 0 (0x81C + 32 * n) 15 0 + 1)))) ∧
      (∀ l, (vget s.dev.caps n).lastEdge = some l → 4 * (passTime s dt).clock.cycles + sub < l + 2 * max 20 (fld (capReg s.dev n 4) 19 0) →
        Answers (.captureEdge n sub rising dt) s (fun t =>
          (vget t.dev.caps n).fifo = (vget s.dev.caps n).fifo ∧ t.dev.events = s.dev.events ∧
          (vget t.dev.caps n).discarded = min 65535 ((vget s.dev.caps n).discarded + 1) ∧
          getF t.dev .time 0 (0x81C + 32 * n) 31 16 = min 65535 (getF s.dev .time 0 (0x81C + 32 * n) 31 16 + 1)))) ∧
    (∀ (sub : Fin 4) (rising : Bool) (dt : Nat), (vget s.dev.caps n).stuck = true → rising ≠ (vget s.dev.caps n).level →
      (rising = flag (capReg s.dev n 0) 2 → exec (.captureEdge n sub rising dt) s = .next (withDev (passTime s dt)
        (onCap s.dev n (fun c => { c with level := rising, idleAt := some (4 * (passTime s dt).clock.cycles + sub) })))) ∧
      (∀ i, rising ≠ flag (capReg s.dev n 0) 2 → (vget s.dev.caps n).idleAt = some i →
        (4 * (passTime s dt).clock.cycles + sub < i + 2 * max 20 (fld (capReg s.dev n 4) 19 0) →
          exec (.captureEdge n sub rising dt) s = .next (withDev (passTime s dt)
            (onCap s.dev n (fun c => { c with level := rising, idleAt := none })))) ∧
        (i + 2 * max 20 (fld (capReg s.dev n 4) 19 0) ≤ 4 * (passTime s dt).clock.cycles + sub → Answers (.captureEdge n sub rising dt) s (fun t =>
          (vget t.dev.caps n).stuck = false ∧ (vget t.dev.caps n).level = rising ∧
          (flag (capReg s.dev n 0) 31 = true → flag (capReg s.dev n 0) (if rising then 0 else 1) = true → (vget s.dev.caps n).fifo.length < 4 →
            (∀ l, (vget s.dev.caps n).lastEdge = some l → l + 2 * max 20 (fld (capReg s.dev n 4) 19 0) ≤ 4 * (passTime s dt).clock.cycles + sub) →
            (vget t.dev.caps n).fifo = (vget s.dev.caps n).fifo ++ [{
              rising := rising, discarded := (vget s.dev.caps n).discarded
              time := ((passTime s dt).clock.now + sub * 2 ^ 29) / 2 ^ 29 }]))))) ∧
    (flag (capReg s.dev n 0) 31 = true → (vget s.dev.caps n).stuck = false →
      (vget s.dev.caps n).level ≠ flag (capReg s.dev n 0) 2 → fld (capReg s.dev n 8) 19 0 ≠ 0 → exec (.captureStuck n) s = .next (withDev s
      { onCap (put s.dev .time 0 4 (sqcEvent (get s.dev .time 0 4) 0x20)) n (fun c => { c with stuck := true, idleAt := none }) with
        reports := s.dev.reports ++ [{ source := 121 + n, addr := sourceBase (121 + n) }] })))

/-- Firings on the time base. A trigger fires on the cycle in which the instant of a selected convoy tick falls: it starts its pulse and counts it, and
its staged set comes into force unless r ≥ m, or, less than three quarters of its period after the last firing, it is skipped with
TIME_STATUS.trig_skip and FS120; a tick that its residue does not select passes, and so does one that comes less than 1 µs after the trigger was
enabled (in the measure of assumption log 114). A control cycle raises event 36 + u on the cycle of an instant of its series, and its staged set comes
into force if its values are in range, under the same spacing, a skipped one being counted; an instant that a step on this cycle has passed over is
not made up. The end of a pulse ends it. The model's readings: assumption log 74, 114 and 136. -/
def Obligations.TriggersAndControlCyclesFire : Prop :=
  ∀ (s : State) (dt : Nat), AonOn s →
    (∀ (n : Fin 16) (k : Int) (p : Nat), trigActive s.sys.mode s.dev n = true →
      (passTime s dt).clock.stepped ≠ some (passTime s dt).clock.cycles →
        p = (get s.dev .time 0 0x404).toNat * 2 ^ 24 + getF s.dev .time 0 0x408 23 0 → 0 < p →
      ((passTime s dt).clock.now : Int) ≤ ((get s.dev .time 0 0x40C).toNat + sInt 32 (trigReg s.dev n 8).toNat) * 2 ^ 30 + k * (p * 64) →
      ((get s.dev .time 0 0x40C).toNat + sInt 32 (trigReg s.dev n 8).toNat) * 2 ^ 30 + k * (p * 64) <
        (passTime s dt).clock.now + cycleStep (passTime s dt).clock → cycleStep (passTime s dt).clock ≤ p * 64 →
      (((passTime s dt).clock.cycles * 2 ^ 31 : Nat) + ((get s.dev .time 0 0x40C).toNat * 2 ^ 30 + k * (p * 64) - (passTime s dt).clock.now) <
          (((vget s.dev.trigs n).since * 2 ^ 31 : Nat) : Int) → exec (.triggerFire n dt) s = .next (passTime s dt)) ∧
      ((((vget s.dev.trigs n).since * 2 ^ 31 : Nat) : Int) ≤ ((passTime s dt).clock.cycles * 2 ^ 31 : Nat) +
          ((get s.dev .time 0 0x40C).toNat * 2 ^ 30 + k * (p * 64) - (passTime s dt).clock.now) →
      ((k % 0xFFFFFFFF).toNat % (fld (trigReg s.dev n 4) 7 0 + 1) ≠ fld (trigReg s.dev n 4) 23 16 →
        exec (.triggerFire n dt) s = .next (passTime s dt)) ∧
      ((k % 0xFFFFFFFF).toNat % (fld (trigReg s.dev n 4) 7 0 + 1) = fld (trigReg s.dev n 4) 23 16 →
        ((∀ c, (vget s.dev.trigs n).last = some c →
            3 * ((fld (trigReg s.dev n 4) 7 0 + 1) * p) ≤ ((passTime s dt).clock.cycles - c) * 2 * 2 ^ 24 * 4) →
          ∀ (a : Nat) (keep : Bool), a = unitBase .time 0 + 0x600 + 16 * n →
            keep = decide (fld (stagedAt s.dev (a + 4)) 7 0 + 1 ≤ fld (stagedAt s.dev (a + 4)) 23 16) → Answers (.triggerFire n dt) s (fun t =>
          t.clock = (passTime s dt).clock ∧ t.sys = s.sys ∧ t.pending = s.pending ∧ stagedIn t.dev a 0xC = [] ∧
          (∀ o ∈ [0, 4, 8], trigReg t.dev n o = if keep then trigReg s.dev n o else stagedAt s.dev (a + o)) ∧
          (vget t.dev.trigs n).pulse = (keep || flag (stagedAt s.dev a) 31) ∧
          (vget t.dev.trigs n).len =
            min (max 1 (fld (trigReg s.dev n 0) 23 12) * 8 * 2 ^ 24) ((fld (trigReg s.dev n 4) 7 0 + 1) * p / 2) ∧
          (vget t.dev.trigs n).last = some (passTime s dt).clock.cycles ∧
          getF t.dev .time 0 (0x60C + 16 * n) 15 0 = (getF s.dev .time 0 (0x60C + 16 * n) 15 0 + 1) % 65536 ∧
          t.dev.reports = s.dev.reports ∧ t.dev.mem = s.dev.mem)) ∧
        (∀ c, (vget s.dev.trigs n).last = some c →
          ((passTime s dt).clock.cycles - c) * 2 * 2 ^ 24 * 4 < 3 * ((fld (trigReg s.dev n 4) 7 0 + 1) * p) →
          exec (.triggerFire n dt) s = .next (withDev (passTime s dt)
            { addSat (put s.dev .time 0 4 (sqcEvent (get s.dev .time 0 4) 8)) .time 0 (0x60C + 16 * n) 31 16 1 with
              reports := s.dev.reports ++ [{ source := 120, addr := sourceBase 120 }] }))))) ∧
    (∀ n : Fin 16, exec (.triggerPulseEnd n) s = .next (withDev s (onTrig s.dev n (fun x => { x with pulse := false })))) ∧
    (∀ (u : Fin 4) (j : Int) (per : Nat), getB s.dev .time 0 (0x100 + 16 * u) 0 = true → per = (get s.dev .time 0 (0x104 + 16 * u)).toNat →
      0 < per → ((get s.dev .time 0 (0x108 + 16 * u)).toNat + j * per) * 2 ^ 30 ≤ ((passTime s dt).clock.now : Int) →
      ((passTime s dt).clock.now : Int) < ((get s.dev .time 0 (0x108 + 16 * u)).toNat + j * per) * 2 ^ 30 + cycleStep (passTime s dt).clock →
      cycleStep (passTime s dt).clock ≤ per * 2 ^ 30 →
      ((passTime s dt).clock.stepped = some (passTime s dt).clock.cycles → exec (.controlCycleEvent u dt) s = .next (passTime s dt)) ∧
      ((passTime s dt).clock.stepped ≠ some (passTime s dt).clock.cycles →
      ((∀ c, (vget s.dev.compares u).last = some c → 3 * per ≤ ((passTime s dt).clock.cycles - c) * 2 * 4) →
        ∀ (a : Nat) (fits : Bool), a = unitBase .time 0 + 0x100 + 16 * u → fits = (decide (10000 ≤ (stagedAt s.dev (a + 4)).toNat) &&
            decide ((stagedAt s.dev (a + 4)).toNat ≤ 1000000000) &&
            decide ((stagedAt s.dev (a + 8)).toNat < (stagedAt s.dev (a + 4)).toNat)) → Answers (.controlCycleEvent u dt) s
        (fun t => t.clock = (passTime s dt).clock ∧ t.sys = s.sys ∧ t.pending = s.pending ∧ t.dev.events = s.dev.events ++ [{ num := 36 + u }] ∧
          stagedIn t.dev a 0xC = [] ∧ (∀ o ∈ [0, 4, 8], rd t.dev (a + o) = if fits then stagedAt s.dev (a + o) else rd s.dev (a + o)) ∧
          t.dev.compares = vmod s.dev.compares u (fun c => { c with last := some (passTime s dt).clock.cycles }))) ∧
      (∀ c, (vget s.dev.compares u).last = some c → ((passTime s dt).clock.cycles - c) * 2 * 4 < 3 * per → exec (.controlCycleEvent u dt) s =
        .next (withDev (passTime s dt) (onCompare (put s.dev .time 0 4 (sqcEvent (get s.dev .time 0 4) 8)) u
          (fun c => { c with skips := c.skips + 1 }))))))

/-! ### Frames -/

/-- Frame starts, ends and time-outs. A frame start reaches a context that waits for one with an image route of exposure 0 on its channel: the frame is
counted, takes the current epoch, opens with no row, and raises the context's event. Of a pending epoch entry the frame takes the epoch it targets,
and one whose write came within the guard is ambiguous, and moves one latency on where late is set. In convoys the frame takes the ID of the tick
whose window holds it, once; any other, and the first after an abandonment, is a straggler, dropped whole where CTX_CFG says so. A due set is squashed
where the frame is dropped whole or the convoys were abandoned, else it applies or is refused and squashed. A memory-fed frame closes with cause 2 at
once where the pipe is behind. A header that cannot be corrected is counted and starts nothing. A frame end is noted while another exposure's channel
has not ended; the last ends a whole frame with event 16 + c; one with more rows missing than may be concealed closes as truncated with cause 7, a
time-out with cause 3, each with the context's fault source. The model's readings: assumption log 12, 39, 41, 81, 97 and 124. -/
def Obligations.FramesStartEndAndTimeOut : Prop :=
  ∀ (s : State) (p : Fin 8) (v : Fin 16) (c : Fin 16), UnitsOn s → portLive s.dev p = true → vcSeen s.dev p v = true →
    (∀ dt, Answers (.frameStartPacket p v .bad dt) s (fun t =>
      t = withDev (passTime s dt) { s.dev with regs := t.dev.regs } ∧ getB t.dev .csi p 4 2 = true ∧
      getF t.dev .csi p 8 31 16 = min 65535 (getF s.dev .csi p 8 31 16 + 1))) ∧
    (∀ dt, StartsFrame s p v c → MayOpen s c → (∀ n : Fin 4, (drvOf s.dev n).armed = []) → (vget s.dev.ctxs c).pendings = [] →
      getB s.dev .time 0 0x400 0 = false → getB s.dev .ctx c 0 1 = false → Answers (.frameStartPacket p v .good dt) s (fun t =>
        t.clock = (passTime s dt).clock ∧ t.sys = s.sys ∧ t.pending = s.pending ∧ (vget t.dev.ctxs c).phase = .open ∧
        v.val ∉ (vget t.dev.ports p).waits ∧ get t.dev .ctx c 0x18 = get s.dev .ctx c 0x18 + 1 ∧ getB t.dev .ctx c 0x1C 31 = true ∧
          { num := c.val } ∈ t.dev.events ∧
        ∃ f, (vget t.dev.ctxs c).frames = (vget s.dev.ctxs c).frames ++ [f] ∧ f.seq = (get s.dev .ctx c 0x18 + 1).toNat ∧
          f.epoch = getF s.dev .ctx c 0x704 15 0 ∧ f.convoy = 0xFFFFFFFF ∧ f.stamp = (passTime s dt).clock.now ∧ f.ended = false ∧
          f.exps = List.replicate (getF s.dev .ctx c 0 9 8 + 1) [])) ∧
    (∀ dt (y : EpochEntry) (seq lat : Nat) (soon late : Bool), StartsFrame s p v c → MayOpen s c → (∀ n : Fin 4, (drvOf s.dev n).armed = []) →
      getB s.dev .time 0 0x400 0 = false → getB s.dev .ctx c 0 1 = false → (vget s.dev.ctxs c).pendings = [y] → y.epoch < 65536 →
      seq = (get s.dev .ctx c 0x18 + 1).toNat → lat = max 1 (getF s.dev .ctx c 0x700 2 0) → late = getB s.dev .ctx c 0x700 16 →
      soon = (decide (y.target = (seq + 2 ^ 32 - 1 + lat) % 2 ^ 32) &&
        decide ((passTime s dt).clock.cycles < y.doneAt + getF s.dev .ctx c 0x700 15 8 * 5000)) →
      Answers (.frameStartPacket p v .good dt) s (fun t => ∃ f, (vget t.dev.ctxs c).frames = (vget s.dev.ctxs c).frames ++ [f] ∧ f.seq = seq ∧
        getF t.dev .ctx c 0x704 15 0 = f.epoch ∧
        (if y.target = seq ∧ (soon = false ∨ late = false) then
          f.epoch = y.epoch ∧ f.ambiguous = (y.ambiguous || soon) ∧ (vget t.dev.ctxs c).pendings = [] ∧
            (f.ambiguous = true → getB t.dev .ctx c 0x70C 2 = true)
        else f.epoch = getF s.dev .ctx c 0x704 15 0 ∧ f.ambiguous = false ∧ (vget t.dev.ctxs c).pendings = [{ y with
          ambiguous := y.ambiguous || soon, target := if soon && late then (seq + lat) % 2 ^ 32 else y.target }]))) ∧
    (∀ dt (k x half : Int) (per : Nat), StartsFrame s p v c → MayOpen s c → (∀ n : Fin 4, (drvOf s.dev n).armed = []) →
      (vget s.dev.ctxs c).pendings = [] → getB s.dev .time 0 0x400 0 = true → getB s.dev .ctx c 0x764 31 = true → getB s.dev .ctx c 0 1 = false →
      per = (get s.dev .time 0 0x404).toNat * 2 ^ 24 + getF s.dev .time 0 0x408 23 0 →
      x = ((passTime s dt).clock.now / 64 : Nat) - ((get s.dev .ctx c 0x760).toNat + (get s.dev .time 0 0x40C).toNat) * 2 ^ 24 →
      half = min ((getF s.dev .ctx c 0x764 23 0 * 2 ^ 24 : Nat) : Int) ((((per / 2 ^ 25 : Nat) : Int) - 1) * 2 ^ 24) →
      ((x - k * per).natAbs ≤ half → (vget s.dev.ctxs c).lastTick ≠ some k → (vget s.dev.ctxs c).abandoned = false →
        Answers (.frameStartPacket p v .good dt) s (fun t => get t.dev .ctx c 0x768 = BitVec.ofNat 32 (k % 0xFFFFFFFF).toNat ∧
          (vget t.dev.ctxs c).lastTick = some k ∧ ∃ f, (vget t.dev.ctxs c).frames = (vget s.dev.ctxs c).frames ++ [f] ∧
            f.convoy = (k % 0xFFFFFFFF).toNat ∧ f.straggler = false)) ∧
      ((∀ j : Int, half < (x - j * per).natAbs) ∨ ((x - k * per).natAbs ≤ half ∧ (vget s.dev.ctxs c).lastTick = some k) ∨
          (vget s.dev.ctxs c).abandoned = true → Answers (.frameStartPacket p v .good dt) s (fun t =>
        get t.dev .ctx c 0x18 = get s.dev .ctx c 0x18 + 1 ∧ get t.dev .ctx c 0x768 = 0xFFFFFFFF#32 ∧ (vget t.dev.ctxs c).abandoned = false ∧
        (if getB s.dev .ctx c 0 12 then (vget t.dev.ctxs c).phase = .dropped ∧ (vget t.dev.ctxs c).frames = (vget s.dev.ctxs c).frames ∧
            getB t.dev .ctx c 0x14 3 = true ∧ { source := 16 + c, addr := sourceBase (16 + c) } ∈ t.dev.reports
          else getB t.dev .ctx c 0x14 2 = true ∧ ∃ f, (vget t.dev.ctxs c).frames = (vget s.dev.ctxs c).frames ++ [f] ∧
            f.convoy = 0xFFFFFFFF ∧ f.straggler = true)))) ∧
    (∀ dt (n : Fin 4) (q : StagedSet), StartsFrame s p v c → (vget s.dev.ctxs c).pendings = [] → getB s.dev .time 0 0x400 0 = false →
      (drvOf s.dev n).armed = [q] → (∀ m : Fin 4, m ≠ n → (drvOf s.dev m).armed = []) → q.ctx = c → q.handle < 8 →
      (epochReached (getF s.dev .ctx c 0x704 15 0) q.epoch = false → Answers (.frameStartPacket p v .good dt) s (fun t =>
        (drvOf t.dev n).armed = [q])) ∧
      (epochReached (getF s.dev .ctx c 0x704 15 0) q.epoch = true →
        (s.sys.mode = .idle ∨ s.sys.drain = true ∨ fenced s.dev .ctx c = true ∨ (vget s.dev.ctxs c).abandoned = true →
          Answers (.frameStartPacket p v .good dt) s (fun t => (drvOf t.dev n).armed = [] ∧ getB t.dev .drv n 0x3C q.handle = true ∧
            { num := 42, drover := some n.val } ∈ t.dev.events)) ∧
        (∀ (o : Nat) (w : Word), MayOpen s c → (vget s.dev.ctxs c).abandoned = false → q.entries = [(unitBase .ctx c + o, w)] → 4 ≤ o →
          o < 0x2000 → rwsMask (unitBase .ctx c + o) ≠ 0 → Answers (.frameStartPacket p v .good dt) s (fun t => (drvOf t.dev n).armed = [] ∧
          ((get t.dev .ctx c o = mixBits (get s.dev .ctx c o) w (rwsMask (unitBase .ctx c + o)) ∧
              getB t.dev .drv n 0x3C q.handle = getB s.dev .drv n 0x3C q.handle ∧ t.dev.events = s.dev.events ++ [{ num := c.val }]) ∨
            (get t.dev .ctx c o = get s.dev .ctx c o ∧ getB t.dev .drv n 0x3C q.handle = true ∧ getB t.dev .ctx c 0x14 9 = true ∧
              { num := 42, drover := some n.val } ∈ t.dev.events ∧
              { source := 32 + c, addr := sourceBase (32 + c) } ∈ t.dev.reports)))))) ∧
    (∀ dt, StartsFrame s p v c → MayOpen s c → (∀ n : Fin 4, (drvOf s.dev n).armed = []) → (vget s.dev.ctxs c).pendings = [] →
      getB s.dev .time 0 0x400 0 = false → getB s.dev .ctx c 0 1 = true → Answers (.frameStartPacket p v .good dt) s (fun t =>
        ∃ f, (vget t.dev.ctxs c).frames = (vget s.dev.ctxs c).frames ++ [f] ∧ f.memfed = true ∧
          (if ringBehind s.dev c f.seq then (vget t.dev.ctxs c).phase = .closed ∧ f.truncated = true ∧ f.cause = 2 ∧ getB t.dev .ctx c 0x14 0 = true
            else (vget t.dev.ctxs c).phase = .open ∧ f.truncated = false))) ∧
    (vcWaits s.dev p v = false → ctxsOnVc s.dev p v = [c.val] → (vget s.dev.ctxs c).phase = .open →
      (∃ w ∈ exposureVcs s.dev p c, w ≠ v.val ∧ w ∉ (vget s.dev.ctxs c).endedVcs) → exec (.frameEndPacket p v .good) s =
        .next (withDev s (onCtx s.dev c (fun x => { x with endedVcs := x.endedVcs ++ [v.val] })))) ∧
    (∀ f, vcWaits s.dev p v = false → openFrame s.dev c = some f → ctxsOnVc s.dev p v = [c.val] →
      (∀ w ∈ exposureVcs s.dev p c, w = v.val ∨ w ∈ (vget s.dev.ctxs c).endedVcs) →
      (missingRows f = 0 → f.cause = 0 → completeRows f < 2 ^ 14 → Answers (.frameEndPacket p v .good) s (fun t =>
        onlyDev s t ∧ (vget t.dev.ctxs c).phase = .noFrame ∧ { num := 16 + c } ∈ t.dev.events ∧
        getF t.dev .ctx c 0x1C 31 31 = 0 ∧ getF t.dev .ctx c 0x1C 13 0 = completeRows f ∧
        ∃ g, (vget t.dev.ctxs c).frames.getLast? = some g ∧ g.seq = f.seq ∧ g.ended = true ∧ g.truncated = f.truncated ∧ g.exps = f.exps)) ∧
      (concealLimit f < f.concealed + missingRows f → 0 < missingRows f → Answers (.frameEndPacket p v .good) s (fun t =>
        onlyDev s t ∧ (vget t.dev.ctxs c).phase = .closed ∧ getB t.dev .ctx c 0x14 0 = true ∧
        { source := 16 + c, addr := sourceBase (16 + c) } ∈ t.dev.reports ∧
        ∃ g, (vget t.dev.ctxs c).frames.getLast? = some g ∧ g.seq = f.seq ∧ g.ended = true ∧ g.truncated = true ∧ g.cause = 7))) ∧
    (openFrame s.dev c = none → exec (.frameTimeout c) s = .next s) ∧
    (∀ f, openFrame s.dev c = some f → Answers (.frameTimeout c) s (fun t =>
      onlyDev s t ∧ (vget t.dev.ctxs c).phase = .closed ∧ getB t.dev .ctx c 0x14 0 = true ∧ getB t.dev .ctx c 0x14 7 = true ∧
      getF t.dev .ctx c 0x20 15 0 = min 65535 (getF s.dev .ctx c 0x20 15 0 + 1) ∧
      { source := 16 + c, addr := sourceBase (16 + c) } ∈ t.dev.reports ∧ { num := 16 + c } ∈ t.dev.events ∧ t.dev.mem = s.dev.mem ∧
      ∃ g, (vget t.dev.ctxs c).frames.getLast? = some g ∧ g.seq = f.seq ∧ g.ended = true ∧ g.truncated = true ∧ g.cause = 3))

/-- Lines. A good image line of the right length enters the exposure that its route names as the next row of the open in-line frame, its codes unpacked by
its data type or the route's packing; one with a bad CRC or length is concealed while the limit allows; with no frame open it is an orphan, whose
frame is counted as started and as an orphan. An embedded line is kept for its context without its packing bytes; a short packet of an accepted type
changes nothing; a packet of a type that the port does not accept, or that no route takes, is counted as unrouted. On a channel that waits for a frame
start after a reset of the receiver nothing is delivered. The model's readings: assumption log 12, 90, 97, 98, 99, 100 and 125. -/
def Obligations.LinesEnterTheirFrames : Prop :=
  ∀ (s : State) (p : Fin 8) (v : Fin 16) (dt : Fin 64) (bytes : List Byte), UnitsOn s → portLive s.dev p = true →
    vcSeen s.dev p v = true →
    (vcWaits s.dev p v = true → ∀ q ∈ [Instr.frameEndPacket p v .good, .imageLineReceived p v dt .good bytes true false,
      .embeddedLineReceived p v .good bytes true, .shortPacketIgnored p v dt .good], exec q s = .next s) ∧
    (vcWaits s.dev p v = false →
    (∀ r, dtAccepted dt = true → dt.val ≠ 0x12 → routeFor s.dev p v dt = some r → r.role = 0 → ctxOn s.dev p r.ctx = true → r.ctx < 16 →
      (∀ f, openFrame s.dev r.ctx = some f → f.memfed = false → r.exposure < f.exps.length →
        (f.exps.getD r.exposure []).length < frameHeight f → bytes.length * 8 = frameWidth f * packBits r.pack dt →
        Answers (.imageLineReceived p v dt .good bytes true false) s (fun t =>
          t = withDev s { s.dev with ctxs := t.dev.ctxs } ∧ (∀ k, k ≠ r.ctx → vget t.dev.ctxs k = vget s.dev.ctxs k) ∧
          (vget t.dev.ctxs r.ctx).frames = (vget s.dev.ctxs r.ctx).frames.dropLast ++ [{ f with
            exps := lmod f.exps r.exposure (fun l => l ++ [{
              bits := packBits r.pack dt, codes := unpackCodes (packBits r.pack dt) bytes, black := false }]) }])) ∧
      (∀ f, openFrame s.dev r.ctx = some f → f.memfed = false → r.exposure < f.exps.length →
        (f.exps.getD r.exposure []).length < frameHeight f → f.concealed < concealLimit f →
        ∀ crc, (crc = false ∨ bytes.length * 8 ≠ frameWidth f * packBits r.pack dt) →
        Answers (.imageLineReceived p v dt .good bytes crc false) s (fun t =>
          onlyDev s t ∧ getB t.dev .ctx r.ctx 0x14 1 = true ∧
          (crc = false → getB t.dev .csi p 4 3 = true ∧
            getF t.dev .csi p 0xC 31 16 = min 65535 (getF s.dev .csi p 0xC 31 16 + 1)) ∧
          ∃ g row, (vget t.dev.ctxs r.ctx).frames = (vget s.dev.ctxs r.ctx).frames.dropLast ++ [g] ∧ g.concealed = f.concealed + 1 ∧
            g.exps = lmod f.exps r.exposure (fun l => l ++ [row]))) ∧
      ((vget s.dev.ctxs r.ctx).phase = .noFrame → (∀ n : Fin 4, (drvOf s.dev n).armed = []) →
        Answers (.imageLineReceived p v dt .good bytes true false) s (fun t =>
          onlyDev s t ∧ (vget t.dev.ctxs r.ctx).phase = .orphan ∧ (vget t.dev.ctxs r.ctx).frames = (vget s.dev.ctxs r.ctx).frames ∧
          get t.dev .ctx r.ctx 0x18 = get s.dev .ctx r.ctx 0x18 + 1 ∧
          getF t.dev .ctx r.ctx 0x20 31 16 = min 65535 (getF s.dev .ctx r.ctx 0x20 31 16 + 1) ∧ getB t.dev .ctx r.ctx 0x14 4 = true)) ∧
      ((vget s.dev.ctxs r.ctx).phase ∈ [.orphan, .closed, .dropped] → exec (.imageLineReceived p v dt .good bytes true false) s = .next s)) ∧
    (∀ r f, routeFor s.dev p v 0x12 = some r → r.role = 1 → ctxOn s.dev p r.ctx = true → r.ctx < 16 → openFrame s.dev r.ctx = some f →
      touchedRows f = 0 → (vget s.dev.ctxs r.ctx).edTop < fld (pw f.params 0x80) 2 0 →
      exec (.embeddedLineReceived p v .good bytes true) s = .next (withDev s (onCtx s.dev r.ctx (fun x => { x with
        edTop := x.edTop + 1, embedded := x.embedded ++ [(x.edTop, edUnpack (fld (pw f.params 0x80) 9 8) bytes)] })))) ∧
    (dtAccepted dt = true → exec (.shortPacketIgnored p v dt .good) s = .next s) ∧
    (∀ q ∈ (if dtAccepted dt = false then [Instr.shortPacketIgnored p v dt .good, .imageLineReceived p v dt .good bytes true false]
        else if routeFor s.dev p v dt = none then [.imageLineReceived p v dt .good bytes true false] else []), Answers q s (fun t =>
        t = withDev s { s.dev with regs := t.dev.regs } ∧ getB t.dev .csi p 4 4 = true ∧
        getF t.dev .csi p 0xC 15 0 = min 65535 (getF s.dev .csi p 0xC 15 0 + 1))))

/-- Ports and epoch writes. A stuck lane closes the port's open frames and resets its receiver, with CSI_STATUS.hs_timeout and port_reset and the port's
source; port_reset does the same without status or source; a reset that is done lets the port receive again, each channel from its next frame start
on. Enabling a port latches its configuration; disabling it closes its open frames with cause 5; clear_counters clears both counters. An epoch write,
marked by software or registered for a two-wire write, raises issued and adds a pending entry that targets CTX_FRAME + L. The model's readings:
assumption log 8 and 97. -/
def Obligations.PortsAndEpochWrites : Prop :=
  ∀ (s : State) (p : Fin 8) (m : Fin 7) (v : Word),
    (UnitsOn s → portLive s.dev p = true → Answers (.hsTimeout p) s (fun t =>
      onlyDev s t ∧ (vget t.dev.ports p).resetting = true ∧ getB t.dev .csi p 4 6 = true ∧ getB t.dev .csi p 4 7 = true ∧
      { source := 8 + p, addr := sourceBase (8 + p) } ∈ t.dev.reports ∧
      ∀ c : Fin 16, ctxPort s.dev c = p → openFrame t.dev c = none)) ∧
    (UnitsOn s → (vget s.dev.ports p).resetting = true → exec (.portResetDone p) s =
      .next (withDev s (onPort s.dev p (fun x => { x with resetting := false, waits := List.range 16 })))) ∧
    (UnitsOn s → (vget s.dev.ports p).resetting = false → exec (.portResetDone p) s = .next s) ∧
    (TakesWrite s m .csi p 0 (setBit v 0) → getB s.dev .csi p 0 0 = false → Answers (.csiEnable p m v) s (fun t =>
      t = withDev s { s.dev with regs := t.dev.regs, ports := t.dev.ports } ∧ getB t.dev .csi p 0 0 = true ∧
      (vget t.dev.ports p).latched = get t.dev .csi p 0 ∧ (vget t.dev.ports p).resetting = (vget s.dev.ports p).resetting)) ∧
    (TakesWrite s m .csi p 0 (clearBit v 0) → getB s.dev .csi p 0 0 = true → Answers (.csiDisable p m v) s (fun t =>
      onlyDev s t ∧ getB t.dev .csi p 0 0 = false ∧ t.dev.mem = s.dev.mem ∧
      ∀ c : Fin 16, ctxPort s.dev c = p → openFrame t.dev c = none ∧
        (∀ f, openFrame s.dev c = some f → ∃ g, (vget t.dev.ctxs c).frames.getLast? = some g ∧ g.seq = f.seq ∧ g.truncated = true ∧ g.cause = 5))) ∧
    (TakesWrite s m .csi p 0x10 2#32 → Answers (.csiPortReset p m) s (fun t =>
      onlyDev s t ∧ (vget t.dev.ports p).resetting = true ∧ get t.dev .csi p 4 = get s.dev .csi p 4 ∧
      (∀ r ∈ t.dev.reports, r ∈ s.dev.reports ∨ r.source ≠ 8 + p) ∧
      ∀ c : Fin 16, ctxPort s.dev c = p → openFrame t.dev c = none)) ∧
    (TakesWrite s m .csi p 0x10 1#32 → exec (.csiClearCounters p m) s =
      .next (withDev s (put (put s.dev .csi p 8 0) .csi p 0xC 0))) ∧
    (∀ (c : Fin 16) (dt : Nat), (vget s.dev.ctxs c).pendings = [] →
      (TakesWrite s m .ctx c 0x708 (setBit v 0) → Answers (.epochMark c m v) s (fun t =>
        onlyDev s t ∧ getF t.dev .ctx c 0x704 31 16 = (getF s.dev .ctx c 0x704 31 16 + 1) % 65536 ∧
        getF t.dev .ctx c 0x704 15 0 = getF s.dev .ctx c 0x704 15 0 ∧
        (vget t.dev.ctxs c).pendings = [{
            epoch := (getF s.dev .ctx c 0x704 31 16 + 1) % 65536, doneAt := s.clock.cycles
            target := ((get s.dev .ctx c 0x18).toNat + max 1 (getF s.dev .ctx c 0x700 2 0)) % 2 ^ 32 }])) ∧
      (UnitsOn s → 0 < (vget s.dev.ctxs c).epochDue → Answers (.epochWriteRegistered c dt) s (fun t =>
        (vget t.dev.ctxs c).epochDue = (vget s.dev.ctxs c).epochDue - 1 ∧
        getF t.dev .ctx c 0x704 31 16 = (getF s.dev .ctx c 0x704 31 16 + 1) % 65536 ∧
        (vget t.dev.ctxs c).pendings = [{
            epoch := (getF s.dev .ctx c 0x704 31 16 + 1) % 65536, doneAt := (passTime s dt).clock.cycles
            target := ((get s.dev .ctx c 0x18).toNat + max 1 (getF s.dev .ctx c 0x700 2 0)) % 2 ^ 32 }])) ∧
      (UnitsOn s → (vget s.dev.ctxs c).epochDue = 0 → exec (.epochWriteRegistered c dt) s = .next (passTime s dt)))

/-! ### Pipes, the pan, harvest, views and taps -/

/-- Rows and stripes, in a mode in which the pipes' clocks run. An in-line row that is ready starts on a free pipe, or after the pixel phase of a Bank M
row, which is then suspended. A row that is done counts its clocks and moves its frame on by one item; the ring stripe whose last row it was is
released, an in-line row that is ready comes next, and no byte of the pan outside the buffers of active taps changes. A stripe of the running slot
that is not over stays; one that is over, in a slot that may start no further stripe, ends the slot's work. Slots, in a mode in which the pipes'
clocks run. A period start shows the shares of the period that ends, begins the clock counts anew, counts a slot still due as idle with its event,
applies a good staged timetable or refuses a bad one, and makes slot 0 the next where the pipe is enabled. A slot window that opens over a running
stripe is an overrun, once for that stripe; one of a slot that idles, or whose run-ahead does not hold, is counted, the active half is saved and event
32 + p raised; one whose run-ahead holds begins. A restore that is done is marked so and reads the frame's next row from its waystation; a swap that
is done ends; a save writes the waystation of its context, with its frame sequence first, and no byte of the pan outside it. The model's readings:
assumption log 15, 46, 47, 102, 103, 104, 127 and 144. -/
def Obligations.PipesRunRowsStripesAndSlots : Prop :=
  (∀ (s : State) (p : Fin 4), UnitsOn s → s.sys.mode ≠ .idle →
    (∀ turn, inlineReady s.dev p = none → exec (.inlineRowReady p turn) s = .next s) ∧
    (∀ c q, inlineReady s.dev p = some (c, q) →
      ((vget s.dev.pipes p).row = none → ∀ turn, exec (.inlineRowReady p turn) s =
        .next (withDev s (onPipe s.dev p (fun x => { x with row := some { ctx := c, inline := true }, waiting := false })))) ∧
      (∀ j, (vget s.dev.pipes p).row = some j →
        (j.inline = true → ∀ turn, exec (.inlineRowReady p turn) s = .next s) ∧
        (j.inline = false →
          exec (.inlineRowReady p true) s = .next (withDev s (onPipe s.dev p (fun x => { x with
            row := some { ctx := c, inline := true }, suspended := true, waiting := false }))) ∧
          exec (.inlineRowReady p false) s = .next (withDev s (onPipe s.dev p (fun x => { x with waiting := true })))))) ∧
    ((vget s.dev.pipes p).row = none → exec (.pipeRowDone p) s = .next s) ∧
    (∀ j f, (vget s.dev.pipes p).row = some j → j.ctx < 16 →
      (if j.inline then oldestI s.dev p j.ctx else oldestM s.dev j.ctx) = some f →
      (framesOf s.dev j.ctx).find? (fun x => decide (x.seq = f.seq)) = some f → f.ended = false → Answers (.pipeRowDone p) s (fun t =>
        onlyDev s t ∧
        (vget t.dev.pipes p).busyClk = (vget s.dev.pipes p).busyClk + (128 + (frameWidth f + 1) / 2) + (if j.inline then 32 else 0) ∧
        (vget t.dev.pipes p).inlineClk =
          (vget s.dev.pipes p).inlineClk + (if j.inline then 128 + (frameWidth f + 1) / 2 + 32 else 0) ∧
        (∃ g, (framesOf t.dev j.ctx).find? (fun x => decide (x.seq = f.seq)) = some g ∧ g.items = f.items + 1 ∧ g.begun = true ∧
          g.released = f.released + (if f.memfed ∧ f.items < completeRows f ∧
            ((f.items + 1) % stripeRows f.profile = 0 ∨ f.items + 1 = frameHeight f) then 1 else 0)) ∧
        (∀ q, inlineReady t.dev p = some q → (vget t.dev.pipes p).row = some { ctx := q.1, inline := true }) ∧
        ∀ a, (∀ k : Fin 4, (vget s.dev.taps k).active = true →
            a < panBase + fld (tapReg s.dev k 8) 24 12 * 0x1000 ∨
            panBase + (fld (tapReg s.dev k 8) 24 12 + fld (tapReg s.dev k 8) 8 0) * 0x1000 ≤ a) →
          memByte t.dev a = memByte s.dev a)) ∧
    (∀ f, (vget s.dev.pipes p).stripe = true → oldestM s.dev (vget s.dev.pipes p).slotCtx = some f →
      (f.items < (vget s.dev.pipes p).stripeEnd → exec (.stripeDone p) s = .next s) ∧
      (∀ k : Fin 64, (vget s.dev.pipes p).stripeEnd ≤ f.items → (vget s.dev.pipes p).due = none → (vget s.dev.pipes p).slot = some k.val →
        (vget s.dev.pipes p).slotCtx < 16 → (vget s.dev.pipes p).swap = .none →
        getF s.dev .pipe p (0x100 + 4 * k) 13 8 ≤ (vget s.dev.pipes p).started → Answers (.stripeDone p) s (fun t =>
          onlyDev s t ∧ t.dev.mem = s.dev.mem ∧ t.dev.ctxs = s.dev.ctxs ∧ (vget t.dev.pipes p).stripe = false ∧
          (vget t.dev.pipes p).late = false ∧ (vget t.dev.pipes p).row = (vget s.dev.pipes p).row ∧ getB t.dev .pipe p 0x14 31 = false ∧
          getF t.dev .pipe p 0x14 13 0 = f.items % 2 ^ 14)))) ∧
  (∀ (s : State) (p : Fin 4) (clk : Nat), UnitsOn s → s.sys.mode ≠ .idle →
    clk = max 1 (getF s.dev .pipe p 0 11 0 * (if (vget s.dev.pipes p).clock = 3 then 800 else 1200)) →
    (stagedIn s.dev (unitBase .pipe p) 0x2000 = [] → Answers (.pipeTtPeriodStart p) s (fun t =>
      onlyDev s t ∧ t.dev.mem = s.dev.mem ∧ (vget t.dev.pipes p).inlineClk = 0 ∧ (vget t.dev.pipes p).busyClk = 0 ∧
      (vget t.dev.pipes p).due = none ∧ t.dev.reports = s.dev.reports ∧
      ((vget s.dev.pipes p).running = true →
        getF t.dev .pipe p 0x18 25 16 = min 1023 (rdivN ((vget s.dev.pipes p).inlineClk * 1024) clk) ∧
        getF t.dev .pipe p 0x18 9 0 = min 1023 (rdivN ((vget s.dev.pipes p).busyClk * 1024) clk)) ∧
      ((vget s.dev.pipes p).running = false → get t.dev .pipe p 0x18 = get s.dev .pipe p 0x18) ∧
      (getB s.dev .pipe p 0 31 = true → (vget t.dev.pipes p).running = true ∧ (vget t.dev.pipes p).slot = none) ∧
      ((vget s.dev.pipes p).due = none → regsBut [unitBase .pipe p + 0x18] s.dev t.dev ∧ t.dev.events = s.dev.events) ∧
      ((vget s.dev.pipes p).due ≠ none → { num := 32 + p } ∈ t.dev.events ∧
        getF t.dev .pipe p 0xC 15 0 = min 65535 (getF s.dev .pipe p 0xC 15 0 + 1)))) ∧
    (stagedIn s.dev (unitBase .pipe p) 0x2000 ≠ [] → getB s.dev .pipe p 4 0 = false → ttOk s.dev p = true →
      Answers (.pipeTtPeriodStart p) s (fun t =>
        onlyDev s t ∧ stagedIn t.dev (unitBase .pipe p) 0x2000 = [] ∧ get t.dev .pipe p 0 = stagedAt s.dev (unitBase .pipe p) ∧
        (∀ k, k < 64 → get t.dev .pipe p (0x100 + 4 * k) = stagedAt s.dev (unitBase .pipe p + 0x100 + 4 * k)) ∧
        ((vget t.dev.pipes p).running = getB t.dev .pipe p 0 31) ∧ t.dev.reports = s.dev.reports)) ∧
    (stagedIn s.dev (unitBase .pipe p) 0x2000 ≠ [] → getB s.dev .pipe p 4 0 = false → ttOk s.dev p = false →
      Answers (.pipeTtPeriodStart p) s (fun t =>
        onlyDev s t ∧ stagedIn t.dev (unitBase .pipe p) 0x2000 = [] ∧ getB t.dev .pipe p 8 0 = true ∧
        get t.dev .pipe p 0 = get s.dev .pipe p 0 ∧ { source := 64 + p, addr := sourceBase (64 + p) } ∈ t.dev.reports)) ∧
    ((vget s.dev.pipes p).running = false → exec (.pipeSlotBoundary p) s = .next s) ∧
    ((vget s.dev.pipes p).running = true → (vget s.dev.pipes p).stripe = true →
      (∀ k, (vget s.dev.pipes p).due = none → k = nextSlot (vget s.dev.pipes p) → k < ttCount s.dev p →
        ((vget s.dev.pipes p).late = true →
          exec (.pipeSlotBoundary p) s = .next (withDev s (onPipe s.dev p (fun x => { x with due := some k })))) ∧
        ((vget s.dev.pipes p).late = false → Answers (.pipeSlotBoundary p) s (fun t =>
          onlyDev s t ∧ t.dev.pipes = vmod s.dev.pipes p (fun x => { x with due := some k, late := true }) ∧ getB t.dev .pipe p 8 2 = true ∧
          getF t.dev .pipe p 0x10 31 16 = min 65535 (getF s.dev .pipe p 0x10 31 16 + 1) ∧
          t.dev.reports = s.dev.reports ++ [{ source := 64 + p, addr := sourceBase (64 + p) }]))) ∧
      (∀ j, (vget s.dev.pipes p).late = true → (vget s.dev.pipes p).due = some j → j + 1 < ttCount s.dev p →
        Answers (.pipeSlotBoundary p) s (fun t =>
          onlyDev s t ∧ (vget t.dev.pipes p).due = some (j + 1) ∧ { num := 32 + p } ∈ t.dev.events ∧
          getF t.dev .pipe p 0xC 15 0 = min 65535 (getF s.dev .pipe p 0xC 15 0 + 1) ∧
          get t.dev .pipe p 0x10 = get s.dev .pipe p 0x10 ∧ t.dev.reports = s.dev.reports))) ∧
    (∀ k c, (vget s.dev.pipes p).running = true → (vget s.dev.pipes p).stripe = false → (vget s.dev.pipes p).due = none →
      k = nextSlot (vget s.dev.pipes p) → k < ttCount s.dev p → c = getF s.dev .pipe p (0x100 + 4 * k) 3 0 →
      (slotIdles s.dev p k = true ∨ (vget s.dev.pipes p).ahead = none ∨ (∃ a, (vget s.dev.pipes p).ahead = some a ∧
          (a.slot ≠ k ∨ a.ctx ≠ c ∨ aheadHolds s.dev a = false)) → Answers (.pipeSlotBoundary p) s (fun t =>
        onlyDev s t ∧ t.dev.mem = s.dev.mem ∧ (vget t.dev.pipes p).slot = some k ∧ (vget t.dev.pipes p).slotRuns = false ∧
        (vget t.dev.pipes p).active = none ∧ (vget t.dev.pipes p).swap = .none ∧
        (vget t.dev.pipes p).saving = (vget s.dev.pipes p).saving ++ (vget s.dev.pipes p).active.toList ∧
        getF t.dev .pipe p 0xC 15 0 = min 65535 (getF s.dev .pipe p 0xC 15 0 + 1) ∧
        getF t.dev .pipe p 0xC 31 16 =
          min 65535 (getF s.dev .pipe p 0xC 31 16 + (if (vget s.dev.pipes p).ahead = none then 0 else 1)) ∧
        t.dev.reports = s.dev.reports ∧ { num := 32 + p } ∈ t.dev.events)) ∧
      (∀ a, (vget s.dev.pipes p).ahead = some a → slotIdles s.dev p k = false → a.slot = k → a.ctx = c → aheadHolds s.dev a = true →
        (a.same = true → (vget s.dev.pipes p).active = some c → Answers (.pipeSlotBoundary p) s (fun t =>
          onlyDev s t ∧ (vget t.dev.pipes p).slot = some k ∧ (vget t.dev.pipes p).slotRuns = true ∧
          (vget t.dev.pipes p).active = some c ∧ (vget t.dev.pipes p).saving = (vget s.dev.pipes p).saving ∧
          (vget t.dev.pipes p).swap = .none ∧ { num := 32 + p } ∈ t.dev.events)) ∧
        (a.same = false → ownerServed s.dev (0x14 + p) = true → Answers (.pipeSlotBoundary p) s (fun t =>
          onlyDev s t ∧ t.dev.mem = s.dev.mem ∧ (vget t.dev.pipes p).slot = some k ∧ (vget t.dev.pipes p).slotRuns = true ∧
          (vget t.dev.pipes p).active = some c ∧
          (a.restored = true → (vget t.dev.pipes p).swap = .swapping ∧ get t.dev .pipe p 0x10 = get s.dev .pipe p 0x10) ∧
          (a.restored = false → (vget t.dev.pipes p).swap = .waitRestore ∧ getB t.dev .pipe p 8 3 = true ∧
            getF t.dev .pipe p 0x10 15 0 = min 65535 (getF s.dev .pipe p 0x10 15 0 + 1)) ∧
          { num := 32 + p } ∈ t.dev.events)))) ∧
    ((vget s.dev.pipes p).swap ≠ .swapping → exec (.slotSwapDone p) s = .next s) ∧
    ((vget s.dev.pipes p).swap = .swapping → Answers (.slotSwapDone p) s (fun t =>
      onlyDev s t ∧ t.dev.mem = s.dev.mem ∧ (vget t.dev.pipes p).swap = .none ∧
      (vget t.dev.pipes p).busyClk = (vget s.dev.pipes p).busyClk + 512 ∧ (vget t.dev.pipes p).slot = (vget s.dev.pipes p).slot)) ∧
    (∀ a, (vget s.dev.pipes p).ahead = some a → a.restored = false → ownerServed s.dev (0x14 + p) = true →
      (vget s.dev.pipes p).saving = [] → ∀ base, base = panBase + getF s.dev .ctx a.ctx 0x748 24 12 * 0x1000 →
      (s.dev.badLines = [] → framesOf s.dev a.ctx = [] → (vget s.dev.ctxs a.ctx).saved = false →
        ((vget s.dev.pipes p).swap = .waitRestore → exec (.waystationRestoreDone p) s =
          .next (withDev s (onPipe s.dev p (fun x => { x with ahead := none, swap := .swapping })))) ∧
        ((vget s.dev.pipes p).swap ≠ .waitRestore → exec (.waystationRestoreDone p) s =
          .next (withDev s (onPipe s.dev p (fun x => { x with ahead := some { a with restored := true } }))))) ∧
      (∀ f, a.ctx < 16 → (framesOf s.dev a.ctx).find? (fun x => decide (x.seq = a.seq)) = some f → (vget s.dev.ctxs a.ctx).saved = true →
        (∀ l ∈ s.dev.badLines, l + 64 ≤ base ∨ base + 64 ≤ l) → Answers (.waystationRestoreDone p) s (fun t =>
          onlyDev s t ∧ t.dev.mem = s.dev.mem ∧
          (∃ g, (framesOf t.dev a.ctx).find? (fun x => decide (x.seq = a.seq)) = some g ∧
            g.items = (if memVal s.dev 4 base = a.seq then min (memVal s.dev 2 (base + 4)) f.items else 0)) ∧
          ((∃ l ∈ s.dev.badLines, base ≤ l ∧ l < base + wsSize (profileEff s.dev) (getF s.dev .ctx a.ctx 4 13 0)) →
            getB t.dev .pipe p 8 4 = true)))) ∧
    ((vget s.dev.pipes p).saving = [] → exec (.waystationSaveDone p) s = .next s) ∧
    (∀ c rest, (vget s.dev.pipes p).saving = c :: rest → ∀ w, w = getF s.dev .ctx c 0x748 24 12 * 0x1000 →
      ownerServed s.dev (0x14 + p) = true → Answers (.waystationSaveDone p) s (fun t =>
        onlyDev s t ∧ (vget t.dev.pipes p).saving = rest ∧ t.dev.regs = s.dev.regs ∧ (c < 16 → (vget t.dev.ctxs c).saved = true) ∧
        memVal t.dev 4 (panBase + w) = ((oldestM s.dev c).getD { seq := (get s.dev .ctx c 0x18).toNat }).seq % 2 ^ 32 ∧
        memVal t.dev 2 (panBase + w + 4) = ((oldestM s.dev c).getD { seq := 0 }).items % 2 ^ 16 ∧
        ∀ b, b < panBase + w ∨ panBase + w + wsSize (profileEff s.dev) (getF s.dev .ctx c 4 13 0) ≤ b →
          memByte t.dev b = memByte s.dev b)))

/-- Toll visits and the scrubber. A visit of a drover owner's position serves the oldest request of the drover whose turn it is: a load gets its bytes, a
store reads its line at one visit and writes at the next, and the turn passes from the first of the owner's two drovers to the second, or back; a read
half that finds its line uncorrectable is reported with the requester, and the write's second visit changes nothing. A visit of any other owner, and
of the boot ROM that shares position 4, serves the line that the owner wants of the bank, and a corrected one is counted and due for the scrubber;
with no request, or with its unit fenced, it idles and is counted so, and a bank without power does nothing. A visit of owner 1 is the scrubber's
where it has a corrected line due in the bank. A scrubbed line that is clean and unmarked changes nothing, a corrected one counts, an uncorrectable
one counts and is reported with requester 8 and access type engine. The model's readings: assumption log 48, 49 and 105. -/
def Obligations.TollVisitsAndScrubbing : Prop :=
  ∀ (s : State) (b : Fin 8) (k : Nat) (o : Nat), UnitsOn s → o = getF s.dev .toll 0 (0x100 + 4 * ((k + 128 - 4 * b) % 32)) 5 0 →
    (bankOn s.dev b = false → ∀ busy cor, exec (.tollVisit b k busy cor) s = .next s) ∧
    (bankOn s.dev b = true → o = 1 → ∀ l busy cor,
      s.dev.softLines.find? (fun l => decide ((l - panBase) / 64 % 8 = b.val)) = some l → badAt s.dev l = false →
        exec (.tollVisit b k busy cor) s = .next (withDev s
          (put { s.dev with softLines := s.dev.softLines.filter (· ≠ l) } .toll 0 0x204 (get s.dev .toll 0 0x204 + 1)))) ∧
    (bankOn s.dev b = true → ((o = 1 ∧ ∀ l ∈ s.dev.softLines, (l - panBase) / 64 % 8 ≠ b.val) ∨ (o = 4 ∧ visitReq s.dev o b = none) ∨
        ((o ∈ [2, 3] ∨ (8 ≤ o ∧ o ≤ 0x1E)) ∧ ownerUnitFenced s.dev o = false)) →
      (∀ cor, exec (.tollVisit b k none cor) s = .next (withDev s (put s.dev .toll 0 0x200 (get s.dev .toll 0 0x200 + 1)))) ∧
      (∀ n : Fin 524288,
        (∀ a, a = (if n.val % 8 = b then 0x200 + 4 * o else 0x200) →
          exec (.tollVisit b k (some n) false) s = .next (withDev s (put s.dev .toll 0 a (get s.dev .toll 0 a + 1)))) ∧
        (n.val % 8 = b → badAt s.dev (panBase + 64 * n) = false → Answers (.tollVisit b k (some n) true) s (fun t =>
          onlyDev s t ∧ t.dev.mem = s.dev.mem ∧ panBase + 64 * n.val ∈ t.dev.softLines ∧
          get t.dev .toll 0 (0x200 + 4 * o) = get s.dev .toll 0 (0x200 + 4 * o) + 1 ∧
          getF t.dev .customs 0 (0xC0 + 4 * b) 15 0 = min 65535 (getF s.dev .customs 0 (0xC0 + 4 * b) 15 0 + 1))))) ∧
    (bankOn s.dev b = true → ((o = 5 ∧ visitReq s.dev o b = none) ∨ o ∈ [0, 6, 7] ∨ 0x1F ≤ o ∨
        (o ∈ [2, 3] ∨ (8 ≤ o ∧ o ≤ 0x1E)) ∧ ownerUnitFenced s.dev o = true) → ∀ busy cor, exec (.tollVisit b k busy cor) s =
      .next (withDev s (put s.dev .toll 0 0x200 (get s.dev .toll 0 0x200 + 1)))) ∧
    (bankOn s.dev b = true → o ∈ [4, 5] →
      (∀ i r busy cor, visitReq s.dev o b = some i → s.dev.panReqs[i]? = some r → r.drover < 4 →
        (r.void = true → Answers (.tollVisit b k busy cor) s (fun t =>
          onlyDev s t ∧ t.dev.mem = s.dev.mem ∧ t.dev.panReqs = s.dev.panReqs.eraseIdx i ∧ t.dev.reports = s.dev.reports ∧
          get t.dev .toll 0 (0x200 + 4 * o) = get s.dev .toll 0 (0x200 + 4 * o) + 1)) ∧
        (r.void = false → badAt s.dev r.addr = true → (r.write = false ∨ r.half = false) → Answers (.tollVisit b k busy cor) s (fun t =>
          onlyDev s t ∧ t.dev.mem = s.dev.mem ∧
          t.dev.panReqs = (if r.write then lmod s.dev.panReqs i (fun q => { q with half := true, void := true }) else s.dev.panReqs.eraseIdx i) ∧
          t.dev.reports = s.dev.reports ++ [{
            source := 132 + (lineOf r.addr - panBase) / 64 % 8, master := 2 + r.drover, access := if r.write then 2 else 1, addr := lineOf r.addr }] ∧
          (r.write = false → (drvOf t.dev r.drover).load = (drvOf s.dev r.drover).load.map (fun l => { l with reply := some none })) ∧
          get t.dev .toll 0 (0x200 + 4 * o) = get s.dev .toll 0 (0x200 + 4 * o) + 1))) ∧
      (∀ i r busy, visitReq s.dev o b = some i → s.dev.panReqs[i]? = some r → badAt s.dev r.addr = false → r.void = false →
        r.drover < 4 →
        Answers (.tollVisit b k busy false) s (fun t =>
          (o * 8 + b.val ∈ t.dev.panTurn ↔ r.drover = (ownerDrovers o).1)) ∧
        (r.write = false ∨ r.half = false → Answers (.tollVisit b k busy true) s (fun t => lineOf r.addr ∈ t.dev.softLines ∧
          getF t.dev .customs 0 (0xC0 + 4 * ((lineOf r.addr - panBase) / 64 % 8)) 15 0 =
            min 65535 (getF s.dev .customs 0 (0xC0 + 4 * ((lineOf r.addr - panBase) / 64 % 8)) 15 0 + 1))) ∧
        (r.write = false → Answers (.tollVisit b k busy false) s (fun t =>
          onlyDev s t ∧ t.dev.mem = s.dev.mem ∧ t.dev.panReqs = s.dev.panReqs.eraseIdx i ∧
          (drvOf t.dev r.drover).load = (drvOf s.dev r.drover).load.map (fun l =>
            { l with reply := some (some (BitVec.ofNat 32 (memVal s.dev r.width r.addr))) }) ∧
          get t.dev .toll 0 (0x200 + 4 * o) = get s.dev .toll 0 (0x200 + 4 * o) + 1)) ∧
        (r.write = true → r.half = false → Answers (.tollVisit b k busy false) s (fun t =>
          onlyDev s t ∧ t.dev.mem = s.dev.mem ∧ t.dev.panReqs = lmod s.dev.panReqs i (fun q => { q with half := true }) ∧
          t.dev.drvs = s.dev.drvs)) ∧
        (r.write = true → r.half = true → Answers (.tollVisit b k busy false) s (fun t =>
          onlyDev s t ∧ t.dev.panReqs = s.dev.panReqs.eraseIdx i ∧
          (∀ j, j < r.width → (memByte t.dev (r.addr + j)).toNat = r.data.toNat / 256 ^ j % 256) ∧
          ∀ q, q < r.addr ∨ r.addr + r.width ≤ q → memByte t.dev q = memByte s.dev q)))) ∧
    (∀ n : Fin 524288, bankOn s.dev (n.val % 8) = true →
      (badAt s.dev (panBase + 64 * n.val) = false →
        exec (.panScrub n 0) s =
          .next (withDev s { s.dev with softLines := s.dev.softLines.filter (· ≠ panBase + 64 * n.val) }) ∧
        exec (.panScrub n 1) s = .next (withDev s (addSat { s.dev with softLines := s.dev.softLines.filter (· ≠ panBase + 64 * n.val) }
          .customs 0 (0xC0 + 4 * (n.val % 8)) 15 0 1))) ∧
      (panBase + 64 * n.val ∉ s.dev.badLines → Answers (.panScrub n 2) s (fun t =>
        onlyDev s t ∧ t.dev.badLines = s.dev.badLines ++ [panBase + 64 * n.val] ∧ t.dev.mem = s.dev.mem ∧
        getF t.dev .customs 0 (0xC0 + 4 * (n.val % 8)) 31 16 = min 65535 (getF s.dev .customs 0 (0xC0 + 4 * (n.val % 8)) 31 16 + 1) ∧
        t.dev.reports = s.dev.reports ++ [{
          source := 132 + n.val % 8, master := 8, access := accCode .engine, addr := panBase + 64 * n.val }])))

/-- Harvest, views and taps. A due record is written to its slot, sealed with 0, its doorbell rung and its packet queued; the part of it that covers an
uncorrectable line in part is discarded with a report; one whose slot is still being sent is dropped and counted. A view line that finds staging full
cuts its frame and is counted with the view's source; one that fits takes a staging slot and joins the view's packets. A shedding step sheds the
enabled unshed views of the lowest priority present. An arm that R194 refuses sets only its status and FS101, any other makes the channel active; a
disarm stops a channel that has no frame. The model's readings: assumption log 44, 48 and 135. -/
def Obligations.HarvestViewsAndTaps : Prop :=
  ∀ (s : State) (c : Fin 16) (v : Fin 32) (h : Fin 4) (m : Fin 7),
    (UnitsOn s → (framesOf s.dev c).find? recordDue = none → exec (.harvestRecordWrite c) s = .next s) ∧
    (∀ f off, UnitsOn s → (framesOf s.dev c).find? recordDue = some f → harvestLive s.sys.mode s.dev = true → f.emit = true →
      flag (pw f.params 0x600) 0 = true →
      ((vget s.dev.ctxs c).harvBusy.contains (f.seq % 2) = true → Answers (.harvestRecordWrite c) s (fun t =>
        onlyDev s t ∧ t.dev.mem = s.dev.mem ∧ t.dev.bestEff = s.dev.bestEff ∧ t.dev.events = s.dev.events ∧
        getB t.dev .harv 0 0 0 = true ∧ getF t.dev .harv 0 4 15 0 = min 65535 (getF s.dev .harv 0 4 15 0 + 1))) ∧
      ((vget s.dev.ctxs c).harvBusy.contains (f.seq % 2) = false → ownerServed s.dev 2 = true → flag (pw f.params 0x600) 2 = true →
        off = fld (pw f.params 0x604) 24 16 * 0x10000 + f.seq % 2 * 0x8000 → Answers (.harvestRecordWrite c) s (fun t =>
          onlyDev s t ∧
          t.dev.events = s.dev.events ++ (if 47 ≤ fld (pw f.params 0x600) 13 8 then [{ num := fld (pw f.params 0x600) 13 8 }] else []) ∧
          t.dev.bestEff.length = s.dev.bestEff.length + (if flag (pw f.params 0x600) 1 then 1 else 0) ∧
          (lineBad s.dev off = false → lineBad s.dev (off + (harvestRecord f 0).length) = false →
            t.dev.regs = s.dev.regs ∧ t.dev.reports = s.dev.reports ∧
            ∀ i, i < (harvestRecord f 0).length → memByte t.dev (panBase + off + i) = (harvestRecord f 0).getD i 0) ∧
          (lineBad s.dev off = true → (∀ i, i < 64 → memByte t.dev (panBase + off + i) = memByte s.dev (panBase + off + i)) ∧
            { source := 132 + off / 64 % 8, master := 8, access := accCode .engine, addr := panBase + off } ∈ t.dev.reports) ∧
          ∀ a, a < panBase + off ∨ panBase + off + (harvestRecord f 0).length ≤ a → memByte t.dev a = memByte s.dev a))) ∧
    (∀ f, UnitsOn s → (vget s.dev.views v).frameOpen = true → viewLive s.dev v = true → (vget s.dev.views v).nexts = [] →
      (framesOf s.dev (vget s.dev.views v).ctx).find? (fun f => decide (f.seq = (vget s.dev.views v).seq)) = some f →
      lineExists (vget s.dev.views v).params f (vget s.dev.views v).line = true →
      lineNeeds (vget s.dev.views v).params f (vget s.dev.views v).line < f.out.length →
      (fld (vw (vget s.dev.views v).params 0x24) 7 0 ≤ (vget s.dev.views v).used → Answers (.viewLineWrite v) s (fun t =>
        onlyDev s t ∧ t.dev.mem = s.dev.mem ∧ (vget t.dev.views v).frameOpen = false ∧ (vget t.dev.views v).used = (vget s.dev.views v).used ∧
        getF t.dev .view v 0x34 31 16 = min 65535 (getF s.dev .view v 0x34 31 16 + 1) ∧
        { source := 69 + v, addr := sourceBase (69 + v) } ∈ t.dev.reports)) ∧
      ((vget s.dev.views v).used < fld (vw (vget s.dev.views v).params 0x24) 7 0 → ownerServed s.dev (0x18 + v / 8) = true →
        Answers (.viewLineWrite v) s (fun t =>
          onlyDev s t ∧ (vget t.dev.views v).used = (vget s.dev.views v).used + 1 ∧
          (vget t.dev.views v).line = (vget s.dev.views v).line + 1 ∧ t.dev.reports = s.dev.reports ∧
          ∃ p l, (vget t.dev.views v).queue = (vget s.dev.views v).queue ++ p :: l ∧ p.man.ctype = 0x40 ∧
            p.man.line = (vget s.dev.views v).line ∧
            ∃ off, p.inPan = some (off, (viewLine (vget s.dev.views v).params (vget s.dev.views v).coefs f (vget s.dev.views v).line).length) ∧
              panBytes t.dev off (viewLine (vget s.dev.views v).params (vget s.dev.views v).coefs f (vget s.dev.views v).line).length =
                viewLine (vget s.dev.views v).params (vget s.dev.views v).coefs f (vget s.dev.views v).line))) ∧
    (UnitsOn s → s.dev.power.shedding = false → exec .shedStep s = .next s) ∧
    (UnitsOn s → s.dev.power.shedding = true → Answers .shedStep s (fun t =>
      onlyDev s t ∧ { source := 3, addr := sourceBase 3 } ∈ t.dev.reports ∧
      ∀ w : Fin 32, (vget t.dev.views w).shed = ((vget s.dev.views w).shed || (getB s.dev .view w 0 0 && decide (getF s.dev .view w 0 26 24 < 7) &&
        decide (∀ x : Fin 32, getB s.dev .view x 0 0 = true → (vget s.dev.views x).shed = false →
          getF s.dev .view w 0 26 24 ≤ getF s.dev .view x 0 26 24))))) ∧
    (TakesWrite s m .tap 0 (0x40 * h + 0xC) 1#32 →
      (tapMode s.sys.mode = true → fld (tapReg s.dev h 0) 2 0 ≤ 5 →
        (2 ≤ fld (tapReg s.dev h 0) 2 0 ∨ fld (tapReg s.dev h 0) 13 12 ≤ getF s.dev .ctx (fld (tapReg s.dev h 0) 11 8) 0 9 8) →
        fld (tapReg s.dev h 8) 8 0 ≠ 0 → (fld (tapReg s.dev h 8) 24 12 + fld (tapReg s.dev h 8) 8 0) * 0x1000 ≤ 0x2000000 →
        Answers (.tapArm h m) s (fun t =>
          t = withDev s { s.dev with regs := t.dev.regs, taps := t.dev.taps } ∧ (vget t.dev.taps h).active = true ∧
          (vget t.dev.taps h).armed = true ∧ (vget t.dev.taps h).left = fld (tapReg s.dev h 0) 23 16 ∧
          getB t.dev .tap 0 (0x40 * h + 0x10) 0 = true)) ∧
      (tapMode s.sys.mode = false ∨ 5 < fld (tapReg s.dev h 0) 2 0 ∨
          (fld (tapReg s.dev h 0) 2 0 ≤ 1 ∧ getF s.dev .ctx (fld (tapReg s.dev h 0) 11 8) 0 9 8 < fld (tapReg s.dev h 0) 13 12) ∨
          fld (tapReg s.dev h 8) 8 0 = 0 ∨ 0x2000000 < (fld (tapReg s.dev h 8) 24 12 + fld (tapReg s.dev h 8) 8 0) * 0x1000 →
        Answers (.tapArm h m) s (fun t =>
        onlyDev s t ∧ t.dev.taps = s.dev.taps ∧ getB t.dev .tap 0 (0x40 * h + 0x10) 2 = true ∧
        t.dev.reports = s.dev.reports ++ [{ source := 101, master := m, access := 2, addr := unitBase .tap 0 + (0x40 * h + 0xC) }]))) ∧
    (TakesWrite s m .tap 0 (0x40 * h + 0xC) 2#32 →
      ((vget s.dev.taps h).active = false → exec (.tapDisarm h m) s = .next s) ∧
      ((vget s.dev.taps h).active = true → (vget s.dev.taps h).frame = none → Answers (.tapDisarm h m) s (fun t =>
        t = withDev s { s.dev with regs := t.dev.regs, taps := t.dev.taps } ∧ (vget t.dev.taps h).active = false ∧
        (vget t.dev.taps h).armed = false ∧ getB t.dev .tap 0 (0x40 * h + 0x10) 0 = false)) ∧
      (∀ q, (vget s.dev.taps h).active = true → (vget s.dev.taps h).frame = some q → exec (.tapDisarm h m) s =
        .next (withDev s (onTap s.dev h (fun x => { x with stop := true })))))

/-! ### TWT -/

/-- Addresses. A START with an address that no slot matches, the reserved addresses among them, at a repeated START too, is not answered; with no
transaction in progress a matching write opens one under the lowest matching slot and counts it, and a matching read of no command is error 0x01. A
read of the transaction's slot, which the lowest matching slot must be, opens after a command that reads its read phase, and after an RD32 fetches the
word; after any other command it is error 0x01. A START or STOP off a byte boundary ends the transaction with error 0x05 and the port's source, a held
SCL ends it without, and a bus that is free is marked so. The model's readings: assumption log 67. -/
def Obligations.TwtTransactionsOpenAndAbort : Prop :=
  ∀ (s : State) (a : Fin 128), TwtOn s →
    (s.dev.twt.tx = none →
      (a.val < 8 ∨ 0x78 ≤ a.val ∨ (∀ k : Fin 4, getB s.dev .twt 0 (0x10 + 4 * k) 31 = true →
          Nat.land (Nat.xor a (getF s.dev .twt 0 (0x10 + 4 * k) 6 0)) (getF s.dev .twt 0 (0x10 + 4 * k) 14 8) ≠ 0) →
        ∀ read, exec (.twtAddress a read) s = .next (withDev s (onTws s.dev 8 (fun x => { x with busy := true })))) ∧
      (∀ k : Fin 4, 8 ≤ a.val → a.val < 0x78 → getB s.dev .twt 0 (0x10 + 4 * k) 31 = true →
        Nat.land (Nat.xor a (getF s.dev .twt 0 (0x10 + 4 * k) 6 0)) (getF s.dev .twt 0 (0x10 + 4 * k) 14 8) = 0 →
        (∀ j : Fin 4, j < k → getB s.dev .twt 0 (0x10 + 4 * j) 31 = false) →
        exec (.twtAddress a false) s = .next (withDev s { incWrap (onTws s.dev 8 (fun x => { x with busy := true })) .twt 0 0x24 15 0 with
          twt := { s.dev.twt with tx := some {
            slot := k, cfg := get s.dev .twt 0 (0x10 + 4 * k), wire := [BitVec.ofNat 8 (2 * a)] } } }) ∧
        Answers (.twtAddress a true) s (fun t =>
          onlyDev s t ∧ (∃ x, t.dev.twt.tx = some x ∧ x.slot = k ∧ x.read = true ∧ x.cmd = none ∧ x.errored = true) ∧
          (vget t.dev.twt.slots k).err = 1 ∧ (vget t.dev.twt.slots k).ptr = (vget s.dev.twt.slots k).ptr ∧
          getF t.dev .twt 0 0x24 15 0 = (getF s.dev .twt 0 0x24 15 0 + 1) % 65536 ∧
          getF t.dev .twt 0 0x24 31 16 = min 65535 (getF s.dev .twt 0 0x24 31 16 + 1)))) ∧
    (∀ x, s.dev.twt.tx = some x → x.read = false → x.fault = false →
      8 ≤ a.val → a.val < 0x78 → Nat.land (Nat.xor a (fld x.cfg 6 0)) (fld x.cfg 14 8) = 0 → flag x.cfg 31 = true →
      (∀ j : Fin 4, j.val < x.slot → getB s.dev .twt 0 (0x10 + 4 * j) 31 = false) → x.slot < 4 →
      (x.cmd = some 0x20 ∨ x.cmd = some 0x21 ∨ x.cmd = some 0x31) → x.chunks = [] → x.legacy = none →
      exec (.twtAddress a true) s = .next (withDev s (setTx (onTws s.dev 8 (fun y => { y with busy := true })) (some { x with
        read := true, wire := x.wire ++ [BitVec.ofNat 8 (2 * a + 1)], endErr := 0 })))) ∧
    (∀ x, s.dev.twt.tx = some x → x.read = false → x.fault = false →
      8 ≤ a.val → a.val < 0x78 → Nat.land (Nat.xor a (fld x.cfg 6 0)) (fld x.cfg 14 8) = 0 → flag x.cfg 31 = true →
      (∀ j : Fin 4, j.val < x.slot → getB s.dev .twt 0 (0x10 + 4 * j) 31 = false) → x.slot < 4 →
      x.cmd = some 0x11 → x.legacy = none →
      Answers (.twtAddress a true) s (fun t => onlyDev s t ∧ t.dev.mem = s.dev.mem ∧
        ∃ y, t.dev.twt.tx = some y ∧ y.read = true ∧ y.cmd = some 0x11 ∧ y.wire = x.wire ++ [BitVec.ofNat 8 (2 * a + 1)] ∧ y.buf.length = 4)) ∧
    (∀ x, s.dev.twt.tx = some x → x.read = false → 8 ≤ a.val → a.val < 0x78 → Nat.land (Nat.xor a (fld x.cfg 6 0)) (fld x.cfg 14 8) = 0 →
      flag x.cfg 31 = true →
      (∀ j : Fin 4, j.val < x.slot → getB s.dev .twt 0 (0x10 + 4 * j) 31 = false) → x.slot < 4 →
      x.legacy = none → (x.cmd = none ∨ x.cmd = some 0x10 ∨ x.cmd = some 0x12 ∨ x.cmd = some 0x3F) → Answers (.twtAddress a true) s (fun t =>
        onlyDev s t ∧ t.dev.mem = s.dev.mem ∧ (vget t.dev.twt.slots x.slot).err = 1 ∧
        ∃ y, t.dev.twt.tx = some y ∧ y.slot = x.slot ∧ y.read = true ∧ y.cmd = none ∧ y.buf = x.buf)) ∧
    (∀ x, s.dev.twt.tx = some x → (a.val < 8 ∨ 0x78 ≤ a.val) → ∀ read, exec (.twtAddress a read) s =
      .next (withDev s (setTx (onTws s.dev 8 (fun y => { y with busy := true })) none))) ∧
    (∀ x, s.dev.twt.tx = some x → x.slot < 4 →
      Answers .twtAbort s (fun t =>
        onlyDev s t ∧ t.dev.twt.tx = none ∧ (vget t.dev.twt.slots x.slot).err = 5 ∧ getB t.dev .twt 0 0x20 2 = true ∧ t.dev.mem = s.dev.mem ∧
        t.dev.reports = s.dev.reports ++ [{ source := 152, addr := sourceBase 152 }] ∧
        (∀ k : Fin 4, (vget t.dev.twt.slots k).ptr = (vget s.dev.twt.slots k).ptr))) ∧
    (s.dev.twt.tx = none → exec .twtAbort s = .next s ∧ exec .twtReadLate s = .next s) ∧
    exec .twtSdaRelease s = .next (withDev s { s.dev with twt := { s.dev.twt with tx := none } }) ∧
    (∀ p : Fin 9, (p.val < 8 → UnitsOn s) → (twsOf s.dev p).recover = false →
      exec (.busFree p) s = .next (withDev s { s.dev with tws := vmod s.dev.tws p (fun x => { x with busy := false }) }))

/-- Write phases. In a transaction of a FULL slot without PEC a command's bytes are held for the end of its write phase: SETPTR its pointer, a WR32 of one
word and a BLKWR of one byte their write at the pointer, an MBPUSH of one byte its message, BLKRD its count; the other commands hold nothing. A WR32
whose bytes are no whole words is marked for the end. A slot whose view does not accept the code, and a count out of range, refuse the byte; on a slot
that requires PEC a right PEC byte is taken, and a wrong or a missing one is marked for the end. The model's readings: assumption log 66 and 67. -/
def Obligations.TwtCommandsAreHeldToTheEndOfTheirPhase : Prop :=
  ∀ (s : State) (x : TwtTx) (n : Nat), TwtOn s → s.dev.twt.tx = some x → x.slot < 4 → x.read = false → x.cmd = none → x.fault = false →
    (viewOf x.cfg = 0 → pecMode x.cfg = 0 →
      (∀ b0 b1 b2 b3, exec (.setptr [b0, b1, b2, b3] n) s = .next (withDev s (setTx s.dev (some { x with
        cmd := some 0x10, wire := x.wire ++ [0x10, b0, b1, b2, b3], setptr := some (leVal [b0, b1, b2, b3]) })))) ∧
      (∀ b0 b1 b2 b3, exec (.wr32 [b0, b1, b2, b3] n) s = .next (withDev s (setTx s.dev (some { x with
        cmd := some 0x12, wire := x.wire ++ [0x12, b0, b1, b2, b3]
        writes := [((vget s.dev.twt.slots x.slot).ptr, 4, BitVec.ofNat 32 (leVal [b0, b1, b2, b3]))] })))) ∧
      (∀ b, exec (.blkwr [1, b] n) s = .next (withDev s (setTx s.dev (some { x with
        cmd := some 0x14, wire := x.wire ++ [0x14, 1, b], writes := [((vget s.dev.twt.slots x.slot).ptr, 1, BitVec.ofNat 32 b.toNat)] })))) ∧
      (∀ args, 4 ≤ args.length → args.length ≤ 32 → args.length % 4 ≠ 0 → exec (.wr32 args n) s = .next (withDev s (setTx s.dev (some { x with
        cmd := some 0x12, wire := x.wire ++ 0x12 :: args, endErr := 3 })))) ∧
      (∀ b, (vget s.dev.boxes 1).inbox.length < 8 → exec (.mbpush [1, b] n) s = .next (withDev s (setTx s.dev (some { x with
        cmd := some 0x30, wire := x.wire ++ [0x30, 1, b], push := some [b] })))) ∧
      (∀ c : Fin 33, 1 ≤ c.val → exec (.blkrd [BitVec.ofNat 8 c] n) s = .next (withDev s (setTx s.dev (some { x with
        cmd := some 0x13, wire := x.wire ++ [0x13, BitVec.ofNat 8 c], count := c
        chunks := chunksOf c (vget s.dev.twt.slots x.slot).ptr c })))) ∧
      (∀ c q, (c, q) ∈ [(Instr.rd32 [] n, 0x11), (.status [] n, 0x20), (.lasterr [] n, 0x21), (.mbpop [] n, 0x31), (.nop [] n, 0x3F)] →
        exec c s = .next (withDev s (setTx s.dev (some { x with cmd := some q, wire := x.wire ++ [BitVec.ofNat 8 q] })))) ∧
      (∀ c e, (c, e) ∈ [(Instr.blkrd [33] n, 3), (.blkwr [0] n, 3), (.mbpush [33] n, 3), (.setptr [0, 0, 0, 0, 0] n, 3),
          (.wr32 (List.replicate 33 0) n, 3)] →
        (vget s.dev.boxes 1).inbox.length < 8 → Answers c s (fun t =>
          onlyDev s t ∧ t.dev.mem = s.dev.mem ∧ getB t.dev .twt 0 0x20 1 = true ∧ (vget t.dev.twt.slots x.slot).err = e ∧
          ∃ y, t.dev.twt.tx = some y ∧ y.fault = true ∧ y.writes = x.writes ∧ y.push = x.push ∧ y.setptr = x.setptr))) ∧
    ((viewOf x.cfg = 1 ∨ viewOf x.cfg = 3) → ∀ args, ∀ c ∈ [Instr.wr32 args n, .blkwr args n], Answers c s (fun t =>
      onlyDev s t ∧ t.dev.mem = s.dev.mem ∧ getB t.dev .twt 0 0x20 1 = true ∧ (vget t.dev.twt.slots x.slot).err = 2 ∧
      ∃ y, t.dev.twt.tx = some y ∧ y.fault = true ∧ y.writes = x.writes)) ∧
    (viewOf x.cfg = 0 → pecMode x.cfg = 2 → ∀ p,
      (p.toNat = crc8 (x.wire ++ [0x3F]) → exec (.nop [p] n) s = .next (withDev s (setTx s.dev (some { x with
        cmd := some 0x3F, wire := x.wire ++ [0x3F, p] })))) ∧
      (p.toNat ≠ crc8 (x.wire ++ [0x3F]) → exec (.nop [p] n) s = .next (withDev s (setTx s.dev (some { x with
        cmd := some 0x3F, wire := x.wire ++ [0x3F, p], endErr := 4 })))) ∧
      exec (.nop [] n) s = .next (withDev s (setTx s.dev (some { x with cmd := some 0x3F, wire := x.wire ++ [0x3F], endErr := 4 }))))

/-- Read phases. The read phase of a command supplies its bytes, then 0xFF where PEC is off, and one with no read command 0xFF alone: STATUS the slot's
error, the queues and the mode, LASTERR the last error of the slot, which it clears, MBPOP the oldest outbound message of MBOX_TWT where it has one
byte, which leaves the queue, or 0 where there is none, RD32 the word fetched, after which the pointer moves on by 4, and a LEGACY read the bytes of
its word. A read that is late supplies 0xFF in place of the rest of its word, with error 0x07 and FS152. The model's readings: assumption log 18 and
66. -/
def Obligations.TwtReadsSupplyTheirBytes : Prop :=
  ∀ (s : State) (x : TwtTx), TwtOn s → s.dev.twt.tx = some x → x.slot < 4 → x.read = true →
    (viewOf x.cfg ≠ 2 → x.cmd = none → x.legacy = none → x.buf = [] → exec (.rd32 [] 2) s =
      .next (withDev s (setTx s.dev (some { x with out := x.out ++ [0xFF, 0xFF] })))) ∧
    (viewOf x.cfg ≠ 2 → x.out = [] → pecMode x.cfg = 0 →
      (x.cmd = some 0x20 → x.buf = [] → Answers (.status [] 2) s (fun t =>
        ∃ b c, t = withDev s (setTx s.dev (some { x with out := [b, c], buf := [] })) ∧
          c = BitVec.ofNat 8 (modeCode s.sys.mode) ∧ b.toNat < 16 ∧
          b.toNat % 2 = bnat (decide ((vget s.dev.twt.slots x.slot).err ≠ 0)) ∧
          b.toNat / 2 % 2 = bnat (decide ((vget s.dev.boxes 1).outbox ≠ [])) ∧
          b.toNat / 4 % 2 = bnat (decide (8 ≤ (vget s.dev.boxes 1).inbox.length)))) ∧
      (x.cmd = some 0x21 → x.buf = [] → exec (.lasterr [] 6) s = .next (withDev s (setTx
        (onSlot s.dev x.slot (fun k => { k with err := 0 })) (some { x with out := lasterrBytes s.dev x.slot, buf := [] })))) ∧
      (x.cmd = some 0x31 → x.buf = [] →
        ((vget s.dev.boxes 1).outbox = [] → exec (.mbpop [] 2) s =
          .next (withDev s (setTx s.dev (some { x with out := [0, 0xFF] })))) ∧
        (∀ b l, (vget s.dev.boxes 1).outbox = [b] :: l → exec (.mbpop [] 2) s = .next (withDev s (setTx
          (onBox s.dev 1 (fun q => { q with outbox := l })) (some { x with out := [1, b] }))))) ∧
      (x.cmd = some 0x13 → ∀ b, x.buf = [b] → x.chunks = [] → exec (.blkrd [] 2) s = .next (withDev s (setTx
        (onSlot s.dev x.slot (fun k => { k with ptr := (k.ptr + x.count) % 2 ^ 32 }))
        (some { x with out := [BitVec.ofNat 8 x.count, b], buf := [] })))) ∧
      (x.cmd = some 0x11 → ∀ b0 b1 b2 b3, x.buf = [b0, b1, b2, b3] → exec (.rd32 [] 3) s =
        .next (withDev s (setTx s.dev (some { x with out := [b0, b1, b2], buf := [b3] })))) ∧
      (x.cmd = some 0x11 → ∀ b, x.buf = [b] → Answers (.rd32 [] 1) s (fun t =>
        onlyDev s t ∧ (vget t.dev.twt.slots x.slot).ptr = ((vget s.dev.twt.slots x.slot).ptr + 4) % 2 ^ 32 ∧
        (∃ y, t.dev.twt.tx = some y ∧ y.out = [b] ∧ y.buf.length = 4) ∧ t.dev.mem = s.dev.mem))) ∧
    (viewOf x.cfg = 2 → ∀ a b0 b1, x.legacy = some a → x.buf = [b0, b1] →
      exec (.twtLegacyTransaction [] 1) s = .next (withDev s (setTx s.dev (some { x with out := x.out ++ [b0], buf := [b1] })))) ∧
    (∀ b, x.buf = [b] → x.cmd = some 0x11 → Answers .twtReadLate s (fun t =>
      onlyDev s t ∧ (∃ y, t.dev.twt.tx = some y ∧ y.buf = [0xFF] ∧ y.out = x.out) ∧ (vget t.dev.twt.slots x.slot).err = 7 ∧
      getB t.dev .twt 0 0x20 4 = true ∧ t.dev.mem = s.dev.mem ∧ t.dev.reports = s.dev.reports ++ [{ source := 152, addr := sourceBase 152 }]))

/-- Write phases end. A phase with a refused byte issues nothing. A pointer that a SETPTR holds becomes the slot's; a message that an MBPUSH holds joins
the inbound queue with event 40; a write that is held goes through the crossbar as master 0. A PEC that failed, data that are missing and a first byte
that is no command code are errors, shown with the code received, and issue nothing; a failed PEC raises FS152. On a LEGACY slot a write phase of an
address and no data holds the address, and one of a whole word its table's write; a read phase ends with its STOP. The model's readings: assumption
log 66, 67 and 68. -/
def Obligations.TwtWritePhasesTakeEffectAtTheirEnd : Prop :=
  ∀ (s : State) (x : TwtTx) (stop : Bool), TwtOn s → s.dev.twt.tx = some x → x.slot < 4 →
    (x.read = true → exec (.twtWritePhaseEnd none true) s = .next (withDev s (setTx s.dev none)) ∧
      exec (.twtWritePhaseEnd none false) s = .next s) ∧
    (x.read = false → x.fault = true → x.cmd.isSome = true → exec (.twtWritePhaseEnd none stop) s = .next (withDev s (setTx s.dev
      (if stop then none else some { x with setptr := none, writes := [], push := none })))) ∧
    (x.read = false → x.fault = false → x.endErr = 0 → x.cmd.isSome = true →
      (∀ p, x.setptr = some p → x.writes = [] → x.push = none → exec (.twtWritePhaseEnd none stop) s = .next (withDev s (setTx
        (onSlot s.dev x.slot (fun k => { k with ptr := p }))
        (if stop then none else some { x with setptr := none, writes := [], push := none })))) ∧
      (∀ b, x.setptr = none → x.writes = [] → x.push = some b → (vget s.dev.boxes 1).inbox.length < 8 →
        exec (.twtWritePhaseEnd none true) s = .next (withDev s { s.dev with
          twt := { s.dev.twt with tx := none }, boxes := vmod s.dev.boxes 1 (fun q => { q with inbox := q.inbox ++ [b] })
          events := s.dev.events ++ [{ num := 40 }] })) ∧
      (∀ u n o v, x.setptr = none → x.push = none → x.writes = [(unitBase u n + o, 4, v)] →
        (busWrite s.env s.dev 0 4 (unitBase u n + o) v).1 = true →
        exec (.twtWritePhaseEnd none true) s = .next (settle (withDev s (setTx (busWrite s.env s.dev 0 4 (unitBase u n + o) v).2 none))))) ∧
    (x.read = false → x.fault = false → ∀ (u : Option Byte) (e : Nat) (b : Bool), (u.isSome, e, b) ∈ [(false, 4, true), (false, 3, false), (true, 1, false)] →
      (u = none → x.endErr = e ∧ x.cmd.isSome = true) → (∀ q, u = some q → unknownCode q = true ∧ x.cmd = none ∧ viewOf x.cfg ≠ 2) →
      Answers (.twtWritePhaseEnd u stop) s (fun t =>
        onlyDev s t ∧ t.dev.mem = s.dev.mem ∧ t.dev.events = s.dev.events ∧ t.dev.boxes = s.dev.boxes ∧
        (vget t.dev.twt.slots x.slot).err = e ∧ (vget t.dev.twt.slots x.slot).ptr = (vget s.dev.twt.slots x.slot).ptr ∧
        (vget t.dev.twt.slots x.slot).cmd = ((u.map BitVec.toNat).or x.cmd).getD 0 ∧
        (b = true → getB t.dev .twt 0 0x20 3 = true) ∧
        t.dev.reports = s.dev.reports ++ (if b then [{ source := 152, addr := sourceBase 152 }] else []) ∧ (stop = true → t.dev.twt.tx = none))) ∧
    (x.read = false → viewOf x.cfg = 2 → x.legacy = none → x.fault = false → ∀ (i : Fin 1024) (n : Nat) (l : List Byte),
      l = [BitVec.ofNat 8 (i / 64), BitVec.ofNat 8 (4 * i)] →
      exec (.twtLegacyTransaction l n) s = .next (withDev s (setTx s.dev (some { x with
        legacy := some (4 * i), writes := [], endErr := 0, wire := x.wire ++ l }))) ∧
      (∀ b0 b1 b2 b3, memVal s.dev 4 (0x7C0000 + getF s.dev .twt 0 0x28 5 0 * 0x1000 + 4 * i) ≠ 0 →
        exec (.twtLegacyTransaction (l ++ [b0, b1, b2, b3]) n) s = .next (withDev s (setTx s.dev (some { x with
          legacy := some (4 * i), endErr := 0, wire := x.wire ++ (l ++ [b0, b1, b2, b3])
          writes := [(memVal s.dev 4 (0x7C0000 + getF s.dev .twt 0 0x28 5 0 * 0x1000 + 4 * i), 4,
            BitVec.ofNat 32 (beVal [b0, b1, b2, b3]))] })))))

/-! ### Two-wire controllers -/

/-- Submission, flush and completions. A submission that R424 accepts joins the queue of its port; a flush ends every descriptor that has not started with
status 6, one completion and one doorbell each, and leaves the running one and the reads of heads; a read of TWS_DONE pops the oldest completion.
Transactions. On a free bus a port starts the head of its queue; in a frame window it starts the first sensor job, and no other job that would not end
in the window; outside it sensor jobs wait, and another starts where it would end before the next opening that the port can predict (assumption log
140), or where no period is known; on a busy bus, or with an empty queue, it starts nothing; after a failed recovery, or one that is asked for, a
recovery comes first. One that ends well queues a completion with status 0 and rings the doorbell; the bytes of a read enter its data area; an epoch
write makes an epoch write due. A not-acknowledged address is tried again after the retry time while retries are left, otherwise it ends with status
1, and a lost arbitration with status 3, each with its TWS_STATUS bit and the count of its bytes. The model's readings: assumption log 8, 65 and 140.
-/
def Obligations.TwsQueuesAndTransactions : Prop :=
  (∀ (s : State) (p : Fin 9) (m : Fin 7) (u : UnitKind) (n o : Nat),
    (u, n, o) = (if p.val < 8 then (UnitKind.tws, p.val, 0) else (UnitKind.twt, 0, 0x1000)) →
    (∀ k : Fin 16, TakesWrite s m u n (o + 0x14) (BitVec.ofNat 32 k) → exec (.twsSubmit p k m) s =
      .next (withDev s (onTws s.dev p (fun x => { x with order := x.order ++ [.desc k] })))) ∧
    (TakesWrite s m u n (o + 0x10) 2#32 →
      ((twsOf s.dev p).order = [] → exec (.twsFlush p m) s = .next s) ∧
      (∀ (ks : List Nat) (rest : List TwsJob), (twsOf s.dev p).order = ks.map TwsJob.desc ++ rest → (∀ k, TwsJob.desc k ∉ rest) →
        (twsOf s.dev p).done.length + ks.length ≤ 16 → Answers (.twsFlush p m) s (fun t =>
        onlyDev s t ∧ t.dev.mem = s.dev.mem ∧ t.dev.tws = (onTws s.dev p (fun x => { x with
          order := rest, done := x.done ++ ks.map (fun k => { desc := k, status := 6, bytes := 0 }) })).tws ∧
        get t.dev u n (o + 0x1C) = setFld (get s.dev u n (o + 0x1C)) 15 0 (fld (get s.dev u n (o + 0x1C)) 15 0 + ks.length) ∧
        t.dev.events = s.dev.events ++ (let e := getF s.dev u n (if p.val < 8 then 0 else 0x1000) 21 16
          if 47 ≤ e ∧ e ≤ 63 then List.replicate ks.length { num := e } else [])))) ∧
    (TakesRead s m u n (o + 0x18) → exec (.twsDonePop p m) s =
      .next (withDev s (onTws s.dev p (fun x => { x with done := x.done.drop 1 }))))) ∧
  (∀ (s : State) (p : Fin 9) (k : Fin 16) (dt : Nat), UnitsOn s →
    (twsOn s.dev p = true → (twsOf s.dev p).inRecovery = false → (twsOf s.dev p).waiting = false → (twsOf s.dev p).inFlight = false →
      (twsOf s.dev p).running = none →
      (∀ j l, p = 8 ∨ flag (twsReg s.dev p 4) 31 = false → (twsOf s.dev p).busy = false → (twsOf s.dev p).order = j :: l →
        (twsOf s.dev p).recover = true ∨ (twsOf s.dev p).fresh = true → exec (.twsTransactionStart p dt) s = .next (withDev (passTime s dt)
          (onTws s.dev p (fun x => { x with inRecovery := true, fresh := false, recover := false })))) ∧
      ((twsOf s.dev p).recover = false → (twsOf s.dev p).fresh = false →
      (∀ j l, p = 8 ∨ flag (twsReg s.dev p 4) 31 = false → (twsOf s.dev p).busy = false → (twsOf s.dev p).order = j :: l →
        exec (.twsTransactionStart p dt) s = .next (withDev (passTime s dt) (onTws s.dev p (fun x => { x with
          order := l, running := some j, inFlight := true, tries := 0 })))) ∧
      (∀ j, p ≠ 8 → flag (twsReg s.dev p 4) 31 = true → (twsOf s.dev p).windowOpen = true → (twsOf s.dev p).busy = false →
        ((twsOf s.dev p).order.find? (isSensor s.dev p) = some j → exec (.twsTransactionStart p dt) s =
          .next (withDev (passTime s dt) (onTws s.dev p (fun x => { x with
            order := x.order.erase j, running := some j, inFlight := true, tries := 0 })))) ∧
        ((twsOf s.dev p).order = [j] → isSensor s.dev p j = false →
          (twsOf s.dev p).closeAt ≤ (passTime s dt).clock.cycles + jobTime s.dev p j + fld (twsReg s.dev p 8) 11 0 * 500 →
          exec (.twsTransactionStart p dt) s = .next (passTime s dt))) ∧
      (∀ j start, p ≠ 8 → flag (twsReg s.dev p 4) 31 = true → (twsOf s.dev p).windowOpen = false → (twsOf s.dev p).busy = false →
        (twsOf s.dev p).order = [j] → start = (passTime s dt).clock.cycles + jobTime s.dev p j + fld (twsReg s.dev p 8) 11 0 * 500 →
        (isSensor s.dev p j = true → exec (.twsTransactionStart p dt) s = .next (passTime s dt)) ∧
        (∀ (x : Ctx) (starts : State), x = vget s.dev.ctxs (fld (twsReg s.dev p 4) 27 24) → isSensor s.dev p j = false →
          starts = withDev (passTime s dt) (onTws s.dev p (fun x => { x with order := [], running := some j, inFlight := true, tries := 0 })) →
          (x.period = none → exec (.twsTransactionStart p dt) s = .next starts) ∧
          (∀ r q w, (if flag (twsReg s.dev p 4) 30 then x.lastEnd else x.lastStart) = some r → x.period = some q →
            w = r + fld (twsReg s.dev p 4) 23 12 * 500 + (if (passTime s dt).clock.cycles < r + fld (twsReg s.dev p 4) 23 12 * 500 then 0 else q) →
            (passTime s dt).clock.cycles < w → exec (.twsTransactionStart p dt) s = .next (if start < w then starts else passTime s dt)))) ∧
      (((twsOf s.dev p).busy = true ∨ (twsOf s.dev p).order = []) →
        exec (.twsTransactionStart p dt) s = .next (passTime s dt)))) ∧
    ((twsOf s.dev p).inFlight = false → ∀ st n l, exec (.twsTransactionEnd p st n l) s = .next s) ∧
    ((twsOf s.dev p).inFlight = true → (twsOf s.dev p).running = some (.desc k) → (twsOf s.dev p).done.length < 16 →
      (∀ n l, Answers (.twsTransactionEnd p 0 n l) s (fun t =>
        onlyDev s t ∧ t.dev.mem = s.dev.mem ∧ t.dev.reports = s.dev.reports ∧
        (twsOf t.dev p).running = none ∧ (twsOf t.dev p).inFlight = false ∧ (twsOf t.dev p).busy = true ∧
        (twsOf t.dev p).order = (twsOf s.dev p).order ∧
        (twsOf t.dev p).done = (twsOf s.dev p).done ++ [{
          desc := k, status := 0
          bytes := if fld (twsReg s.dev p (0x100 + 4 * k)) 5 0 = 0 then fld (twsReg s.dev p (0x100 + 4 * k)) 13 8
            else fld (twsReg s.dev p (0x100 + 4 * k)) 5 0 }] ∧
        (∀ i : Fin 32, i.val < fld (twsReg s.dev p (0x100 + 4 * k)) 5 0 → i.val < l.length →
          fld (twsReg t.dev p (0x400 + 0x20 * k + i / 4 * 4)) (i % 4 * 8 + 7) (i % 4 * 8) = (l.getD i 0).toNat) ∧
        (∀ c : Fin 16, (vget t.dev.ctxs c).epochDue = (vget s.dev.ctxs c).epochDue +
          (if flag (twsReg s.dev p (0x100 + 4 * k)) 31 = true ∧ fld (twsReg s.dev p (0x100 + 4 * k)) 30 27 = c then 1 else 0)) ∧
        fld (twsReg t.dev p 0x1C) 15 0 = (fld (twsReg s.dev p 0x1C) 15 0 + 1) % 65536 ∧
        fld (twsReg t.dev p 0x1C) 31 16 = fld (twsReg s.dev p 0x1C) 31 16 ∧
        t.dev.events = s.dev.events ++ (let e := fld (twsReg s.dev p 0) 21 16
          if 47 ≤ e ∧ e ≤ 63 then [{ num := e }] else []))) ∧
      (∀ n l, (twsOf s.dev p).tries < fld (twsReg s.dev p 0) 6 4 → exec (.twsTransactionEnd p 1 n l) s =
        .next (withDev s (onTws s.dev p (fun x => { x with inFlight := false, waiting := true, busy := true, tries := x.tries + 1 })))) ∧
      (∀ n q e b nb, (q, e, b, nb) ∈ [(Instr.twsTransactionEnd p 1 n [], 1, 0, min n (fld (twsReg s.dev p (0x100 + 4 * k)) 13 8)),
          (.twsTransactionEnd p 2 n [], 2, 0, min n (fld (twsReg s.dev p (0x100 + 4 * k)) 13 8)), (.arbitrationLost { port := p, bytes := n }, 3, 1, n)] →
        (e ≠ 2 → fld (twsReg s.dev p 0) 6 4 ≤ (twsOf s.dev p).tries) → Answers q s (fun t =>
          onlyDev s t ∧ t.dev.mem = s.dev.mem ∧ (twsOf t.dev p).running = none ∧ (twsOf t.dev p).busy = true ∧
          (twsOf t.dev p).done = (twsOf s.dev p).done ++ [{ desc := k, status := e, bytes := nb }] ∧ flag (twsReg t.dev p 0xC) b = true ∧
          fld (twsReg t.dev p 0x1C) 31 16 = min 65535 (fld (twsReg s.dev p 0x1C) 31 16 + 1))) ∧
      ((twsOf s.dev p).tries < fld (twsReg s.dev p 0) 6 4 → ∀ n, Answers (.arbitrationLost { port := p, bytes := n }) s (fun t =>
        t = withDev s { s.dev with regs := t.dev.regs, tws := t.dev.tws } ∧ flag (twsReg t.dev p 0xC) 1 = true ∧
        regsBut (if p = 8 then [unitBase .twt 0 + 0x100C, unitBase .twt 0 + 0x20] else [unitBase .tws p + 0xC]) s.dev t.dev ∧
        twsOf t.dev p = { twsOf s.dev p with inFlight := false, waiting := false, busy := true, tries := (twsOf s.dev p).tries + 1 }))) ∧
    exec (.twsRetryTimer p) s = .next (withDev s (if (twsOf s.dev p).waiting then
      onTws s.dev p (fun x => { x with waiting := false, inFlight := !x.busy }) else s.dev)))

/-- Recovery, stretching and frame windows. A stretch beyond its limit ends the transaction that runs or waits to start with status 4 and its bytes, and a
recovery, with the port's source. A bus recovery starts on a free bus; one that TWS_CTRL.recover asks for on a busy bus starts when the bus is free;
it ends well with TWS_STATUS.recovered, or fails with its own bit and source, and the transaction that runs or waits ends with status 5. A window
opens open µs after its reference for len µs, and closes when its end has come. The model's readings: assumption log 8 and 65. -/
def Obligations.TwsRecoveryStretchingAndWindows : Prop :=
  ∀ (s : State) (p : Fin 9) (dt : Nat), UnitsOn s →
    (∀ (k : Fin 16) (b : Nat), twsOn s.dev p = true → (twsOf s.dev p).done.length < 16 →
      ((twsOf s.dev p).running = some (.desc k) ∨ ((twsOf s.dev p).running = none ∧ (twsOf s.dev p).order.head? = some (.desc k) ∧
        (p = 8 ∨ flag (twsReg s.dev p 4) 31 = false))) → Answers (.twsStretchTimeout { port := p, bytes := b }) s (fun t =>
        onlyDev s t ∧ t.dev.mem = s.dev.mem ∧ (twsOf t.dev p).running = none ∧ (twsOf t.dev p).inFlight = false ∧
        (twsOf t.dev p).order = (twsOf s.dev p).order.erase (.desc k) ∧ (twsOf t.dev p).inRecovery = false ∧
        (twsOf t.dev p).done = (twsOf s.dev p).done ++ [{ desc := k, status := 4, bytes := b }] ∧ flag (twsReg t.dev p 0xC) 2 = true ∧
        t.dev.reports = s.dev.reports ++ [{ source := twsSource p, addr := sourceBase (twsSource p) }])) ∧
    ((twsOf s.dev p).running = none → (twsOf s.dev p).order = [] → ∀ b,
      ((twsOf s.dev p).inRecovery = false → exec (.twsStretchTimeout { port := p, bytes := b }) s = .next s) ∧
      ((twsOf s.dev p).inRecovery = true → twsOn s.dev p = true → Answers (.twsStretchTimeout { port := p, bytes := b }) s (fun t =>
        onlyDev s t ∧ (twsOf t.dev p).inRecovery = false ∧ (twsOf t.dev p).done = (twsOf s.dev p).done ∧ flag (twsReg t.dev p 0xC) 2 = true ∧
        t.dev.reports = s.dev.reports ++ [{ source := twsSource p, addr := sourceBase (twsSource p) }]))) ∧
    (twsOn s.dev p = true → (twsOf s.dev p).inFlight = false →
      ((twsOf s.dev p).busy = false → exec (.twsBusRecovery p) s =
        .next (withDev s (onTws s.dev p (fun x => { x with inRecovery := true, recover := false, fresh := false })))) ∧
      ((twsOf s.dev p).busy = true → exec (.twsBusRecovery p) s = .next s)) ∧
    (∀ (m : Fin 7) (u : UnitKind) (n o : Nat) (a : Word), twsOn s.dev p = true →
      (u, n, o) = (if p.val < 8 then (UnitKind.tws, p.val, 0x10) else (UnitKind.twt, 0, 0x1010)) → a.toNat = unitBase u n + o →
      TakesWrite s m u n o 1#32 → exec (.registerWrite m .word a 1#32) s = .next (withDev s (onTws s.dev p (fun x =>
        if x.inFlight || x.busy then { x with recover := true } else { x with inRecovery := true, recover := false, fresh := false })))) ∧
    ((twsOf s.dev p).recover = true → twsOn s.dev p = true → (twsOf s.dev p).inFlight = false → exec (.busFree p) s =
      .next (withDev s (onTws s.dev p (fun x => { x with busy := false, inRecovery := true, recover := false, fresh := false })))) ∧
    ((twsOf s.dev p).inRecovery = false → ∀ high, exec (.twsRecoveryDone p high) s = .next s) ∧
    ((twsOf s.dev p).inRecovery = true →
      Answers (.twsRecoveryDone p true) s (fun t =>
        t = withDev s { s.dev with regs := t.dev.regs, tws := t.dev.tws } ∧ flag (twsReg t.dev p 0xC) 3 = true ∧
        regsBut (if p = 8 then [unitBase .twt 0 + 0x100C, unitBase .twt 0 + 0x20] else [unitBase .tws p + 0xC]) s.dev t.dev ∧
          twsOf t.dev p = { twsOf s.dev p with inRecovery := false, busy := false }) ∧
      (∀ k : Fin 16, ((twsOf s.dev p).running = some (.desc k) ∨ ((twsOf s.dev p).running = none ∧ (twsOf s.dev p).order.head? = some (.desc k) ∧
          (p = 8 ∨ flag (twsReg s.dev p 4) 31 = false))) → (twsOf s.dev p).done.length < 16 →
        Answers (.twsRecoveryDone p false) s (fun t =>
          onlyDev s t ∧ t.dev.mem = s.dev.mem ∧ (twsOf t.dev p).running = none ∧
          (twsOf t.dev p).order = (twsOf s.dev p).order.erase (.desc k) ∧ (twsOf t.dev p).inRecovery = false ∧
          (twsOf t.dev p).fresh = true ∧ (twsOf t.dev p).done = (twsOf s.dev p).done ++ [{ desc := k, status := 5, bytes := 0 }] ∧
          flag (twsReg t.dev p 0xC) 4 = true ∧
          t.dev.reports = s.dev.reports ++ [{ source := twsSource p, addr := sourceBase (twsSource p) }]))) ∧
    (∀ (p : Fin 8) c, c = getF s.dev .tws p 4 27 24 →
      (getB s.dev .tws p 0 0 = true → fenced s.dev .tws p = false → domainOn s.dev 47 = true → getB s.dev .tws p 4 31 = true →
        getB s.dev .ctx c 0 0 = true → fenced s.dev .ctx c = false → exec (.twsWindowOpen p dt) s =
          .next (withDev (passTime s dt) (onTws s.dev p (fun x => { x with
            windowOpen := true
            closeAt := max x.closeAt ((passTime s dt).clock.cycles + max 1 (getF s.dev .tws p 4 11 0) * 500) })))) ∧
      ((getB s.dev .tws p 4 31 = false ∨ getB s.dev .ctx c 0 0 = false) → exec (.twsWindowOpen p dt) s = .next (passTime s dt))) ∧
    (∀ p : Fin 8, (twsOf s.dev p).windowOpen = true →
      ((twsOf s.dev p).closeAt ≤ (passTime s dt).clock.cycles → exec (.twsWindowClose p dt) s =
        .next (withDev (passTime s dt) (onTws s.dev p (fun x => { x with windowOpen := false })))) ∧
      ((passTime s dt).clock.cycles < (twsOf s.dev p).closeAt → exec (.twsWindowClose p dt) s = .next (passTime s dt)))

/-! ### Boot, the security engine and heads -/

/-- The boot ROM. In BOOT the straps choose: 1 waits for a download with the trunk on TF0 alone, 3 enters DIAG, 0 and 2 read both copies; with no copy
readable strap 0 enters RESCUE and strap 2 waits for a download, each unreadable copy in BOOT_STATUS; one readable copy is verified. A copy that
passes is to be loaded; one that does not, or cannot be read to its end (0x07), is rejected with its code, and after the last the device enters
RESCUE. A verification takes its place in the security engine's queue, and ends only while it is served and the engine has power. Of a bundle in the
download buffer, in RESCUE, the install flag has the failed copy erased and programmed, copy A where both failed, but not under strap 1; else the
rescue reset, cause 5, is due, as it is when the copy has been programmed; one that fails leaves RESCUE. Outside these stages the commands do nothing.
Loading, and DIAG's acknowledgements. A bundle of one component, drover 0's program, that passed VERIFY is loaded: its image enters drover 0's
instruction memory, the shared memory reads 0 and the pan stays, drover 0 runs from its entry point, BOOT_STATUS and BOOT_BUNDLE name it, the
measurement log holds its one entry, and the mode becomes TRAIN. In DIAG from BOOT a registration of class RETRY or FENCE is acknowledged, one of
another class is not. The model's readings: assumption log 16, 60, 61, 62, 107 and 143. -/
def Obligations.TheBootRomVerifiesAndLoads : Prop :=
  (∀ (s : State), UnitsOn s →
    ((s.sys.mode ≠ .boot ∨ s.dev.boot.stage ≠ .reading) → ∀ a b, exec (.bootTableRead a b) s = .next s) ∧
    (s.sys.mode = .boot → s.dev.boot.stage = .reading → s.sys.resetLow = false → getB s.dev .glob 0 0x20 5 = false →
      (s.sys.straps.boot = 1 → ∀ a b, Answers (.bootTableRead a b) s (fun t =>
        onlyDev s t ∧ t.dev.boot.stage = .download ∧ t.dev.mem = s.dev.mem ∧ (vget t.dev.groups 0).config = 0)) ∧
      (s.sys.straps.boot = 3 → ∀ a b, Answers (.bootTableRead a b) s (fun t =>
        t.sys.mode = .diag ∧ t.dev.boot.stage = .done ∧ t.dev.mem = s.dev.mem ∧ (vget t.dev.groups 0).config = s.sys.straps.trunk)) ∧
      (s.sys.straps.boot = 0 → Answers (.bootTableRead none none) s (fun t =>
        t.sys.mode = .rescue ∧ t.dev.boot.stage = .download ∧ t.dev.mem = s.dev.mem ∧ getB t.dev .boot 0 0 3 = true ∧
        getB t.dev .boot 0 0 4 = true)) ∧
      (s.sys.straps.boot = 2 → Answers (.bootTableRead none none) s (fun t =>
        t.sys.mode = .boot ∧ t.dev.boot.stage = .download ∧ t.dev.mem = s.dev.mem ∧ getB t.dev .boot 0 0 3 = true ∧
        getB t.dev .boot 0 0 4 = true)) ∧
      (∀ l a b c, (a, b, c) ∈ [(some l, none, false), (none, some l, true)] → s.sys.straps.boot ∈ [0, 2] → readable l = true →
        Answers (.bootTableRead a b) s (fun t =>
          t.sys.mode = .verify ∧ t.dev.boot.stage = .verifyQspi c false ∧ t.dev.sec.jobs = s.dev.sec.jobs ++ [.verify] ∧ t.dev.mem = s.dev.mem ∧
          getB t.dev .boot 0 0 (if c then 3 else 4) = true)) ∧
      (∀ l, s.sys.straps.boot ∈ [0, 2] → readable l = true → Answers (.bootTableRead (some l) (some l)) s (fun t =>
        t.sys.mode = .verify ∧ t.dev.boot.stage = .verifyQspi false true ∧ t.dev.sec.jobs = s.dev.sec.jobs ++ [.verify] ∧
          get t.dev .boot 0 0 = get s.dev .boot 0 0))) ∧
    ((∀ l, s.dev.sec.jobs ≠ .verify :: l) → s.dev.sec.jobs.length ≤ 1 → ∀ image, exec (.verifyDone image) s = .next s) ∧
    (domainOn s.dev 49 = false → ∀ image, exec (.verifyDone image) s = .next s) ∧
    (s.dev.sec.jobs = [.verify] → domainOn s.dev 49 = true →
    (∀ copyB, s.sys.mode = .verify →
      (s.dev.boot.stage = .verifyQspi copyB true → Answers (.verifyDone none) s (fun t =>
        onlyDev s t ∧ t.dev.boot.stage = .verifyQspi (!copyB) false ∧ t.dev.sec.jobs = [.verify] ∧
          getB t.dev .boot 0 0 (if copyB then 1 else 0) = true ∧
        getF t.dev .boot 0 8 (if copyB then 15 else 7) (if copyB then 8 else 0) = 7 ∧
        { source := 141, addr := sourceBase 141 } ∈ t.dev.reports)) ∧
      (s.dev.boot.stage = .verifyQspi copyB false → Answers (.verifyDone none) s (fun t =>
        t.sys.mode = .rescue ∧ t.dev.boot.stage = .download ∧ t.dev.sec.jobs = [] ∧ getB t.dev .boot 0 0 (if copyB then 1 else 0) = true))) ∧
    (∀ image, s.sys.mode = .rescue → s.dev.boot.stage = .verifyBuffer →
      Answers (.verifyDone image) s (fun t => t.sys.mode = .rescue ∧ t.dev.sec.jobs = [] ∧
        match verifyBuffer s.dev with
        | .inl q =>
          onlyDev s t ∧ t.dev.boot.stage = .download ∧ getB t.dev .boot 0 0 2 = true ∧
          getF t.dev .boot 0 8 23 16 = q.1 % 256 ∧ { source := 141, addr := sourceBase 141 } ∈ t.dev.reports
        | .inr b =>
          if b.install = true ∧ s.sys.straps.boot ≠ 1 then t.dev.boot.stage =
            .install (s.dev.boot.failB && !s.dev.boot.failA) (if s.dev.boot.failB ∧ s.dev.boot.failA = false then 0x800000 else 0) [0x06, 0x20, 0x02]
          else t.dev.boot.stage = .done ∧ 5 ∈ t.sys.resets)) ∧
    (∀ copyB other l, s.sys.mode = .verify → s.dev.boot.stage = .verifyQspi copyB other → Answers (.verifyDone (some l)) s (fun t =>
      match verifyBytes s.dev (fun _ _ => false) l 0x800000 with
      | .inr b => t.sys = s.sys ∧ t.dev.boot.stage = .loading (if copyB then 1 else 0) ∧ t.dev.boot.bundle = some b ∧ t.dev.regs = s.dev.regs
      | .inl q =>
        getB t.dev .boot 0 0 (if copyB then 1 else 0) = true ∧
        getF t.dev .boot 0 8 (if copyB then 15 else 7) (if copyB then 8 else 0) = q.1 % 256 ∧
        (if other then t.sys = s.sys ∧ t.dev.boot.stage = .verifyQspi (!copyB) false
         else t.sys.mode = .rescue ∧ t.dev.boot.stage = .download)))) ∧
    ((∀ copyB base l, s.dev.boot.stage ≠ .install copyB base l) → exec .qspiProgramDone s = .next s) ∧
    (∀ copyB base l, s.dev.boot.stage = .install copyB base l → s.sys.mode ≠ .halt → exec .qspiProgramDone s = .next { s with
      sys := { s.sys with resets := if 5 ∈ s.sys.resets then s.sys.resets else s.sys.resets ++ [5] }
      dev := { s.dev with boot := { s.dev.boot with stage := .done } } })) ∧
  (∀ (s : State) (n : Fin 192), UnitsOn s →
    (s.sys.mode ≠ .verify → exec .loadDone s = .next s) ∧
    (∀ src b c, s.sys.mode = .verify → src ≤ 2 → s.dev.boot.stage = .loading src → s.dev.boot.bundle = some b → b.comps = [c] → c.kind = 1 →
      c.target = 0 → c.load + c.length ≤ 0x20000 → c.entry < 0x20000 → (drvOf s.dev 0).state = .reset → (vget s.dev.groups 0).state = .off →
        Answers .loadDone s (fun t =>
        t.sys.mode = .train ∧ t.dev.boot.stage = .done ∧ t.pending = s.pending ∧
        getF t.dev .boot 0 0 9 8 = src ∧ getF t.dev .boot 0 4 7 0 = b.secver % 256 ∧ getF t.dev .boot 0 4 31 16 = b.serial % 65536 ∧
        t.dev.sec.log = [{ kind := 1, target := 0, replaced := false, hash := c.hash }] ∧
        (drvOf t.dev 0).state = .running ∧ (drvOf t.dev 0).pc = c.entry / 4 * 4 ∧
        (∀ i, i < c.length → memByte t.dev (0x700000 + c.load + i) = memByte s.dev (panBase + bufBase s.dev + c.offset + i)) ∧
        (∀ a, 0x7C0000 ≤ a → a < 0x800000 → memByte t.dev a = 0) ∧ ∀ a, panBase ≤ a → memByte t.dev a = memByte s.dev a)) ∧
    ((s.sys.mode ≠ .diag ∨ s.sys.straps.boot ≠ 3 ∨ s.sys.prev ≠ modeCode .boot ∨ heldBy s.dev n = none) → exec (.diagAutoAck n) s = .next s) ∧
    (∀ u, s.sys.mode = .diag → s.sys.straps.boot = 3 → s.sys.prev = modeCode .boot → heldBy s.dev n = some u →
      (u.cls ≠ 1 → u.cls ≠ 2 → exec (.diagAutoAck n) s = .next s) ∧
      (u.cls = 1 ∨ u.cls = 2 → Answers (.diagAutoAck n) s (fun t => onlyDev s t ∧ t.dev.mem = s.dev.mem ∧ heldBy t.dev n = none ∧
        ∀ k : Fin 192, k ≠ n → heldBy t.dev k = heldBy s.dev k))))

/-- The security engine. A verification joins the queue, at run time forgetting the bundle that passed, and its end at run time names the bundle that
passes, or rejects it with its code and entry; a record appends the passing bundle's components, flagged replaced, or is refused whole with log_full;
an attestation joins the queue with the nonce of that moment, or is refused when no leaf is left. A preparation that is done makes the engine ready; a
report that is done goes to the pan, with its length, att_done and the next signature index. The model's readings: assumption log 63 and 87. -/
def Obligations.TheSecurityEngineServesItsQueue : Prop :=
  ∀ (s : State) (m : Fin 7),
    (TakesWrite s m .sec 0 0 2#32 → s.sys.mode ∈ [.ready, .run, .degraded, .diag] → exec (.secVerify m) s =
      .next (withDev s { s.dev with sec := { s.dev.sec with passed := none, jobs := s.dev.sec.jobs ++ [.verify] } })) ∧
    (TakesWrite s m .sec 0 0 2#32 → s.sys.mode = .rescue → s.dev.boot.stage = .download → exec (.secVerify m) s =
      .next (withDev s { s.dev with
        boot := { s.dev.boot with stage := .verifyBuffer }, sec := { s.dev.sec with jobs := s.dev.sec.jobs ++ [.verify] } })) ∧
    (UnitsOn s → s.dev.sec.jobs = [.verify] → domainOn s.dev 49 = true → s.dev.boot.stage = .done → ∀ image,
      Answers (.verifyDone image) s (fun t => onlyDev s t ∧ t.dev.sec.jobs = [] ∧
        match verifyBuffer s.dev with
        | .inl q =>
          t.dev.sec.passed = s.dev.sec.passed ∧ getB t.dev .sec 0 4 1 = true ∧ getF t.dev .sec 0 8 31 24 = q.1 % 256 ∧
          { source := 141, addr := sourceBase 141 } ∈ t.dev.reports
        | .inr b => t.dev.sec.passed = some b ∧ getB t.dev .sec 0 4 0 = true)) ∧
    (TakesWrite s m .sec 0 0 4#32 →
      (s.dev.sec.passed = none → exec (.secRecord m) s = .next s) ∧
      (∀ b, s.dev.sec.passed = some b →
        (s.dev.sec.log.length + b.comps.length ≤ 64 → exec (.secRecord m) s = .next (withDev s { s.dev with sec := { s.dev.sec with
          log := s.dev.sec.log ++
            b.comps.map (fun c => { kind := c.kind, target := c.target, replaced := true, hash := c.hash }) } })) ∧
        (64 < s.dev.sec.log.length + b.comps.length → Answers (.secRecord m) s (fun t =>
          t = withDev s { s.dev with regs := t.dev.regs } ∧ getB t.dev .sec 0 4 4 = true ∧ regsBut [unitBase .sec 0 + 4] s.dev t.dev)))) ∧
    (TakesWrite s m .sec 0 0 1#32 →
      (leavesGone s.dev = true → Answers (.secAttest m) s (fun t =>
        t = withDev s { s.dev with regs := t.dev.regs, reports := t.dev.reports } ∧ getB t.dev .sec 0 4 3 = true ∧
        t.dev.reports = s.dev.reports ++ [{ source := 143, addr := sourceBase 143 }])) ∧
      (leavesGone s.dev = false → s.dev.sec.jobs ≠ [] ∨ s.dev.sec.ready = false ∨ getF s.dev .sec 0 0x48 26 16 < 1024 →
        exec (.secAttest m) s = .next (withDev s { s.dev with sec := { s.dev.sec with
        jobs := s.dev.sec.jobs ++
          [.attest ((List.range 8).flatMap (fun i => leBytes 4 (get s.dev .sec 0 (0x20 + 4 * i)).toNat))] } }))) ∧
    (UnitsOn s → domainOn s.dev 49 = true →
      (s.dev.sec.jobs = [] → exec .attestPrepared s = .next s ∧ exec .attestDone s = .next s) ∧
      (s.dev.sec.jobs = [.prepare] → exec .attestPrepared s =
        .next (withDev s { s.dev with sec := { s.dev.sec with ready := true, idle := true, jobs := [] } })) ∧
      (∀ nonce, s.dev.sec.jobs = [.attest nonce] →
        (s.dev.sec.ready = false → exec .attestDone s = .next s) ∧
        (s.dev.sec.ready = true → domainOn s.dev 32 = true → getF s.dev .sec 0 0x48 26 16 < 1024 →
          (5876 + 40 * s.dev.sec.log.length) + getF s.dev .sec 0 0x40 24 12 * 0x1000 ≤ panSize →
          nonce.length = 32 → (∀ x ∈ s.dev.sec.log, x.hash.length = 32) →
          Answers .attestDone s (fun t =>
            onlyDev s t ∧ t.dev.sec.jobs = [] ∧ getB t.dev .sec 0 4 2 = true ∧
            (get t.dev .sec 0 0x44).toNat = 5876 + 40 * s.dev.sec.log.length ∧
            getF t.dev .sec 0 0x48 26 16 = getF s.dev .sec 0 0x48 26 16 + 1 ∧
            (∀ i, i < 32 → memByte t.dev (panBase + getF s.dev .sec 0 0x40 24 12 * 0x1000 + 8 + i) = nonce.getD i 0) ∧
            ∀ a, a < panBase + getF s.dev .sec 0 0x40 24 12 * 0x1000 ∨
              panBase + getF s.dev .sec 0 0x40 24 12 * 0x1000 + 5876 + 40 * s.dev.sec.log.length ≤ a → memByte t.dev a = memByte s.dev a))))

/-- Heads. A probe that may start enters its four reads in its port's queue. When they have ended, a probe whose address was not acknowledged, or whose
first CRC fails, leaves the head ABSENT; one that finds a new record makes the entry with verdict NONE, with event 44 and the head's source, and the
verdict that follows; a change of verdict is reported once. The reads of a certificate end one by one, and the last has the security engine check the
whole, which makes the head VALID with its key, or INVALID; a read that fails makes it INVALID. An hour of an entry that is not ABSENT adds one to its
counter while its domain is on; a counter that reaches its limit is reported once; an old temperature is no longer valid. The model's readings:
assumption log 8, 16, 64 and 141. -/
def Obligations.HeadsAreProbedAndCounted : Prop :=
  ∀ (s : State) (c : Fin 16),
    (UnitsOn s → getB s.dev .head 0 (c * 0x40) 31 = true → getB s.dev .ctx c 0 0 = true → twsUsable s.dev (ctxPort s.dev c) = true →
      (vget s.dev.heads c).probing = false → exec (.headProbe c) s = .next (withDev s { s.dev with
        heads := vmod s.dev.heads c (fun h => { h with probing := true, readBad := false })
        tws := vmod s.dev.tws (ctxPort s.dev c) (fun x => { x with order := x.order ++ [.probe c 0, .probe c 1, .probe c 2, .probe c 3] }) })) ∧
    (UnitsOn s → (getB s.dev .head 0 (c * 0x40) 31 = false ∨ getB s.dev .ctx c 0 0 = false ∨ (vget s.dev.heads c).probing = true) →
      exec (.headProbe c) s = .next s) ∧
    (UnitsOn s → (vget s.dev.heads c).probing = false ∨ readsLeft s.dev c = true → ∀ r, exec (.headProbeDone c r) s = .next s) ∧
    (UnitsOn s → (vget s.dev.heads c).probing = true → readsLeft s.dev c = false → domainOn s.dev 49 = true →
      (∀ r : Option (List Byte), (vget s.dev.heads c).readBad = true ∨ (∀ l, r = some l → l.length < 112 ∨ recCrc l 0 94 = false) →
        ((vget s.dev.heads c).verdict = 4 →
          exec (.headProbeDone c r) s = .next (withDev s (onHead s.dev c (fun h => { h with probing := false })))) ∧
        ((vget s.dev.heads c).verdict ≠ 4 → Answers (.headProbeDone c r) s (fun t =>
          onlyDev s t ∧ t.dev.mem = s.dev.mem ∧ vget t.dev.heads c = { vget s.dev.heads c with probing := false, verdict := 4 } ∧
          getB t.dev .head 0 (c * 0x40 + 4) 1 = true ∧ t.dev.events = s.dev.events ++ [{ num := 44 }] ∧
          t.dev.reports = s.dev.reports ++ [{ source := 153 + c, addr := sourceBase (153 + c) }]))) ∧
      (∀ r, (vget s.dev.heads c).readBad = false → 112 ≤ r.length → recCrc r 0 94 = true → recCrc r 96 12 = true →
        ((vget s.dev.heads c).entry = false ∨ recIdentity (vget s.dev.heads c).record ≠ recIdentity r) → recCert r = false →
        Answers (.headProbeDone c (some r)) s (fun t =>
          onlyDev s t ∧ t.dev.mem = s.dev.mem ∧ (vget t.dev.heads c).entry = true ∧ (vget t.dev.heads c).record = r.take 112 ∧
          (vget t.dev.heads c).verdict = 2 ∧ (vget t.dev.heads c).phr = leVal ((r.drop 96).take 4) ∧
          (vget t.dev.heads c).hot = leVal ((r.drop 100).take 4) ∧
          (vget t.dev.heads c).cyc = min 0xFFFFFFFF (leVal ((r.drop 104).take 4) + 1) ∧ (vget t.dev.heads c).probing = false ∧
          getB t.dev .head 0 (c * 0x40 + 4) 0 = true ∧ getB t.dev .head 0 (c * 0x40 + 4) 1 = true ∧ { num := 44 } ∈ t.dev.events ∧
          { source := 153 + c, addr := sourceBase (153 + c) } ∈ t.dev.reports))) ∧
    (UnitsOn s → ∀ (p : Fin 9) (i n : Nat) (l : List Byte) (ended : Dev), (twsOf s.dev p).inFlight = true →
      ended = onTws s.dev p (fun x => { x with running := none, inFlight := false, waiting := false, tries := 0, busy := true }) →
      ((twsOf s.dev p).running = some (.probe c i) →
        exec (.twsTransactionEnd p 0 n l) s = .next (withDev s ended) ∧
        Answers (.twsTransactionEnd p 2 n l) s (fun t =>
          onlyDev s t ∧ vget t.dev.heads c = { vget s.dev.heads c with readBad := true } ∧ readsLeft t.dev c = false)) ∧
      (∀ got, (twsOf s.dev p).running = some (.cert c i) →
        got = (vget s.dev.heads c).cert ++ (l ++ List.replicate 28 0xFF).take (certPart (vget s.dev.heads c).record i) →
        (i + 1 < certReads (vget s.dev.heads c).record → exec (.twsTransactionEnd p 0 n l) s =
          .next (withDev s (onHead ended c (fun h => { h with cert := got })))) ∧
        (certReads (vget s.dev.heads c).record ≤ i + 1 → exec (.twsTransactionEnd p 0 n l) s = .next (withDev s { ended with
          heads := vmod s.dev.heads c (fun h => { h with cert := [] })
          sec := { s.dev.sec with jobs := s.dev.sec.jobs ++ [.head c (vget s.dev.heads c).record got] } })) ∧
        Answers (.twsTransactionEnd p 2 n l) s (fun t => onlyDev s t ∧ (vget t.dev.heads c).verdict = 3))) ∧
    (UnitsOn s → s.dev.sec.jobs = [] → exec (.headCertDone c) s = .next s) ∧
    (UnitsOn s → ∀ record cert, s.dev.sec.jobs = [.head c record cert] → domainOn s.dev 49 = true →
      (record ≠ (vget s.dev.heads c).record ∨ (vget s.dev.heads c).verdict = 4 → exec (.headCertDone c) s =
        .next (withDev s { s.dev with sec := { s.dev.sec with jobs := [] } })) ∧
      (∀ v, v = (if certOk s.dev (record.take 96) cert then 1 else 3) → record = (vget s.dev.heads c).record →
        (vget s.dev.heads c).verdict ≠ 4 → Answers (.headCertDone c) s (fun t =>
        onlyDev s t ∧ t.dev.mem = s.dev.mem ∧ t.dev.sec.jobs = [] ∧ (vget t.dev.heads c).verdict = v ∧
        (vget t.dev.heads c).key = (if v = 1 then cert.take 60 else (vget s.dev.heads c).key) ∧
        ((vget s.dev.heads c).verdict ≠ v → getB t.dev .head 0 (c * 0x40 + 4) 1 = true ∧ { num := 44 } ∈ t.dev.events) ∧
        ((vget s.dev.heads c).verdict = v → t.dev.regs = s.dev.regs ∧ t.dev.reports = s.dev.reports)))) ∧
    (AonOn s →
      ((vget s.dev.heads c).entry = false ∨ (vget s.dev.heads c).verdict = 4 → ∀ hot, exec (.headCounterHour c hot) s = .next s) ∧
      ((vget s.dev.heads c).entry = true → (vget s.dev.heads c).verdict ≠ 4 → domainOn s.dev (ctxPort s.dev c + 1) = true →
        (∀ i ∈ [1, 2], i ∈ (vget s.dev.heads c).hit ∨ limitReached (vget s.dev.heads c) i = false) →
        ∀ q, recWord (vget s.dev.heads c).record 30 = q →
        ((q = 0 ∨ (vget s.dev.heads c).phr + 1 < q ∨ 0 ∈ (vget s.dev.heads c).hit) → exec (.headCounterHour c false) s =
          .next (withDev s (onHead s.dev c (fun h => { h with phr := min 0xFFFFFFFF (h.phr + 1) })))) ∧
        (0 < q → q ≤ (vget s.dev.heads c).phr + 1 → (vget s.dev.heads c).phr < 0xFFFFFFFF → 0 ∉ (vget s.dev.heads c).hit →
          Answers (.headCounterHour c false) s (fun t =>
            onlyDev s t ∧ t.dev.mem = s.dev.mem ∧ (vget t.dev.heads c).eol = true ∧ (vget t.dev.heads c).hit = (vget s.dev.heads c).hit ++ [0] ∧
            (vget t.dev.heads c).phr = (vget s.dev.heads c).phr + 1 ∧ getB t.dev .head 0 (c * 0x40 + 4) 2 = true ∧
            { source := 153 + c, addr := sourceBase (153 + c) } ∈ t.dev.reports))) ∧
      exec (.headTempExpire c) s = .next (withDev s (onHead s.dev c (fun h => { h with tempOk := false }))))
end

