-- ==== Sys2Proof/Laws/Bits.lean ====
section
/-! SUPPORT. Fields of words: what a field reads as after a field was set. -/

namespace Sys2Proof.Machine

/-- The two lower parts of a word with a field set stay below the part above. -/
theorem setFld_low_lt (w : Word) (hi lo v : Nat) (h : lo ≤ hi) :
    w.toNat % 2 ^ lo + v % 2 ^ (hi + 1 - lo) * 2 ^ lo < 2 ^ (hi + 1) := by
  have e : 2 ^ (hi + 1) = 2 ^ (hi + 1 - lo) * 2 ^ lo := by rw [← Nat.pow_add]; congr 1; omega
  have h1 : w.toNat % 2 ^ lo < 2 ^ lo := Nat.mod_lt _ (Nat.two_pow_pos lo)
  have h2 : v % 2 ^ (hi + 1 - lo) < 2 ^ (hi + 1 - lo) := Nat.mod_lt _ (Nat.two_pow_pos _)
  calc w.toNat % 2 ^ lo + v % 2 ^ (hi + 1 - lo) * 2 ^ lo
      < 2 ^ lo + v % 2 ^ (hi + 1 - lo) * 2 ^ lo := by omega
    _ = (v % 2 ^ (hi + 1 - lo) + 1) * 2 ^ lo := by rw [Nat.add_mul, Nat.one_mul, Nat.add_comm]
    _ ≤ 2 ^ (hi + 1 - lo) * 2 ^ lo := Nat.mul_le_mul_right _ h2
    _ = 2 ^ (hi + 1) := e.symm

/-- The value of a word with a field set. -/
theorem setFld_toNat (w : Word) (hi lo v : Nat) (h : lo ≤ hi) (h32 : hi < 32) :
    (setFld w hi lo v).toNat = w.toNat % 2 ^ lo + v % 2 ^ (hi + 1 - lo) * 2 ^ lo + w.toNat / 2 ^ (hi + 1) * 2 ^ (hi + 1) := by
  unfold setFld
  rw [BitVec.toNat_ofNat, Nat.mod_eq_of_lt]
  have hl := setFld_low_lt w hi lo v h
  have hw : w.toNat < 2 ^ 32 := w.isLt
  have e : 2 ^ 32 = 2 ^ (32 - (hi + 1)) * 2 ^ (hi + 1) := by rw [← Nat.pow_add]; congr 1; omega
  have hq : w.toNat / 2 ^ (hi + 1) < 2 ^ (32 - (hi + 1)) := by
    rw [Nat.div_lt_iff_lt_mul (Nat.two_pow_pos _)]; omega
  have hm : (w.toNat / 2 ^ (hi + 1) + 1) * 2 ^ (hi + 1) ≤ 2 ^ (32 - (hi + 1)) * 2 ^ (hi + 1) := Nat.mul_le_mul_right _ hq
  rw [Nat.add_mul, Nat.one_mul] at hm
  omega

/-- A field that was set. -/
theorem fld_setFld_same (w : Word) (hi lo v : Nat) (h : lo ≤ hi) (h32 : hi < 32) :
    fld (setFld w hi lo v) hi lo = v % 2 ^ (hi + 1 - lo) := by
  unfold fld bitsOf
  rw [setFld_toNat w hi lo v h h32]
  have e : 2 ^ (hi + 1) = 2 ^ lo * 2 ^ (hi + 1 - lo) := by rw [← Nat.pow_add]; congr 1; omega
  have h1 : w.toNat % 2 ^ lo < 2 ^ lo := Nat.mod_lt _ (Nat.two_pow_pos lo)
  have e2 : w.toNat % 2 ^ lo + v % 2 ^ (hi + 1 - lo) * 2 ^ lo + w.toNat / 2 ^ (hi + 1) * 2 ^ (hi + 1)
      = w.toNat % 2 ^ lo + 2 ^ lo * (v % 2 ^ (hi + 1 - lo) + w.toNat / 2 ^ (hi + 1) * 2 ^ (hi + 1 - lo)) := by
    rw [e, Nat.mul_add, Nat.mul_comm (v % _), ← Nat.add_assoc, Nat.mul_left_comm]
  rw [e2, Nat.add_mul_div_left _ _ (Nat.two_pow_pos lo), Nat.div_eq_of_lt h1, Nat.zero_add, Nat.add_mul_mod_self_right,
    Nat.mod_mod]

/-- A field below the one that was set. -/
theorem fld_setFld_below (w : Word) (hi lo v a b : Nat) (h : lo ≤ hi) (h32 : hi < 32) (hb : b ≤ a) (hab : a < lo) :
    fld (setFld w hi lo v) a b = fld w a b := by
  unfold fld bitsOf
  rw [setFld_toNat w hi lo v h h32]
  have e : 2 ^ lo = 2 ^ (a + 1) * 2 ^ (lo - (a + 1)) := by rw [← Nat.pow_add]; congr 1; omega
  have e1 : 2 ^ (hi + 1) = 2 ^ (a + 1) * 2 ^ (hi - a) := by rw [← Nat.pow_add]; congr 1; omega
  have key : (w.toNat % 2 ^ lo + v % 2 ^ (hi + 1 - lo) * 2 ^ lo + w.toNat / 2 ^ (hi + 1) * 2 ^ (hi + 1)) % 2 ^ (a + 1)
      = w.toNat % 2 ^ (a + 1) := by
    have r1 : v % 2 ^ (hi + 1 - lo) * 2 ^ lo = 2 ^ (a + 1) * (v % 2 ^ (hi + 1 - lo) * 2 ^ (lo - (a + 1))) := by
      rw [e, Nat.mul_left_comm]
    have r2 : w.toNat / 2 ^ (hi + 1) * 2 ^ (hi + 1) = 2 ^ (a + 1) * (w.toNat / 2 ^ (hi + 1) * 2 ^ (hi - a)) := by
      rw [Nat.mul_left_comm, ← e1]
    rw [r1, r2, Nat.add_mul_mod_self_left, Nat.add_mul_mod_self_left, e, Nat.mod_mul_right_mod]
  have step : ∀ n : Nat, n / 2 ^ b % 2 ^ (a + 1 - b) = n % 2 ^ (a + 1) / 2 ^ b := by
    intro n
    have e3 : 2 ^ (a + 1) = 2 ^ b * 2 ^ (a + 1 - b) := by rw [← Nat.pow_add]; congr 1; omega
    rw [e3, Nat.mod_mul_right_div_self]
  rw [step, step, key]

/-- A field above the one that was set. -/
theorem fld_setFld_above (w : Word) (hi lo v a b : Nat) (h : lo ≤ hi) (h32 : hi < 32) (hab : hi < b) :
    fld (setFld w hi lo v) a b = fld w a b := by
  unfold fld bitsOf
  rw [setFld_toNat w hi lo v h h32]
  have hl := setFld_low_lt w hi lo v h
  have e : 2 ^ b = 2 ^ (hi + 1) * 2 ^ (b - (hi + 1)) := by rw [← Nat.pow_add]; congr 1; omega
  have e2 : (w.toNat % 2 ^ lo + v % 2 ^ (hi + 1 - lo) * 2 ^ lo + w.toNat / 2 ^ (hi + 1) * 2 ^ (hi + 1)) / 2 ^ (hi + 1)
      = w.toNat / 2 ^ (hi + 1) := by
    rw [Nat.mul_comm (w.toNat / _), Nat.add_mul_div_left _ _ (Nat.two_pow_pos _), Nat.div_eq_of_lt hl, Nat.zero_add]
  rw [e, ← Nat.div_div_eq_div_mul, e2, Nat.div_div_eq_div_mul]

/-- Bit i of a mixed word. -/
theorem mixBits_getLsb (w v m : Word) (i : Nat) (h : i < 32) :
    (mixBits w v m).getLsbD i = if m.getLsbD i then v.getLsbD i else w.getLsbD i := by
  unfold mixBits
  simp only [BitVec.getLsbD_or, BitVec.getLsbD_and, BitVec.getLsbD_not, h, decide_true, Bool.true_and]
  cases m.getLsbD i <;> simp

end Sys2Proof.Machine
end

