-- ==== Sys2Proof/Laws/Dev.lean ====
section
/-! SUPPORT. What each shared update of the device changes and leaves: one lemma per field per update. -/

namespace Sys2Proof.Machine

variable (d : Dev)

/-! ### wr -/

@[simp] theorem wr_regs (a : Nat) (w : Word) : (wr d a w).regs = sPut (resetWord a) d.regs a w := (rfl)
@[simp] theorem wr_staged (a : Nat) (w : Word) : (wr d a w).staged = d.staged := (rfl)
@[simp] theorem wr_mem (a : Nat) (w : Word) : (wr d a w).mem = d.mem := (rfl)
@[simp] theorem wr_badLines (a : Nat) (w : Word) : (wr d a w).badLines = d.badLines := (rfl)
@[simp] theorem wr_ports (a : Nat) (w : Word) : (wr d a w).ports = d.ports := (rfl)
@[simp] theorem wr_ctxs (a : Nat) (w : Word) : (wr d a w).ctxs = d.ctxs := (rfl)
@[simp] theorem wr_pipes (a : Nat) (w : Word) : (wr d a w).pipes = d.pipes := (rfl)
@[simp] theorem wr_views (a : Nat) (w : Word) : (wr d a w).views = d.views := (rfl)
@[simp] theorem wr_taps (a : Nat) (w : Word) : (wr d a w).taps = d.taps := (rfl)
@[simp] theorem wr_drvs (a : Nat) (w : Word) : (wr d a w).drvs = d.drvs := (rfl)
@[simp] theorem wr_boxes (a : Nat) (w : Word) : (wr d a w).boxes = d.boxes := (rfl)
@[simp] theorem wr_compares (a : Nat) (w : Word) : (wr d a w).compares = d.compares := (rfl)
@[simp] theorem wr_panReqs (a : Nat) (w : Word) : (wr d a w).panReqs = d.panReqs := (rfl)
@[simp] theorem wr_panTurn (a : Nat) (w : Word) : (wr d a w).panTurn = d.panTurn := (rfl)
@[simp] theorem wr_events (a : Nat) (w : Word) : (wr d a w).events = d.events := (rfl)
@[simp] theorem wr_reports (a : Nat) (w : Word) : (wr d a w).reports = d.reports := (rfl)
@[simp] theorem wr_bestEff (a : Nat) (w : Word) : (wr d a w).bestEff = d.bestEff := (rfl)
@[simp] theorem wr_tapQueue (a : Nat) (w : Word) : (wr d a w).tapQueue = d.tapQueue := (rfl)
@[simp] theorem wr_softLines (a : Nat) (w : Word) : (wr d a w).softLines = d.softLines := (rfl)
@[simp] theorem wr_groups (a : Nat) (w : Word) : (wr d a w).groups = d.groups := (rfl)
@[simp] theorem wr_lanes (a : Nat) (w : Word) : (wr d a w).lanes = d.lanes := (rfl)
@[simp] theorem wr_trunk (a : Nat) (w : Word) : (wr d a w).trunk = d.trunk := (rfl)
@[simp] theorem wr_snaps (a : Nat) (w : Word) : (wr d a w).snaps = d.snaps := (rfl)
@[simp] theorem wr_latches (a : Nat) (w : Word) : (wr d a w).latches = d.latches := (rfl)
@[simp] theorem wr_tsq (a : Nat) (w : Word) : (wr d a w).tsq = d.tsq := (rfl)
@[simp] theorem wr_caps (a : Nat) (w : Word) : (wr d a w).caps = d.caps := (rfl)
@[simp] theorem wr_trigs (a : Nat) (w : Word) : (wr d a w).trigs = d.trigs := (rfl)
@[simp] theorem wr_flt (a : Nat) (w : Word) : (wr d a w).flt = d.flt := (rfl)
@[simp] theorem wr_twt (a : Nat) (w : Word) : (wr d a w).twt = d.twt := (rfl)
@[simp] theorem wr_tws (a : Nat) (w : Word) : (wr d a w).tws = d.tws := (rfl)
@[simp] theorem wr_otp (a : Nat) (w : Word) : (wr d a w).otp = d.otp := (rfl)
@[simp] theorem wr_otpBad (a : Nat) (w : Word) : (wr d a w).otpBad = d.otpBad := (rfl)
@[simp] theorem wr_aonBad (a : Nat) (w : Word) : (wr d a w).aonBad = d.aonBad := (rfl)
@[simp] theorem wr_boot (a : Nat) (w : Word) : (wr d a w).boot = d.boot := (rfl)
@[simp] theorem wr_sec (a : Nat) (w : Word) : (wr d a w).sec = d.sec := (rfl)
@[simp] theorem wr_heads (a : Nat) (w : Word) : (wr d a w).heads = d.heads := (rfl)
@[simp] theorem wr_power (a : Nat) (w : Word) : (wr d a w).power = d.power := (rfl)
@[simp] theorem wr_guards (a : Nat) (w : Word) : (wr d a w).guards = d.guards := (rfl)
@[simp] theorem wr_onceTree (a : Nat) (w : Word) : (wr d a w).onceTree = d.onceTree := (rfl)
@[simp] theorem wr_acts (a : Nat) (w : Word) : (wr d a w).acts = d.acts := (rfl)
@[simp] theorem wr_commitNo (a : Nat) (w : Word) : (wr d a w).commitNo = d.commitNo := (rfl)
@[simp] theorem wr_freeCnt (a : Nat) (w : Word) : (wr d a w).freeCnt = d.freeCnt := (rfl)

/-! ### put -/

@[simp] theorem put_regs (u : UnitKind) (n off : Nat) (w : Word) : (put d u n off w).regs = sPut (resetWord (unitBase u n + off)) d.regs (unitBase u n + off) w := (rfl)
@[simp] theorem put_staged (u : UnitKind) (n off : Nat) (w : Word) : (put d u n off w).staged = d.staged := (rfl)
@[simp] theorem put_mem (u : UnitKind) (n off : Nat) (w : Word) : (put d u n off w).mem = d.mem := (rfl)
@[simp] theorem put_badLines (u : UnitKind) (n off : Nat) (w : Word) : (put d u n off w).badLines = d.badLines := (rfl)
@[simp] theorem put_ports (u : UnitKind) (n off : Nat) (w : Word) : (put d u n off w).ports = d.ports := (rfl)
@[simp] theorem put_ctxs (u : UnitKind) (n off : Nat) (w : Word) : (put d u n off w).ctxs = d.ctxs := (rfl)
@[simp] theorem put_pipes (u : UnitKind) (n off : Nat) (w : Word) : (put d u n off w).pipes = d.pipes := (rfl)
@[simp] theorem put_views (u : UnitKind) (n off : Nat) (w : Word) : (put d u n off w).views = d.views := (rfl)
@[simp] theorem put_taps (u : UnitKind) (n off : Nat) (w : Word) : (put d u n off w).taps = d.taps := (rfl)
@[simp] theorem put_drvs (u : UnitKind) (n off : Nat) (w : Word) : (put d u n off w).drvs = d.drvs := (rfl)
@[simp] theorem put_boxes (u : UnitKind) (n off : Nat) (w : Word) : (put d u n off w).boxes = d.boxes := (rfl)
@[simp] theorem put_compares (u : UnitKind) (n off : Nat) (w : Word) : (put d u n off w).compares = d.compares := (rfl)
@[simp] theorem put_panReqs (u : UnitKind) (n off : Nat) (w : Word) : (put d u n off w).panReqs = d.panReqs := (rfl)
@[simp] theorem put_panTurn (u : UnitKind) (n off : Nat) (w : Word) : (put d u n off w).panTurn = d.panTurn := (rfl)
@[simp] theorem put_events (u : UnitKind) (n off : Nat) (w : Word) : (put d u n off w).events = d.events := (rfl)
@[simp] theorem put_reports (u : UnitKind) (n off : Nat) (w : Word) : (put d u n off w).reports = d.reports := (rfl)
@[simp] theorem put_bestEff (u : UnitKind) (n off : Nat) (w : Word) : (put d u n off w).bestEff = d.bestEff := (rfl)
@[simp] theorem put_tapQueue (u : UnitKind) (n off : Nat) (w : Word) : (put d u n off w).tapQueue = d.tapQueue := (rfl)
@[simp] theorem put_softLines (u : UnitKind) (n off : Nat) (w : Word) : (put d u n off w).softLines = d.softLines := (rfl)
@[simp] theorem put_groups (u : UnitKind) (n off : Nat) (w : Word) : (put d u n off w).groups = d.groups := (rfl)
@[simp] theorem put_lanes (u : UnitKind) (n off : Nat) (w : Word) : (put d u n off w).lanes = d.lanes := (rfl)
@[simp] theorem put_trunk (u : UnitKind) (n off : Nat) (w : Word) : (put d u n off w).trunk = d.trunk := (rfl)
@[simp] theorem put_snaps (u : UnitKind) (n off : Nat) (w : Word) : (put d u n off w).snaps = d.snaps := (rfl)
@[simp] theorem put_latches (u : UnitKind) (n off : Nat) (w : Word) : (put d u n off w).latches = d.latches := (rfl)
@[simp] theorem put_tsq (u : UnitKind) (n off : Nat) (w : Word) : (put d u n off w).tsq = d.tsq := (rfl)
@[simp] theorem put_caps (u : UnitKind) (n off : Nat) (w : Word) : (put d u n off w).caps = d.caps := (rfl)
@[simp] theorem put_trigs (u : UnitKind) (n off : Nat) (w : Word) : (put d u n off w).trigs = d.trigs := (rfl)
@[simp] theorem put_flt (u : UnitKind) (n off : Nat) (w : Word) : (put d u n off w).flt = d.flt := (rfl)
@[simp] theorem put_twt (u : UnitKind) (n off : Nat) (w : Word) : (put d u n off w).twt = d.twt := (rfl)
@[simp] theorem put_tws (u : UnitKind) (n off : Nat) (w : Word) : (put d u n off w).tws = d.tws := (rfl)
@[simp] theorem put_otp (u : UnitKind) (n off : Nat) (w : Word) : (put d u n off w).otp = d.otp := (rfl)
@[simp] theorem put_otpBad (u : UnitKind) (n off : Nat) (w : Word) : (put d u n off w).otpBad = d.otpBad := (rfl)
@[simp] theorem put_aonBad (u : UnitKind) (n off : Nat) (w : Word) : (put d u n off w).aonBad = d.aonBad := (rfl)
@[simp] theorem put_boot (u : UnitKind) (n off : Nat) (w : Word) : (put d u n off w).boot = d.boot := (rfl)
@[simp] theorem put_sec (u : UnitKind) (n off : Nat) (w : Word) : (put d u n off w).sec = d.sec := (rfl)
@[simp] theorem put_heads (u : UnitKind) (n off : Nat) (w : Word) : (put d u n off w).heads = d.heads := (rfl)
@[simp] theorem put_power (u : UnitKind) (n off : Nat) (w : Word) : (put d u n off w).power = d.power := (rfl)
@[simp] theorem put_guards (u : UnitKind) (n off : Nat) (w : Word) : (put d u n off w).guards = d.guards := (rfl)
@[simp] theorem put_onceTree (u : UnitKind) (n off : Nat) (w : Word) : (put d u n off w).onceTree = d.onceTree := (rfl)
@[simp] theorem put_acts (u : UnitKind) (n off : Nat) (w : Word) : (put d u n off w).acts = d.acts := (rfl)
@[simp] theorem put_commitNo (u : UnitKind) (n off : Nat) (w : Word) : (put d u n off w).commitNo = d.commitNo := (rfl)
@[simp] theorem put_freeCnt (u : UnitKind) (n off : Nat) (w : Word) : (put d u n off w).freeCnt = d.freeCnt := (rfl)

/-! ### putF -/

@[simp] theorem putF_staged (u : UnitKind) (n off hi lo v : Nat) : (putF d u n off hi lo v).staged = d.staged := put_staged d u n off _
@[simp] theorem putF_mem (u : UnitKind) (n off hi lo v : Nat) : (putF d u n off hi lo v).mem = d.mem := put_mem d u n off _
@[simp] theorem putF_badLines (u : UnitKind) (n off hi lo v : Nat) : (putF d u n off hi lo v).badLines = d.badLines := put_badLines d u n off _
@[simp] theorem putF_ports (u : UnitKind) (n off hi lo v : Nat) : (putF d u n off hi lo v).ports = d.ports := put_ports d u n off _
@[simp] theorem putF_ctxs (u : UnitKind) (n off hi lo v : Nat) : (putF d u n off hi lo v).ctxs = d.ctxs := put_ctxs d u n off _
@[simp] theorem putF_pipes (u : UnitKind) (n off hi lo v : Nat) : (putF d u n off hi lo v).pipes = d.pipes := put_pipes d u n off _
@[simp] theorem putF_views (u : UnitKind) (n off hi lo v : Nat) : (putF d u n off hi lo v).views = d.views := put_views d u n off _
@[simp] theorem putF_taps (u : UnitKind) (n off hi lo v : Nat) : (putF d u n off hi lo v).taps = d.taps := put_taps d u n off _
@[simp] theorem putF_drvs (u : UnitKind) (n off hi lo v : Nat) : (putF d u n off hi lo v).drvs = d.drvs := put_drvs d u n off _
@[simp] theorem putF_boxes (u : UnitKind) (n off hi lo v : Nat) : (putF d u n off hi lo v).boxes = d.boxes := put_boxes d u n off _
@[simp] theorem putF_compares (u : UnitKind) (n off hi lo v : Nat) : (putF d u n off hi lo v).compares = d.compares := put_compares d u n off _
@[simp] theorem putF_panReqs (u : UnitKind) (n off hi lo v : Nat) : (putF d u n off hi lo v).panReqs = d.panReqs := put_panReqs d u n off _
@[simp] theorem putF_panTurn (u : UnitKind) (n off hi lo v : Nat) : (putF d u n off hi lo v).panTurn = d.panTurn := put_panTurn d u n off _
@[simp] theorem putF_events (u : UnitKind) (n off hi lo v : Nat) : (putF d u n off hi lo v).events = d.events := put_events d u n off _
@[simp] theorem putF_reports (u : UnitKind) (n off hi lo v : Nat) : (putF d u n off hi lo v).reports = d.reports := put_reports d u n off _
@[simp] theorem putF_bestEff (u : UnitKind) (n off hi lo v : Nat) : (putF d u n off hi lo v).bestEff = d.bestEff := put_bestEff d u n off _
@[simp] theorem putF_tapQueue (u : UnitKind) (n off hi lo v : Nat) : (putF d u n off hi lo v).tapQueue = d.tapQueue := put_tapQueue d u n off _
@[simp] theorem putF_softLines (u : UnitKind) (n off hi lo v : Nat) : (putF d u n off hi lo v).softLines = d.softLines := put_softLines d u n off _
@[simp] theorem putF_groups (u : UnitKind) (n off hi lo v : Nat) : (putF d u n off hi lo v).groups = d.groups := put_groups d u n off _
@[simp] theorem putF_lanes (u : UnitKind) (n off hi lo v : Nat) : (putF d u n off hi lo v).lanes = d.lanes := put_lanes d u n off _
@[simp] theorem putF_trunk (u : UnitKind) (n off hi lo v : Nat) : (putF d u n off hi lo v).trunk = d.trunk := put_trunk d u n off _
@[simp] theorem putF_snaps (u : UnitKind) (n off hi lo v : Nat) : (putF d u n off hi lo v).snaps = d.snaps := put_snaps d u n off _
@[simp] theorem putF_latches (u : UnitKind) (n off hi lo v : Nat) : (putF d u n off hi lo v).latches = d.latches := put_latches d u n off _
@[simp] theorem putF_tsq (u : UnitKind) (n off hi lo v : Nat) : (putF d u n off hi lo v).tsq = d.tsq := put_tsq d u n off _
@[simp] theorem putF_caps (u : UnitKind) (n off hi lo v : Nat) : (putF d u n off hi lo v).caps = d.caps := put_caps d u n off _
@[simp] theorem putF_trigs (u : UnitKind) (n off hi lo v : Nat) : (putF d u n off hi lo v).trigs = d.trigs := put_trigs d u n off _
@[simp] theorem putF_flt (u : UnitKind) (n off hi lo v : Nat) : (putF d u n off hi lo v).flt = d.flt := put_flt d u n off _
@[simp] theorem putF_twt (u : UnitKind) (n off hi lo v : Nat) : (putF d u n off hi lo v).twt = d.twt := put_twt d u n off _
@[simp] theorem putF_tws (u : UnitKind) (n off hi lo v : Nat) : (putF d u n off hi lo v).tws = d.tws := put_tws d u n off _
@[simp] theorem putF_otp (u : UnitKind) (n off hi lo v : Nat) : (putF d u n off hi lo v).otp = d.otp := put_otp d u n off _
@[simp] theorem putF_otpBad (u : UnitKind) (n off hi lo v : Nat) : (putF d u n off hi lo v).otpBad = d.otpBad := put_otpBad d u n off _
@[simp] theorem putF_aonBad (u : UnitKind) (n off hi lo v : Nat) : (putF d u n off hi lo v).aonBad = d.aonBad := put_aonBad d u n off _
@[simp] theorem putF_boot (u : UnitKind) (n off hi lo v : Nat) : (putF d u n off hi lo v).boot = d.boot := put_boot d u n off _
@[simp] theorem putF_sec (u : UnitKind) (n off hi lo v : Nat) : (putF d u n off hi lo v).sec = d.sec := put_sec d u n off _
@[simp] theorem putF_heads (u : UnitKind) (n off hi lo v : Nat) : (putF d u n off hi lo v).heads = d.heads := put_heads d u n off _
@[simp] theorem putF_power (u : UnitKind) (n off hi lo v : Nat) : (putF d u n off hi lo v).power = d.power := put_power d u n off _
@[simp] theorem putF_guards (u : UnitKind) (n off hi lo v : Nat) : (putF d u n off hi lo v).guards = d.guards := put_guards d u n off _
@[simp] theorem putF_onceTree (u : UnitKind) (n off hi lo v : Nat) : (putF d u n off hi lo v).onceTree = d.onceTree := put_onceTree d u n off _
@[simp] theorem putF_acts (u : UnitKind) (n off hi lo v : Nat) : (putF d u n off hi lo v).acts = d.acts := put_acts d u n off _
@[simp] theorem putF_commitNo (u : UnitKind) (n off hi lo v : Nat) : (putF d u n off hi lo v).commitNo = d.commitNo := put_commitNo d u n off _
@[simp] theorem putF_freeCnt (u : UnitKind) (n off hi lo v : Nat) : (putF d u n off hi lo v).freeCnt = d.freeCnt := put_freeCnt d u n off _

/-! ### addSat -/

@[simp] theorem addSat_staged (u : UnitKind) (n off hi lo k : Nat) : (addSat d u n off hi lo k).staged = d.staged := putF_staged d u n off _ _ _
@[simp] theorem addSat_mem (u : UnitKind) (n off hi lo k : Nat) : (addSat d u n off hi lo k).mem = d.mem := putF_mem d u n off _ _ _
@[simp] theorem addSat_badLines (u : UnitKind) (n off hi lo k : Nat) : (addSat d u n off hi lo k).badLines = d.badLines := putF_badLines d u n off _ _ _
@[simp] theorem addSat_ports (u : UnitKind) (n off hi lo k : Nat) : (addSat d u n off hi lo k).ports = d.ports := putF_ports d u n off _ _ _
@[simp] theorem addSat_ctxs (u : UnitKind) (n off hi lo k : Nat) : (addSat d u n off hi lo k).ctxs = d.ctxs := putF_ctxs d u n off _ _ _
@[simp] theorem addSat_pipes (u : UnitKind) (n off hi lo k : Nat) : (addSat d u n off hi lo k).pipes = d.pipes := putF_pipes d u n off _ _ _
@[simp] theorem addSat_views (u : UnitKind) (n off hi lo k : Nat) : (addSat d u n off hi lo k).views = d.views := putF_views d u n off _ _ _
@[simp] theorem addSat_taps (u : UnitKind) (n off hi lo k : Nat) : (addSat d u n off hi lo k).taps = d.taps := putF_taps d u n off _ _ _
@[simp] theorem addSat_drvs (u : UnitKind) (n off hi lo k : Nat) : (addSat d u n off hi lo k).drvs = d.drvs := putF_drvs d u n off _ _ _
@[simp] theorem addSat_boxes (u : UnitKind) (n off hi lo k : Nat) : (addSat d u n off hi lo k).boxes = d.boxes := putF_boxes d u n off _ _ _
@[simp] theorem addSat_compares (u : UnitKind) (n off hi lo k : Nat) : (addSat d u n off hi lo k).compares = d.compares := putF_compares d u n off _ _ _
@[simp] theorem addSat_panReqs (u : UnitKind) (n off hi lo k : Nat) : (addSat d u n off hi lo k).panReqs = d.panReqs := putF_panReqs d u n off _ _ _
@[simp] theorem addSat_panTurn (u : UnitKind) (n off hi lo k : Nat) : (addSat d u n off hi lo k).panTurn = d.panTurn := putF_panTurn d u n off _ _ _
@[simp] theorem addSat_events (u : UnitKind) (n off hi lo k : Nat) : (addSat d u n off hi lo k).events = d.events := putF_events d u n off _ _ _
@[simp] theorem addSat_reports (u : UnitKind) (n off hi lo k : Nat) : (addSat d u n off hi lo k).reports = d.reports := putF_reports d u n off _ _ _
@[simp] theorem addSat_bestEff (u : UnitKind) (n off hi lo k : Nat) : (addSat d u n off hi lo k).bestEff = d.bestEff := putF_bestEff d u n off _ _ _
@[simp] theorem addSat_tapQueue (u : UnitKind) (n off hi lo k : Nat) : (addSat d u n off hi lo k).tapQueue = d.tapQueue := putF_tapQueue d u n off _ _ _
@[simp] theorem addSat_softLines (u : UnitKind) (n off hi lo k : Nat) : (addSat d u n off hi lo k).softLines = d.softLines := putF_softLines d u n off _ _ _
@[simp] theorem addSat_groups (u : UnitKind) (n off hi lo k : Nat) : (addSat d u n off hi lo k).groups = d.groups := putF_groups d u n off _ _ _
@[simp] theorem addSat_lanes (u : UnitKind) (n off hi lo k : Nat) : (addSat d u n off hi lo k).lanes = d.lanes := putF_lanes d u n off _ _ _
@[simp] theorem addSat_trunk (u : UnitKind) (n off hi lo k : Nat) : (addSat d u n off hi lo k).trunk = d.trunk := putF_trunk d u n off _ _ _
@[simp] theorem addSat_snaps (u : UnitKind) (n off hi lo k : Nat) : (addSat d u n off hi lo k).snaps = d.snaps := putF_snaps d u n off _ _ _
@[simp] theorem addSat_latches (u : UnitKind) (n off hi lo k : Nat) : (addSat d u n off hi lo k).latches = d.latches := putF_latches d u n off _ _ _
@[simp] theorem addSat_tsq (u : UnitKind) (n off hi lo k : Nat) : (addSat d u n off hi lo k).tsq = d.tsq := putF_tsq d u n off _ _ _
@[simp] theorem addSat_caps (u : UnitKind) (n off hi lo k : Nat) : (addSat d u n off hi lo k).caps = d.caps := putF_caps d u n off _ _ _
@[simp] theorem addSat_trigs (u : UnitKind) (n off hi lo k : Nat) : (addSat d u n off hi lo k).trigs = d.trigs := putF_trigs d u n off _ _ _
@[simp] theorem addSat_flt (u : UnitKind) (n off hi lo k : Nat) : (addSat d u n off hi lo k).flt = d.flt := putF_flt d u n off _ _ _
@[simp] theorem addSat_twt (u : UnitKind) (n off hi lo k : Nat) : (addSat d u n off hi lo k).twt = d.twt := putF_twt d u n off _ _ _
@[simp] theorem addSat_tws (u : UnitKind) (n off hi lo k : Nat) : (addSat d u n off hi lo k).tws = d.tws := putF_tws d u n off _ _ _
@[simp] theorem addSat_otp (u : UnitKind) (n off hi lo k : Nat) : (addSat d u n off hi lo k).otp = d.otp := putF_otp d u n off _ _ _
@[simp] theorem addSat_otpBad (u : UnitKind) (n off hi lo k : Nat) : (addSat d u n off hi lo k).otpBad = d.otpBad := putF_otpBad d u n off _ _ _
@[simp] theorem addSat_aonBad (u : UnitKind) (n off hi lo k : Nat) : (addSat d u n off hi lo k).aonBad = d.aonBad := putF_aonBad d u n off _ _ _
@[simp] theorem addSat_boot (u : UnitKind) (n off hi lo k : Nat) : (addSat d u n off hi lo k).boot = d.boot := putF_boot d u n off _ _ _
@[simp] theorem addSat_sec (u : UnitKind) (n off hi lo k : Nat) : (addSat d u n off hi lo k).sec = d.sec := putF_sec d u n off _ _ _
@[simp] theorem addSat_heads (u : UnitKind) (n off hi lo k : Nat) : (addSat d u n off hi lo k).heads = d.heads := putF_heads d u n off _ _ _
@[simp] theorem addSat_power (u : UnitKind) (n off hi lo k : Nat) : (addSat d u n off hi lo k).power = d.power := putF_power d u n off _ _ _
@[simp] theorem addSat_guards (u : UnitKind) (n off hi lo k : Nat) : (addSat d u n off hi lo k).guards = d.guards := putF_guards d u n off _ _ _
@[simp] theorem addSat_onceTree (u : UnitKind) (n off hi lo k : Nat) : (addSat d u n off hi lo k).onceTree = d.onceTree := putF_onceTree d u n off _ _ _
@[simp] theorem addSat_acts (u : UnitKind) (n off hi lo k : Nat) : (addSat d u n off hi lo k).acts = d.acts := putF_acts d u n off _ _ _
@[simp] theorem addSat_commitNo (u : UnitKind) (n off hi lo k : Nat) : (addSat d u n off hi lo k).commitNo = d.commitNo := putF_commitNo d u n off _ _ _
@[simp] theorem addSat_freeCnt (u : UnitKind) (n off hi lo k : Nat) : (addSat d u n off hi lo k).freeCnt = d.freeCnt := putF_freeCnt d u n off _ _ _

/-! ### incWrap -/

@[simp] theorem incWrap_staged (u : UnitKind) (n off hi lo : Nat) : (incWrap d u n off hi lo).staged = d.staged := putF_staged d u n off _ _ _
@[simp] theorem incWrap_mem (u : UnitKind) (n off hi lo : Nat) : (incWrap d u n off hi lo).mem = d.mem := putF_mem d u n off _ _ _
@[simp] theorem incWrap_badLines (u : UnitKind) (n off hi lo : Nat) : (incWrap d u n off hi lo).badLines = d.badLines := putF_badLines d u n off _ _ _
@[simp] theorem incWrap_ports (u : UnitKind) (n off hi lo : Nat) : (incWrap d u n off hi lo).ports = d.ports := putF_ports d u n off _ _ _
@[simp] theorem incWrap_ctxs (u : UnitKind) (n off hi lo : Nat) : (incWrap d u n off hi lo).ctxs = d.ctxs := putF_ctxs d u n off _ _ _
@[simp] theorem incWrap_pipes (u : UnitKind) (n off hi lo : Nat) : (incWrap d u n off hi lo).pipes = d.pipes := putF_pipes d u n off _ _ _
@[simp] theorem incWrap_views (u : UnitKind) (n off hi lo : Nat) : (incWrap d u n off hi lo).views = d.views := putF_views d u n off _ _ _
@[simp] theorem incWrap_taps (u : UnitKind) (n off hi lo : Nat) : (incWrap d u n off hi lo).taps = d.taps := putF_taps d u n off _ _ _
@[simp] theorem incWrap_drvs (u : UnitKind) (n off hi lo : Nat) : (incWrap d u n off hi lo).drvs = d.drvs := putF_drvs d u n off _ _ _
@[simp] theorem incWrap_boxes (u : UnitKind) (n off hi lo : Nat) : (incWrap d u n off hi lo).boxes = d.boxes := putF_boxes d u n off _ _ _
@[simp] theorem incWrap_compares (u : UnitKind) (n off hi lo : Nat) : (incWrap d u n off hi lo).compares = d.compares := putF_compares d u n off _ _ _
@[simp] theorem incWrap_panReqs (u : UnitKind) (n off hi lo : Nat) : (incWrap d u n off hi lo).panReqs = d.panReqs := putF_panReqs d u n off _ _ _
@[simp] theorem incWrap_panTurn (u : UnitKind) (n off hi lo : Nat) : (incWrap d u n off hi lo).panTurn = d.panTurn := putF_panTurn d u n off _ _ _
@[simp] theorem incWrap_events (u : UnitKind) (n off hi lo : Nat) : (incWrap d u n off hi lo).events = d.events := putF_events d u n off _ _ _
@[simp] theorem incWrap_reports (u : UnitKind) (n off hi lo : Nat) : (incWrap d u n off hi lo).reports = d.reports := putF_reports d u n off _ _ _
@[simp] theorem incWrap_bestEff (u : UnitKind) (n off hi lo : Nat) : (incWrap d u n off hi lo).bestEff = d.bestEff := putF_bestEff d u n off _ _ _
@[simp] theorem incWrap_tapQueue (u : UnitKind) (n off hi lo : Nat) : (incWrap d u n off hi lo).tapQueue = d.tapQueue := putF_tapQueue d u n off _ _ _
@[simp] theorem incWrap_softLines (u : UnitKind) (n off hi lo : Nat) : (incWrap d u n off hi lo).softLines = d.softLines := putF_softLines d u n off _ _ _
@[simp] theorem incWrap_groups (u : UnitKind) (n off hi lo : Nat) : (incWrap d u n off hi lo).groups = d.groups := putF_groups d u n off _ _ _
@[simp] theorem incWrap_lanes (u : UnitKind) (n off hi lo : Nat) : (incWrap d u n off hi lo).lanes = d.lanes := putF_lanes d u n off _ _ _
@[simp] theorem incWrap_trunk (u : UnitKind) (n off hi lo : Nat) : (incWrap d u n off hi lo).trunk = d.trunk := putF_trunk d u n off _ _ _
@[simp] theorem incWrap_snaps (u : UnitKind) (n off hi lo : Nat) : (incWrap d u n off hi lo).snaps = d.snaps := putF_snaps d u n off _ _ _
@[simp] theorem incWrap_latches (u : UnitKind) (n off hi lo : Nat) : (incWrap d u n off hi lo).latches = d.latches := putF_latches d u n off _ _ _
@[simp] theorem incWrap_tsq (u : UnitKind) (n off hi lo : Nat) : (incWrap d u n off hi lo).tsq = d.tsq := putF_tsq d u n off _ _ _
@[simp] theorem incWrap_caps (u : UnitKind) (n off hi lo : Nat) : (incWrap d u n off hi lo).caps = d.caps := putF_caps d u n off _ _ _
@[simp] theorem incWrap_trigs (u : UnitKind) (n off hi lo : Nat) : (incWrap d u n off hi lo).trigs = d.trigs := putF_trigs d u n off _ _ _
@[simp] theorem incWrap_flt (u : UnitKind) (n off hi lo : Nat) : (incWrap d u n off hi lo).flt = d.flt := putF_flt d u n off _ _ _
@[simp] theorem incWrap_twt (u : UnitKind) (n off hi lo : Nat) : (incWrap d u n off hi lo).twt = d.twt := putF_twt d u n off _ _ _
@[simp] theorem incWrap_tws (u : UnitKind) (n off hi lo : Nat) : (incWrap d u n off hi lo).tws = d.tws := putF_tws d u n off _ _ _
@[simp] theorem incWrap_otp (u : UnitKind) (n off hi lo : Nat) : (incWrap d u n off hi lo).otp = d.otp := putF_otp d u n off _ _ _
@[simp] theorem incWrap_otpBad (u : UnitKind) (n off hi lo : Nat) : (incWrap d u n off hi lo).otpBad = d.otpBad := putF_otpBad d u n off _ _ _
@[simp] theorem incWrap_aonBad (u : UnitKind) (n off hi lo : Nat) : (incWrap d u n off hi lo).aonBad = d.aonBad := putF_aonBad d u n off _ _ _
@[simp] theorem incWrap_boot (u : UnitKind) (n off hi lo : Nat) : (incWrap d u n off hi lo).boot = d.boot := putF_boot d u n off _ _ _
@[simp] theorem incWrap_sec (u : UnitKind) (n off hi lo : Nat) : (incWrap d u n off hi lo).sec = d.sec := putF_sec d u n off _ _ _
@[simp] theorem incWrap_heads (u : UnitKind) (n off hi lo : Nat) : (incWrap d u n off hi lo).heads = d.heads := putF_heads d u n off _ _ _
@[simp] theorem incWrap_power (u : UnitKind) (n off hi lo : Nat) : (incWrap d u n off hi lo).power = d.power := putF_power d u n off _ _ _
@[simp] theorem incWrap_guards (u : UnitKind) (n off hi lo : Nat) : (incWrap d u n off hi lo).guards = d.guards := putF_guards d u n off _ _ _
@[simp] theorem incWrap_onceTree (u : UnitKind) (n off hi lo : Nat) : (incWrap d u n off hi lo).onceTree = d.onceTree := putF_onceTree d u n off _ _ _
@[simp] theorem incWrap_acts (u : UnitKind) (n off hi lo : Nat) : (incWrap d u n off hi lo).acts = d.acts := putF_acts d u n off _ _ _
@[simp] theorem incWrap_commitNo (u : UnitKind) (n off hi lo : Nat) : (incWrap d u n off hi lo).commitNo = d.commitNo := putF_commitNo d u n off _ _ _
@[simp] theorem incWrap_freeCnt (u : UnitKind) (n off hi lo : Nat) : (incWrap d u n off hi lo).freeCnt = d.freeCnt := putF_freeCnt d u n off _ _ _

/-! ### stat -/

@[simp] theorem stat_staged (u : UnitKind) (n off mask : Nat) : (stat d u n off mask).staged = d.staged := put_staged d u n off _
@[simp] theorem stat_mem (u : UnitKind) (n off mask : Nat) : (stat d u n off mask).mem = d.mem := put_mem d u n off _
@[simp] theorem stat_badLines (u : UnitKind) (n off mask : Nat) : (stat d u n off mask).badLines = d.badLines := put_badLines d u n off _
@[simp] theorem stat_ports (u : UnitKind) (n off mask : Nat) : (stat d u n off mask).ports = d.ports := put_ports d u n off _
@[simp] theorem stat_ctxs (u : UnitKind) (n off mask : Nat) : (stat d u n off mask).ctxs = d.ctxs := put_ctxs d u n off _
@[simp] theorem stat_pipes (u : UnitKind) (n off mask : Nat) : (stat d u n off mask).pipes = d.pipes := put_pipes d u n off _
@[simp] theorem stat_views (u : UnitKind) (n off mask : Nat) : (stat d u n off mask).views = d.views := put_views d u n off _
@[simp] theorem stat_taps (u : UnitKind) (n off mask : Nat) : (stat d u n off mask).taps = d.taps := put_taps d u n off _
@[simp] theorem stat_drvs (u : UnitKind) (n off mask : Nat) : (stat d u n off mask).drvs = d.drvs := put_drvs d u n off _
@[simp] theorem stat_boxes (u : UnitKind) (n off mask : Nat) : (stat d u n off mask).boxes = d.boxes := put_boxes d u n off _
@[simp] theorem stat_compares (u : UnitKind) (n off mask : Nat) : (stat d u n off mask).compares = d.compares := put_compares d u n off _
@[simp] theorem stat_panReqs (u : UnitKind) (n off mask : Nat) : (stat d u n off mask).panReqs = d.panReqs := put_panReqs d u n off _
@[simp] theorem stat_panTurn (u : UnitKind) (n off mask : Nat) : (stat d u n off mask).panTurn = d.panTurn := put_panTurn d u n off _
@[simp] theorem stat_events (u : UnitKind) (n off mask : Nat) : (stat d u n off mask).events = d.events := put_events d u n off _
@[simp] theorem stat_reports (u : UnitKind) (n off mask : Nat) : (stat d u n off mask).reports = d.reports := put_reports d u n off _
@[simp] theorem stat_bestEff (u : UnitKind) (n off mask : Nat) : (stat d u n off mask).bestEff = d.bestEff := put_bestEff d u n off _
@[simp] theorem stat_tapQueue (u : UnitKind) (n off mask : Nat) : (stat d u n off mask).tapQueue = d.tapQueue := put_tapQueue d u n off _
@[simp] theorem stat_softLines (u : UnitKind) (n off mask : Nat) : (stat d u n off mask).softLines = d.softLines := put_softLines d u n off _
@[simp] theorem stat_groups (u : UnitKind) (n off mask : Nat) : (stat d u n off mask).groups = d.groups := put_groups d u n off _
@[simp] theorem stat_lanes (u : UnitKind) (n off mask : Nat) : (stat d u n off mask).lanes = d.lanes := put_lanes d u n off _
@[simp] theorem stat_trunk (u : UnitKind) (n off mask : Nat) : (stat d u n off mask).trunk = d.trunk := put_trunk d u n off _
@[simp] theorem stat_snaps (u : UnitKind) (n off mask : Nat) : (stat d u n off mask).snaps = d.snaps := put_snaps d u n off _
@[simp] theorem stat_latches (u : UnitKind) (n off mask : Nat) : (stat d u n off mask).latches = d.latches := put_latches d u n off _
@[simp] theorem stat_tsq (u : UnitKind) (n off mask : Nat) : (stat d u n off mask).tsq = d.tsq := put_tsq d u n off _
@[simp] theorem stat_caps (u : UnitKind) (n off mask : Nat) : (stat d u n off mask).caps = d.caps := put_caps d u n off _
@[simp] theorem stat_trigs (u : UnitKind) (n off mask : Nat) : (stat d u n off mask).trigs = d.trigs := put_trigs d u n off _
@[simp] theorem stat_flt (u : UnitKind) (n off mask : Nat) : (stat d u n off mask).flt = d.flt := put_flt d u n off _
@[simp] theorem stat_twt (u : UnitKind) (n off mask : Nat) : (stat d u n off mask).twt = d.twt := put_twt d u n off _
@[simp] theorem stat_tws (u : UnitKind) (n off mask : Nat) : (stat d u n off mask).tws = d.tws := put_tws d u n off _
@[simp] theorem stat_otp (u : UnitKind) (n off mask : Nat) : (stat d u n off mask).otp = d.otp := put_otp d u n off _
@[simp] theorem stat_otpBad (u : UnitKind) (n off mask : Nat) : (stat d u n off mask).otpBad = d.otpBad := put_otpBad d u n off _
@[simp] theorem stat_aonBad (u : UnitKind) (n off mask : Nat) : (stat d u n off mask).aonBad = d.aonBad := put_aonBad d u n off _
@[simp] theorem stat_boot (u : UnitKind) (n off mask : Nat) : (stat d u n off mask).boot = d.boot := put_boot d u n off _
@[simp] theorem stat_sec (u : UnitKind) (n off mask : Nat) : (stat d u n off mask).sec = d.sec := put_sec d u n off _
@[simp] theorem stat_heads (u : UnitKind) (n off mask : Nat) : (stat d u n off mask).heads = d.heads := put_heads d u n off _
@[simp] theorem stat_power (u : UnitKind) (n off mask : Nat) : (stat d u n off mask).power = d.power := put_power d u n off _
@[simp] theorem stat_guards (u : UnitKind) (n off mask : Nat) : (stat d u n off mask).guards = d.guards := put_guards d u n off _
@[simp] theorem stat_onceTree (u : UnitKind) (n off mask : Nat) : (stat d u n off mask).onceTree = d.onceTree := put_onceTree d u n off _
@[simp] theorem stat_acts (u : UnitKind) (n off mask : Nat) : (stat d u n off mask).acts = d.acts := put_acts d u n off _
@[simp] theorem stat_commitNo (u : UnitKind) (n off mask : Nat) : (stat d u n off mask).commitNo = d.commitNo := put_commitNo d u n off _
@[simp] theorem stat_freeCnt (u : UnitKind) (n off mask : Nat) : (stat d u n off mask).freeCnt = d.freeCnt := put_freeCnt d u n off _

/-! ### stage -/

@[simp] theorem stage_regs (a : Nat) (w : Word) : (stage d a w).regs = d.regs := (rfl)
@[simp] theorem stage_staged (a : Nat) (w : Word) : (stage d a w).staged = sIns a w d.staged := (rfl)
@[simp] theorem stage_mem (a : Nat) (w : Word) : (stage d a w).mem = d.mem := (rfl)
@[simp] theorem stage_badLines (a : Nat) (w : Word) : (stage d a w).badLines = d.badLines := (rfl)
@[simp] theorem stage_ports (a : Nat) (w : Word) : (stage d a w).ports = d.ports := (rfl)
@[simp] theorem stage_ctxs (a : Nat) (w : Word) : (stage d a w).ctxs = d.ctxs := (rfl)
@[simp] theorem stage_pipes (a : Nat) (w : Word) : (stage d a w).pipes = d.pipes := (rfl)
@[simp] theorem stage_views (a : Nat) (w : Word) : (stage d a w).views = d.views := (rfl)
@[simp] theorem stage_taps (a : Nat) (w : Word) : (stage d a w).taps = d.taps := (rfl)
@[simp] theorem stage_drvs (a : Nat) (w : Word) : (stage d a w).drvs = d.drvs := (rfl)
@[simp] theorem stage_boxes (a : Nat) (w : Word) : (stage d a w).boxes = d.boxes := (rfl)
@[simp] theorem stage_compares (a : Nat) (w : Word) : (stage d a w).compares = d.compares := (rfl)
@[simp] theorem stage_panReqs (a : Nat) (w : Word) : (stage d a w).panReqs = d.panReqs := (rfl)
@[simp] theorem stage_panTurn (a : Nat) (w : Word) : (stage d a w).panTurn = d.panTurn := (rfl)
@[simp] theorem stage_events (a : Nat) (w : Word) : (stage d a w).events = d.events := (rfl)
@[simp] theorem stage_reports (a : Nat) (w : Word) : (stage d a w).reports = d.reports := (rfl)
@[simp] theorem stage_bestEff (a : Nat) (w : Word) : (stage d a w).bestEff = d.bestEff := (rfl)
@[simp] theorem stage_tapQueue (a : Nat) (w : Word) : (stage d a w).tapQueue = d.tapQueue := (rfl)
@[simp] theorem stage_softLines (a : Nat) (w : Word) : (stage d a w).softLines = d.softLines := (rfl)
@[simp] theorem stage_groups (a : Nat) (w : Word) : (stage d a w).groups = d.groups := (rfl)
@[simp] theorem stage_lanes (a : Nat) (w : Word) : (stage d a w).lanes = d.lanes := (rfl)
@[simp] theorem stage_trunk (a : Nat) (w : Word) : (stage d a w).trunk = d.trunk := (rfl)
@[simp] theorem stage_snaps (a : Nat) (w : Word) : (stage d a w).snaps = d.snaps := (rfl)
@[simp] theorem stage_latches (a : Nat) (w : Word) : (stage d a w).latches = d.latches := (rfl)
@[simp] theorem stage_tsq (a : Nat) (w : Word) : (stage d a w).tsq = d.tsq := (rfl)
@[simp] theorem stage_caps (a : Nat) (w : Word) : (stage d a w).caps = d.caps := (rfl)
@[simp] theorem stage_trigs (a : Nat) (w : Word) : (stage d a w).trigs = d.trigs := (rfl)
@[simp] theorem stage_flt (a : Nat) (w : Word) : (stage d a w).flt = d.flt := (rfl)
@[simp] theorem stage_twt (a : Nat) (w : Word) : (stage d a w).twt = d.twt := (rfl)
@[simp] theorem stage_tws (a : Nat) (w : Word) : (stage d a w).tws = d.tws := (rfl)
@[simp] theorem stage_otp (a : Nat) (w : Word) : (stage d a w).otp = d.otp := (rfl)
@[simp] theorem stage_otpBad (a : Nat) (w : Word) : (stage d a w).otpBad = d.otpBad := (rfl)
@[simp] theorem stage_aonBad (a : Nat) (w : Word) : (stage d a w).aonBad = d.aonBad := (rfl)
@[simp] theorem stage_boot (a : Nat) (w : Word) : (stage d a w).boot = d.boot := (rfl)
@[simp] theorem stage_sec (a : Nat) (w : Word) : (stage d a w).sec = d.sec := (rfl)
@[simp] theorem stage_heads (a : Nat) (w : Word) : (stage d a w).heads = d.heads := (rfl)
@[simp] theorem stage_power (a : Nat) (w : Word) : (stage d a w).power = d.power := (rfl)
@[simp] theorem stage_guards (a : Nat) (w : Word) : (stage d a w).guards = d.guards := (rfl)
@[simp] theorem stage_onceTree (a : Nat) (w : Word) : (stage d a w).onceTree = d.onceTree := (rfl)
@[simp] theorem stage_acts (a : Nat) (w : Word) : (stage d a w).acts = d.acts := (rfl)
@[simp] theorem stage_commitNo (a : Nat) (w : Word) : (stage d a w).commitNo = d.commitNo := (rfl)
@[simp] theorem stage_freeCnt (a : Nat) (w : Word) : (stage d a w).freeCnt = d.freeCnt := (rfl)

/-! ### dropStaged -/

@[simp] theorem dropStaged_regs (lo len : Nat) : (dropStaged d lo len).regs = d.regs := (rfl)
@[simp] theorem dropStaged_staged (lo len : Nat) : (dropStaged d lo len).staged = d.staged.filter (fun p => !(decide (lo ≤ p.1) && decide (p.1 < lo + len))) := (rfl)
@[simp] theorem dropStaged_mem (lo len : Nat) : (dropStaged d lo len).mem = d.mem := (rfl)
@[simp] theorem dropStaged_badLines (lo len : Nat) : (dropStaged d lo len).badLines = d.badLines := (rfl)
@[simp] theorem dropStaged_ports (lo len : Nat) : (dropStaged d lo len).ports = d.ports := (rfl)
@[simp] theorem dropStaged_ctxs (lo len : Nat) : (dropStaged d lo len).ctxs = d.ctxs := (rfl)
@[simp] theorem dropStaged_pipes (lo len : Nat) : (dropStaged d lo len).pipes = d.pipes := (rfl)
@[simp] theorem dropStaged_views (lo len : Nat) : (dropStaged d lo len).views = d.views := (rfl)
@[simp] theorem dropStaged_taps (lo len : Nat) : (dropStaged d lo len).taps = d.taps := (rfl)
@[simp] theorem dropStaged_drvs (lo len : Nat) : (dropStaged d lo len).drvs = d.drvs := (rfl)
@[simp] theorem dropStaged_boxes (lo len : Nat) : (dropStaged d lo len).boxes = d.boxes := (rfl)
@[simp] theorem dropStaged_compares (lo len : Nat) : (dropStaged d lo len).compares = d.compares := (rfl)
@[simp] theorem dropStaged_panReqs (lo len : Nat) : (dropStaged d lo len).panReqs = d.panReqs := (rfl)
@[simp] theorem dropStaged_panTurn (lo len : Nat) : (dropStaged d lo len).panTurn = d.panTurn := (rfl)
@[simp] theorem dropStaged_events (lo len : Nat) : (dropStaged d lo len).events = d.events := (rfl)
@[simp] theorem dropStaged_reports (lo len : Nat) : (dropStaged d lo len).reports = d.reports := (rfl)
@[simp] theorem dropStaged_bestEff (lo len : Nat) : (dropStaged d lo len).bestEff = d.bestEff := (rfl)
@[simp] theorem dropStaged_tapQueue (lo len : Nat) : (dropStaged d lo len).tapQueue = d.tapQueue := (rfl)
@[simp] theorem dropStaged_softLines (lo len : Nat) : (dropStaged d lo len).softLines = d.softLines := (rfl)
@[simp] theorem dropStaged_groups (lo len : Nat) : (dropStaged d lo len).groups = d.groups := (rfl)
@[simp] theorem dropStaged_lanes (lo len : Nat) : (dropStaged d lo len).lanes = d.lanes := (rfl)
@[simp] theorem dropStaged_trunk (lo len : Nat) : (dropStaged d lo len).trunk = d.trunk := (rfl)
@[simp] theorem dropStaged_snaps (lo len : Nat) : (dropStaged d lo len).snaps = d.snaps := (rfl)
@[simp] theorem dropStaged_latches (lo len : Nat) : (dropStaged d lo len).latches = d.latches := (rfl)
@[simp] theorem dropStaged_tsq (lo len : Nat) : (dropStaged d lo len).tsq = d.tsq := (rfl)
@[simp] theorem dropStaged_caps (lo len : Nat) : (dropStaged d lo len).caps = d.caps := (rfl)
@[simp] theorem dropStaged_trigs (lo len : Nat) : (dropStaged d lo len).trigs = d.trigs := (rfl)
@[simp] theorem dropStaged_flt (lo len : Nat) : (dropStaged d lo len).flt = d.flt := (rfl)
@[simp] theorem dropStaged_twt (lo len : Nat) : (dropStaged d lo len).twt = d.twt := (rfl)
@[simp] theorem dropStaged_tws (lo len : Nat) : (dropStaged d lo len).tws = d.tws := (rfl)
@[simp] theorem dropStaged_otp (lo len : Nat) : (dropStaged d lo len).otp = d.otp := (rfl)
@[simp] theorem dropStaged_otpBad (lo len : Nat) : (dropStaged d lo len).otpBad = d.otpBad := (rfl)
@[simp] theorem dropStaged_aonBad (lo len : Nat) : (dropStaged d lo len).aonBad = d.aonBad := (rfl)
@[simp] theorem dropStaged_boot (lo len : Nat) : (dropStaged d lo len).boot = d.boot := (rfl)
@[simp] theorem dropStaged_sec (lo len : Nat) : (dropStaged d lo len).sec = d.sec := (rfl)
@[simp] theorem dropStaged_heads (lo len : Nat) : (dropStaged d lo len).heads = d.heads := (rfl)
@[simp] theorem dropStaged_power (lo len : Nat) : (dropStaged d lo len).power = d.power := (rfl)
@[simp] theorem dropStaged_guards (lo len : Nat) : (dropStaged d lo len).guards = d.guards := (rfl)
@[simp] theorem dropStaged_onceTree (lo len : Nat) : (dropStaged d lo len).onceTree = d.onceTree := (rfl)
@[simp] theorem dropStaged_acts (lo len : Nat) : (dropStaged d lo len).acts = d.acts := (rfl)
@[simp] theorem dropStaged_commitNo (lo len : Nat) : (dropStaged d lo len).commitNo = d.commitNo := (rfl)
@[simp] theorem dropStaged_freeCnt (lo len : Nat) : (dropStaged d lo len).freeCnt = d.freeCnt := (rfl)

/-! ### raise -/

@[simp] theorem raise_regs (e : Nat) : (raise d e).regs = d.regs := (rfl)
@[simp] theorem raise_staged (e : Nat) : (raise d e).staged = d.staged := (rfl)
@[simp] theorem raise_mem (e : Nat) : (raise d e).mem = d.mem := (rfl)
@[simp] theorem raise_badLines (e : Nat) : (raise d e).badLines = d.badLines := (rfl)
@[simp] theorem raise_ports (e : Nat) : (raise d e).ports = d.ports := (rfl)
@[simp] theorem raise_ctxs (e : Nat) : (raise d e).ctxs = d.ctxs := (rfl)
@[simp] theorem raise_pipes (e : Nat) : (raise d e).pipes = d.pipes := (rfl)
@[simp] theorem raise_views (e : Nat) : (raise d e).views = d.views := (rfl)
@[simp] theorem raise_taps (e : Nat) : (raise d e).taps = d.taps := (rfl)
@[simp] theorem raise_drvs (e : Nat) : (raise d e).drvs = d.drvs := (rfl)
@[simp] theorem raise_boxes (e : Nat) : (raise d e).boxes = d.boxes := (rfl)
@[simp] theorem raise_compares (e : Nat) : (raise d e).compares = d.compares := (rfl)
@[simp] theorem raise_panReqs (e : Nat) : (raise d e).panReqs = d.panReqs := (rfl)
@[simp] theorem raise_panTurn (e : Nat) : (raise d e).panTurn = d.panTurn := (rfl)
@[simp] theorem raise_events (e : Nat) : (raise d e).events = d.events ++ [{ num := e }] := (rfl)
@[simp] theorem raise_reports (e : Nat) : (raise d e).reports = d.reports := (rfl)
@[simp] theorem raise_bestEff (e : Nat) : (raise d e).bestEff = d.bestEff := (rfl)
@[simp] theorem raise_tapQueue (e : Nat) : (raise d e).tapQueue = d.tapQueue := (rfl)
@[simp] theorem raise_softLines (e : Nat) : (raise d e).softLines = d.softLines := (rfl)
@[simp] theorem raise_groups (e : Nat) : (raise d e).groups = d.groups := (rfl)
@[simp] theorem raise_lanes (e : Nat) : (raise d e).lanes = d.lanes := (rfl)
@[simp] theorem raise_trunk (e : Nat) : (raise d e).trunk = d.trunk := (rfl)
@[simp] theorem raise_snaps (e : Nat) : (raise d e).snaps = d.snaps := (rfl)
@[simp] theorem raise_latches (e : Nat) : (raise d e).latches = d.latches := (rfl)
@[simp] theorem raise_tsq (e : Nat) : (raise d e).tsq = d.tsq := (rfl)
@[simp] theorem raise_caps (e : Nat) : (raise d e).caps = d.caps := (rfl)
@[simp] theorem raise_trigs (e : Nat) : (raise d e).trigs = d.trigs := (rfl)
@[simp] theorem raise_flt (e : Nat) : (raise d e).flt = d.flt := (rfl)
@[simp] theorem raise_twt (e : Nat) : (raise d e).twt = d.twt := (rfl)
@[simp] theorem raise_tws (e : Nat) : (raise d e).tws = d.tws := (rfl)
@[simp] theorem raise_otp (e : Nat) : (raise d e).otp = d.otp := (rfl)
@[simp] theorem raise_otpBad (e : Nat) : (raise d e).otpBad = d.otpBad := (rfl)
@[simp] theorem raise_aonBad (e : Nat) : (raise d e).aonBad = d.aonBad := (rfl)
@[simp] theorem raise_boot (e : Nat) : (raise d e).boot = d.boot := (rfl)
@[simp] theorem raise_sec (e : Nat) : (raise d e).sec = d.sec := (rfl)
@[simp] theorem raise_heads (e : Nat) : (raise d e).heads = d.heads := (rfl)
@[simp] theorem raise_power (e : Nat) : (raise d e).power = d.power := (rfl)
@[simp] theorem raise_guards (e : Nat) : (raise d e).guards = d.guards := (rfl)
@[simp] theorem raise_onceTree (e : Nat) : (raise d e).onceTree = d.onceTree := (rfl)
@[simp] theorem raise_acts (e : Nat) : (raise d e).acts = d.acts := (rfl)
@[simp] theorem raise_commitNo (e : Nat) : (raise d e).commitNo = d.commitNo := (rfl)
@[simp] theorem raise_freeCnt (e : Nat) : (raise d e).freeCnt = d.freeCnt := (rfl)

/-! ### raiseFor -/

@[simp] theorem raiseFor_regs (e n : Nat) : (raiseFor d e n).regs = d.regs := (rfl)
@[simp] theorem raiseFor_staged (e n : Nat) : (raiseFor d e n).staged = d.staged := (rfl)
@[simp] theorem raiseFor_mem (e n : Nat) : (raiseFor d e n).mem = d.mem := (rfl)
@[simp] theorem raiseFor_badLines (e n : Nat) : (raiseFor d e n).badLines = d.badLines := (rfl)
@[simp] theorem raiseFor_ports (e n : Nat) : (raiseFor d e n).ports = d.ports := (rfl)
@[simp] theorem raiseFor_ctxs (e n : Nat) : (raiseFor d e n).ctxs = d.ctxs := (rfl)
@[simp] theorem raiseFor_pipes (e n : Nat) : (raiseFor d e n).pipes = d.pipes := (rfl)
@[simp] theorem raiseFor_views (e n : Nat) : (raiseFor d e n).views = d.views := (rfl)
@[simp] theorem raiseFor_taps (e n : Nat) : (raiseFor d e n).taps = d.taps := (rfl)
@[simp] theorem raiseFor_drvs (e n : Nat) : (raiseFor d e n).drvs = d.drvs := (rfl)
@[simp] theorem raiseFor_boxes (e n : Nat) : (raiseFor d e n).boxes = d.boxes := (rfl)
@[simp] theorem raiseFor_compares (e n : Nat) : (raiseFor d e n).compares = d.compares := (rfl)
@[simp] theorem raiseFor_panReqs (e n : Nat) : (raiseFor d e n).panReqs = d.panReqs := (rfl)
@[simp] theorem raiseFor_panTurn (e n : Nat) : (raiseFor d e n).panTurn = d.panTurn := (rfl)
@[simp] theorem raiseFor_events (e n : Nat) : (raiseFor d e n).events = d.events ++ [{ num := e, drover := some n }] := (rfl)
@[simp] theorem raiseFor_reports (e n : Nat) : (raiseFor d e n).reports = d.reports := (rfl)
@[simp] theorem raiseFor_bestEff (e n : Nat) : (raiseFor d e n).bestEff = d.bestEff := (rfl)
@[simp] theorem raiseFor_tapQueue (e n : Nat) : (raiseFor d e n).tapQueue = d.tapQueue := (rfl)
@[simp] theorem raiseFor_softLines (e n : Nat) : (raiseFor d e n).softLines = d.softLines := (rfl)
@[simp] theorem raiseFor_groups (e n : Nat) : (raiseFor d e n).groups = d.groups := (rfl)
@[simp] theorem raiseFor_lanes (e n : Nat) : (raiseFor d e n).lanes = d.lanes := (rfl)
@[simp] theorem raiseFor_trunk (e n : Nat) : (raiseFor d e n).trunk = d.trunk := (rfl)
@[simp] theorem raiseFor_snaps (e n : Nat) : (raiseFor d e n).snaps = d.snaps := (rfl)
@[simp] theorem raiseFor_latches (e n : Nat) : (raiseFor d e n).latches = d.latches := (rfl)
@[simp] theorem raiseFor_tsq (e n : Nat) : (raiseFor d e n).tsq = d.tsq := (rfl)
@[simp] theorem raiseFor_caps (e n : Nat) : (raiseFor d e n).caps = d.caps := (rfl)
@[simp] theorem raiseFor_trigs (e n : Nat) : (raiseFor d e n).trigs = d.trigs := (rfl)
@[simp] theorem raiseFor_flt (e n : Nat) : (raiseFor d e n).flt = d.flt := (rfl)
@[simp] theorem raiseFor_twt (e n : Nat) : (raiseFor d e n).twt = d.twt := (rfl)
@[simp] theorem raiseFor_tws (e n : Nat) : (raiseFor d e n).tws = d.tws := (rfl)
@[simp] theorem raiseFor_otp (e n : Nat) : (raiseFor d e n).otp = d.otp := (rfl)
@[simp] theorem raiseFor_otpBad (e n : Nat) : (raiseFor d e n).otpBad = d.otpBad := (rfl)
@[simp] theorem raiseFor_aonBad (e n : Nat) : (raiseFor d e n).aonBad = d.aonBad := (rfl)
@[simp] theorem raiseFor_boot (e n : Nat) : (raiseFor d e n).boot = d.boot := (rfl)
@[simp] theorem raiseFor_sec (e n : Nat) : (raiseFor d e n).sec = d.sec := (rfl)
@[simp] theorem raiseFor_heads (e n : Nat) : (raiseFor d e n).heads = d.heads := (rfl)
@[simp] theorem raiseFor_power (e n : Nat) : (raiseFor d e n).power = d.power := (rfl)
@[simp] theorem raiseFor_guards (e n : Nat) : (raiseFor d e n).guards = d.guards := (rfl)
@[simp] theorem raiseFor_onceTree (e n : Nat) : (raiseFor d e n).onceTree = d.onceTree := (rfl)
@[simp] theorem raiseFor_acts (e n : Nat) : (raiseFor d e n).acts = d.acts := (rfl)
@[simp] theorem raiseFor_commitNo (e n : Nat) : (raiseFor d e n).commitNo = d.commitNo := (rfl)
@[simp] theorem raiseFor_freeCnt (e n : Nat) : (raiseFor d e n).freeCnt = d.freeCnt := (rfl)

/-! ### reportAt -/

@[simp] theorem reportAt_regs (k a : Nat) : (reportAt d k a).regs = d.regs := (rfl)
@[simp] theorem reportAt_staged (k a : Nat) : (reportAt d k a).staged = d.staged := (rfl)
@[simp] theorem reportAt_mem (k a : Nat) : (reportAt d k a).mem = d.mem := (rfl)
@[simp] theorem reportAt_badLines (k a : Nat) : (reportAt d k a).badLines = d.badLines := (rfl)
@[simp] theorem reportAt_ports (k a : Nat) : (reportAt d k a).ports = d.ports := (rfl)
@[simp] theorem reportAt_ctxs (k a : Nat) : (reportAt d k a).ctxs = d.ctxs := (rfl)
@[simp] theorem reportAt_pipes (k a : Nat) : (reportAt d k a).pipes = d.pipes := (rfl)
@[simp] theorem reportAt_views (k a : Nat) : (reportAt d k a).views = d.views := (rfl)
@[simp] theorem reportAt_taps (k a : Nat) : (reportAt d k a).taps = d.taps := (rfl)
@[simp] theorem reportAt_drvs (k a : Nat) : (reportAt d k a).drvs = d.drvs := (rfl)
@[simp] theorem reportAt_boxes (k a : Nat) : (reportAt d k a).boxes = d.boxes := (rfl)
@[simp] theorem reportAt_compares (k a : Nat) : (reportAt d k a).compares = d.compares := (rfl)
@[simp] theorem reportAt_panReqs (k a : Nat) : (reportAt d k a).panReqs = d.panReqs := (rfl)
@[simp] theorem reportAt_panTurn (k a : Nat) : (reportAt d k a).panTurn = d.panTurn := (rfl)
@[simp] theorem reportAt_events (k a : Nat) : (reportAt d k a).events = d.events := (rfl)
@[simp] theorem reportAt_reports (k a : Nat) : (reportAt d k a).reports = d.reports ++ [{ source := k, addr := a }] := (rfl)
@[simp] theorem reportAt_bestEff (k a : Nat) : (reportAt d k a).bestEff = d.bestEff := (rfl)
@[simp] theorem reportAt_tapQueue (k a : Nat) : (reportAt d k a).tapQueue = d.tapQueue := (rfl)
@[simp] theorem reportAt_softLines (k a : Nat) : (reportAt d k a).softLines = d.softLines := (rfl)
@[simp] theorem reportAt_groups (k a : Nat) : (reportAt d k a).groups = d.groups := (rfl)
@[simp] theorem reportAt_lanes (k a : Nat) : (reportAt d k a).lanes = d.lanes := (rfl)
@[simp] theorem reportAt_trunk (k a : Nat) : (reportAt d k a).trunk = d.trunk := (rfl)
@[simp] theorem reportAt_snaps (k a : Nat) : (reportAt d k a).snaps = d.snaps := (rfl)
@[simp] theorem reportAt_latches (k a : Nat) : (reportAt d k a).latches = d.latches := (rfl)
@[simp] theorem reportAt_tsq (k a : Nat) : (reportAt d k a).tsq = d.tsq := (rfl)
@[simp] theorem reportAt_caps (k a : Nat) : (reportAt d k a).caps = d.caps := (rfl)
@[simp] theorem reportAt_trigs (k a : Nat) : (reportAt d k a).trigs = d.trigs := (rfl)
@[simp] theorem reportAt_flt (k a : Nat) : (reportAt d k a).flt = d.flt := (rfl)
@[simp] theorem reportAt_twt (k a : Nat) : (reportAt d k a).twt = d.twt := (rfl)
@[simp] theorem reportAt_tws (k a : Nat) : (reportAt d k a).tws = d.tws := (rfl)
@[simp] theorem reportAt_otp (k a : Nat) : (reportAt d k a).otp = d.otp := (rfl)
@[simp] theorem reportAt_otpBad (k a : Nat) : (reportAt d k a).otpBad = d.otpBad := (rfl)
@[simp] theorem reportAt_aonBad (k a : Nat) : (reportAt d k a).aonBad = d.aonBad := (rfl)
@[simp] theorem reportAt_boot (k a : Nat) : (reportAt d k a).boot = d.boot := (rfl)
@[simp] theorem reportAt_sec (k a : Nat) : (reportAt d k a).sec = d.sec := (rfl)
@[simp] theorem reportAt_heads (k a : Nat) : (reportAt d k a).heads = d.heads := (rfl)
@[simp] theorem reportAt_power (k a : Nat) : (reportAt d k a).power = d.power := (rfl)
@[simp] theorem reportAt_guards (k a : Nat) : (reportAt d k a).guards = d.guards := (rfl)
@[simp] theorem reportAt_onceTree (k a : Nat) : (reportAt d k a).onceTree = d.onceTree := (rfl)
@[simp] theorem reportAt_acts (k a : Nat) : (reportAt d k a).acts = d.acts := (rfl)
@[simp] theorem reportAt_commitNo (k a : Nat) : (reportAt d k a).commitNo = d.commitNo := (rfl)
@[simp] theorem reportAt_freeCnt (k a : Nat) : (reportAt d k a).freeCnt = d.freeCnt := (rfl)

/-! ### report -/

@[simp] theorem report_regs (k : Nat) : (report d k).regs = d.regs := (rfl)
@[simp] theorem report_staged (k : Nat) : (report d k).staged = d.staged := (rfl)
@[simp] theorem report_mem (k : Nat) : (report d k).mem = d.mem := (rfl)
@[simp] theorem report_badLines (k : Nat) : (report d k).badLines = d.badLines := (rfl)
@[simp] theorem report_ports (k : Nat) : (report d k).ports = d.ports := (rfl)
@[simp] theorem report_ctxs (k : Nat) : (report d k).ctxs = d.ctxs := (rfl)
@[simp] theorem report_pipes (k : Nat) : (report d k).pipes = d.pipes := (rfl)
@[simp] theorem report_views (k : Nat) : (report d k).views = d.views := (rfl)
@[simp] theorem report_taps (k : Nat) : (report d k).taps = d.taps := (rfl)
@[simp] theorem report_drvs (k : Nat) : (report d k).drvs = d.drvs := (rfl)
@[simp] theorem report_boxes (k : Nat) : (report d k).boxes = d.boxes := (rfl)
@[simp] theorem report_compares (k : Nat) : (report d k).compares = d.compares := (rfl)
@[simp] theorem report_panReqs (k : Nat) : (report d k).panReqs = d.panReqs := (rfl)
@[simp] theorem report_panTurn (k : Nat) : (report d k).panTurn = d.panTurn := (rfl)
@[simp] theorem report_events (k : Nat) : (report d k).events = d.events := (rfl)
@[simp] theorem report_reports (k : Nat) : (report d k).reports = d.reports ++ [{ source := k, addr := sourceBase k }] := (rfl)
@[simp] theorem report_bestEff (k : Nat) : (report d k).bestEff = d.bestEff := (rfl)
@[simp] theorem report_tapQueue (k : Nat) : (report d k).tapQueue = d.tapQueue := (rfl)
@[simp] theorem report_softLines (k : Nat) : (report d k).softLines = d.softLines := (rfl)
@[simp] theorem report_groups (k : Nat) : (report d k).groups = d.groups := (rfl)
@[simp] theorem report_lanes (k : Nat) : (report d k).lanes = d.lanes := (rfl)
@[simp] theorem report_trunk (k : Nat) : (report d k).trunk = d.trunk := (rfl)
@[simp] theorem report_snaps (k : Nat) : (report d k).snaps = d.snaps := (rfl)
@[simp] theorem report_latches (k : Nat) : (report d k).latches = d.latches := (rfl)
@[simp] theorem report_tsq (k : Nat) : (report d k).tsq = d.tsq := (rfl)
@[simp] theorem report_caps (k : Nat) : (report d k).caps = d.caps := (rfl)
@[simp] theorem report_trigs (k : Nat) : (report d k).trigs = d.trigs := (rfl)
@[simp] theorem report_flt (k : Nat) : (report d k).flt = d.flt := (rfl)
@[simp] theorem report_twt (k : Nat) : (report d k).twt = d.twt := (rfl)
@[simp] theorem report_tws (k : Nat) : (report d k).tws = d.tws := (rfl)
@[simp] theorem report_otp (k : Nat) : (report d k).otp = d.otp := (rfl)
@[simp] theorem report_otpBad (k : Nat) : (report d k).otpBad = d.otpBad := (rfl)
@[simp] theorem report_aonBad (k : Nat) : (report d k).aonBad = d.aonBad := (rfl)
@[simp] theorem report_boot (k : Nat) : (report d k).boot = d.boot := (rfl)
@[simp] theorem report_sec (k : Nat) : (report d k).sec = d.sec := (rfl)
@[simp] theorem report_heads (k : Nat) : (report d k).heads = d.heads := (rfl)
@[simp] theorem report_power (k : Nat) : (report d k).power = d.power := (rfl)
@[simp] theorem report_guards (k : Nat) : (report d k).guards = d.guards := (rfl)
@[simp] theorem report_onceTree (k : Nat) : (report d k).onceTree = d.onceTree := (rfl)
@[simp] theorem report_acts (k : Nat) : (report d k).acts = d.acts := (rfl)
@[simp] theorem report_commitNo (k : Nat) : (report d k).commitNo = d.commitNo := (rfl)
@[simp] theorem report_freeCnt (k : Nat) : (report d k).freeCnt = d.freeCnt := (rfl)

/-! ### reportAcc -/

@[simp] theorem reportAcc_regs (k m : Nat) (t : AccType) (a : Nat) : (reportAcc d k m t a).regs = d.regs := (rfl)
@[simp] theorem reportAcc_staged (k m : Nat) (t : AccType) (a : Nat) : (reportAcc d k m t a).staged = d.staged := (rfl)
@[simp] theorem reportAcc_mem (k m : Nat) (t : AccType) (a : Nat) : (reportAcc d k m t a).mem = d.mem := (rfl)
@[simp] theorem reportAcc_badLines (k m : Nat) (t : AccType) (a : Nat) : (reportAcc d k m t a).badLines = d.badLines := (rfl)
@[simp] theorem reportAcc_ports (k m : Nat) (t : AccType) (a : Nat) : (reportAcc d k m t a).ports = d.ports := (rfl)
@[simp] theorem reportAcc_ctxs (k m : Nat) (t : AccType) (a : Nat) : (reportAcc d k m t a).ctxs = d.ctxs := (rfl)
@[simp] theorem reportAcc_pipes (k m : Nat) (t : AccType) (a : Nat) : (reportAcc d k m t a).pipes = d.pipes := (rfl)
@[simp] theorem reportAcc_views (k m : Nat) (t : AccType) (a : Nat) : (reportAcc d k m t a).views = d.views := (rfl)
@[simp] theorem reportAcc_taps (k m : Nat) (t : AccType) (a : Nat) : (reportAcc d k m t a).taps = d.taps := (rfl)
@[simp] theorem reportAcc_drvs (k m : Nat) (t : AccType) (a : Nat) : (reportAcc d k m t a).drvs = d.drvs := (rfl)
@[simp] theorem reportAcc_boxes (k m : Nat) (t : AccType) (a : Nat) : (reportAcc d k m t a).boxes = d.boxes := (rfl)
@[simp] theorem reportAcc_compares (k m : Nat) (t : AccType) (a : Nat) : (reportAcc d k m t a).compares = d.compares := (rfl)
@[simp] theorem reportAcc_panReqs (k m : Nat) (t : AccType) (a : Nat) : (reportAcc d k m t a).panReqs = d.panReqs := (rfl)
@[simp] theorem reportAcc_panTurn (k m : Nat) (t : AccType) (a : Nat) : (reportAcc d k m t a).panTurn = d.panTurn := (rfl)
@[simp] theorem reportAcc_events (k m : Nat) (t : AccType) (a : Nat) : (reportAcc d k m t a).events = d.events := (rfl)
@[simp] theorem reportAcc_reports (k m : Nat) (t : AccType) (a : Nat) : (reportAcc d k m t a).reports = d.reports ++ [{ source := k, master := m, access := accCode t, addr := a }] := (rfl)
@[simp] theorem reportAcc_bestEff (k m : Nat) (t : AccType) (a : Nat) : (reportAcc d k m t a).bestEff = d.bestEff := (rfl)
@[simp] theorem reportAcc_tapQueue (k m : Nat) (t : AccType) (a : Nat) : (reportAcc d k m t a).tapQueue = d.tapQueue := (rfl)
@[simp] theorem reportAcc_softLines (k m : Nat) (t : AccType) (a : Nat) : (reportAcc d k m t a).softLines = d.softLines := (rfl)
@[simp] theorem reportAcc_groups (k m : Nat) (t : AccType) (a : Nat) : (reportAcc d k m t a).groups = d.groups := (rfl)
@[simp] theorem reportAcc_lanes (k m : Nat) (t : AccType) (a : Nat) : (reportAcc d k m t a).lanes = d.lanes := (rfl)
@[simp] theorem reportAcc_trunk (k m : Nat) (t : AccType) (a : Nat) : (reportAcc d k m t a).trunk = d.trunk := (rfl)
@[simp] theorem reportAcc_snaps (k m : Nat) (t : AccType) (a : Nat) : (reportAcc d k m t a).snaps = d.snaps := (rfl)
@[simp] theorem reportAcc_latches (k m : Nat) (t : AccType) (a : Nat) : (reportAcc d k m t a).latches = d.latches := (rfl)
@[simp] theorem reportAcc_tsq (k m : Nat) (t : AccType) (a : Nat) : (reportAcc d k m t a).tsq = d.tsq := (rfl)
@[simp] theorem reportAcc_caps (k m : Nat) (t : AccType) (a : Nat) : (reportAcc d k m t a).caps = d.caps := (rfl)
@[simp] theorem reportAcc_trigs (k m : Nat) (t : AccType) (a : Nat) : (reportAcc d k m t a).trigs = d.trigs := (rfl)
@[simp] theorem reportAcc_flt (k m : Nat) (t : AccType) (a : Nat) : (reportAcc d k m t a).flt = d.flt := (rfl)
@[simp] theorem reportAcc_twt (k m : Nat) (t : AccType) (a : Nat) : (reportAcc d k m t a).twt = d.twt := (rfl)
@[simp] theorem reportAcc_tws (k m : Nat) (t : AccType) (a : Nat) : (reportAcc d k m t a).tws = d.tws := (rfl)
@[simp] theorem reportAcc_otp (k m : Nat) (t : AccType) (a : Nat) : (reportAcc d k m t a).otp = d.otp := (rfl)
@[simp] theorem reportAcc_otpBad (k m : Nat) (t : AccType) (a : Nat) : (reportAcc d k m t a).otpBad = d.otpBad := (rfl)
@[simp] theorem reportAcc_aonBad (k m : Nat) (t : AccType) (a : Nat) : (reportAcc d k m t a).aonBad = d.aonBad := (rfl)
@[simp] theorem reportAcc_boot (k m : Nat) (t : AccType) (a : Nat) : (reportAcc d k m t a).boot = d.boot := (rfl)
@[simp] theorem reportAcc_sec (k m : Nat) (t : AccType) (a : Nat) : (reportAcc d k m t a).sec = d.sec := (rfl)
@[simp] theorem reportAcc_heads (k m : Nat) (t : AccType) (a : Nat) : (reportAcc d k m t a).heads = d.heads := (rfl)
@[simp] theorem reportAcc_power (k m : Nat) (t : AccType) (a : Nat) : (reportAcc d k m t a).power = d.power := (rfl)
@[simp] theorem reportAcc_guards (k m : Nat) (t : AccType) (a : Nat) : (reportAcc d k m t a).guards = d.guards := (rfl)
@[simp] theorem reportAcc_onceTree (k m : Nat) (t : AccType) (a : Nat) : (reportAcc d k m t a).onceTree = d.onceTree := (rfl)
@[simp] theorem reportAcc_acts (k m : Nat) (t : AccType) (a : Nat) : (reportAcc d k m t a).acts = d.acts := (rfl)
@[simp] theorem reportAcc_commitNo (k m : Nat) (t : AccType) (a : Nat) : (reportAcc d k m t a).commitNo = d.commitNo := (rfl)
@[simp] theorem reportAcc_freeCnt (k m : Nat) (t : AccType) (a : Nat) : (reportAcc d k m t a).freeCnt = d.freeCnt := (rfl)

/-! ### memWrite -/

@[simp] theorem memWrite_regs (a : Nat) (bs : List Byte) : (memWrite d a bs).regs = d.regs := (rfl)
@[simp] theorem memWrite_staged (a : Nat) (bs : List Byte) : (memWrite d a bs).staged = d.staged := (rfl)
@[simp] theorem memWrite_mem (a : Nat) (bs : List Byte) : (memWrite d a bs).mem = memPut d.mem a bs := (rfl)
@[simp] theorem memWrite_ports (a : Nat) (bs : List Byte) : (memWrite d a bs).ports = d.ports := (rfl)
@[simp] theorem memWrite_ctxs (a : Nat) (bs : List Byte) : (memWrite d a bs).ctxs = d.ctxs := (rfl)
@[simp] theorem memWrite_pipes (a : Nat) (bs : List Byte) : (memWrite d a bs).pipes = d.pipes := (rfl)
@[simp] theorem memWrite_views (a : Nat) (bs : List Byte) : (memWrite d a bs).views = d.views := (rfl)
@[simp] theorem memWrite_taps (a : Nat) (bs : List Byte) : (memWrite d a bs).taps = d.taps := (rfl)
@[simp] theorem memWrite_drvs (a : Nat) (bs : List Byte) : (memWrite d a bs).drvs = d.drvs := (rfl)
@[simp] theorem memWrite_boxes (a : Nat) (bs : List Byte) : (memWrite d a bs).boxes = d.boxes := (rfl)
@[simp] theorem memWrite_compares (a : Nat) (bs : List Byte) : (memWrite d a bs).compares = d.compares := (rfl)
@[simp] theorem memWrite_panReqs (a : Nat) (bs : List Byte) : (memWrite d a bs).panReqs = d.panReqs := (rfl)
@[simp] theorem memWrite_panTurn (a : Nat) (bs : List Byte) : (memWrite d a bs).panTurn = d.panTurn := (rfl)
@[simp] theorem memWrite_events (a : Nat) (bs : List Byte) : (memWrite d a bs).events = d.events := (rfl)
@[simp] theorem memWrite_reports (a : Nat) (bs : List Byte) : (memWrite d a bs).reports = d.reports := (rfl)
@[simp] theorem memWrite_bestEff (a : Nat) (bs : List Byte) : (memWrite d a bs).bestEff = d.bestEff := (rfl)
@[simp] theorem memWrite_tapQueue (a : Nat) (bs : List Byte) : (memWrite d a bs).tapQueue = d.tapQueue := (rfl)
@[simp] theorem memWrite_softLines (a : Nat) (bs : List Byte) : (memWrite d a bs).softLines = d.softLines := (rfl)
@[simp] theorem memWrite_groups (a : Nat) (bs : List Byte) : (memWrite d a bs).groups = d.groups := (rfl)
@[simp] theorem memWrite_lanes (a : Nat) (bs : List Byte) : (memWrite d a bs).lanes = d.lanes := (rfl)
@[simp] theorem memWrite_trunk (a : Nat) (bs : List Byte) : (memWrite d a bs).trunk = d.trunk := (rfl)
@[simp] theorem memWrite_snaps (a : Nat) (bs : List Byte) : (memWrite d a bs).snaps = d.snaps := (rfl)
@[simp] theorem memWrite_latches (a : Nat) (bs : List Byte) : (memWrite d a bs).latches = d.latches := (rfl)
@[simp] theorem memWrite_tsq (a : Nat) (bs : List Byte) : (memWrite d a bs).tsq = d.tsq := (rfl)
@[simp] theorem memWrite_caps (a : Nat) (bs : List Byte) : (memWrite d a bs).caps = d.caps := (rfl)
@[simp] theorem memWrite_trigs (a : Nat) (bs : List Byte) : (memWrite d a bs).trigs = d.trigs := (rfl)
@[simp] theorem memWrite_flt (a : Nat) (bs : List Byte) : (memWrite d a bs).flt = d.flt := (rfl)
@[simp] theorem memWrite_twt (a : Nat) (bs : List Byte) : (memWrite d a bs).twt = d.twt := (rfl)
@[simp] theorem memWrite_tws (a : Nat) (bs : List Byte) : (memWrite d a bs).tws = d.tws := (rfl)
@[simp] theorem memWrite_otp (a : Nat) (bs : List Byte) : (memWrite d a bs).otp = d.otp := (rfl)
@[simp] theorem memWrite_otpBad (a : Nat) (bs : List Byte) : (memWrite d a bs).otpBad = d.otpBad := (rfl)
@[simp] theorem memWrite_aonBad (a : Nat) (bs : List Byte) : (memWrite d a bs).aonBad = d.aonBad := (rfl)
@[simp] theorem memWrite_boot (a : Nat) (bs : List Byte) : (memWrite d a bs).boot = d.boot := (rfl)
@[simp] theorem memWrite_sec (a : Nat) (bs : List Byte) : (memWrite d a bs).sec = d.sec := (rfl)
@[simp] theorem memWrite_heads (a : Nat) (bs : List Byte) : (memWrite d a bs).heads = d.heads := (rfl)
@[simp] theorem memWrite_power (a : Nat) (bs : List Byte) : (memWrite d a bs).power = d.power := (rfl)
@[simp] theorem memWrite_guards (a : Nat) (bs : List Byte) : (memWrite d a bs).guards = d.guards := (rfl)
@[simp] theorem memWrite_onceTree (a : Nat) (bs : List Byte) : (memWrite d a bs).onceTree = d.onceTree := (rfl)
@[simp] theorem memWrite_acts (a : Nat) (bs : List Byte) : (memWrite d a bs).acts = d.acts := (rfl)
@[simp] theorem memWrite_commitNo (a : Nat) (bs : List Byte) : (memWrite d a bs).commitNo = d.commitNo := (rfl)
@[simp] theorem memWrite_freeCnt (a : Nat) (bs : List Byte) : (memWrite d a bs).freeCnt = d.freeCnt := (rfl)

/-! ### panFill -/

@[simp] theorem panFill_regs (a : Nat) (bs : List Byte) : (panFill d a bs).regs = d.regs := (rfl)
@[simp] theorem panFill_staged (a : Nat) (bs : List Byte) : (panFill d a bs).staged = d.staged := (rfl)
@[simp] theorem panFill_mem (a : Nat) (bs : List Byte) : (panFill d a bs).mem = memPut d.mem (panBase + a) bs := (rfl)
@[simp] theorem panFill_ports (a : Nat) (bs : List Byte) : (panFill d a bs).ports = d.ports := (rfl)
@[simp] theorem panFill_ctxs (a : Nat) (bs : List Byte) : (panFill d a bs).ctxs = d.ctxs := (rfl)
@[simp] theorem panFill_pipes (a : Nat) (bs : List Byte) : (panFill d a bs).pipes = d.pipes := (rfl)
@[simp] theorem panFill_views (a : Nat) (bs : List Byte) : (panFill d a bs).views = d.views := (rfl)
@[simp] theorem panFill_taps (a : Nat) (bs : List Byte) : (panFill d a bs).taps = d.taps := (rfl)
@[simp] theorem panFill_drvs (a : Nat) (bs : List Byte) : (panFill d a bs).drvs = d.drvs := (rfl)
@[simp] theorem panFill_boxes (a : Nat) (bs : List Byte) : (panFill d a bs).boxes = d.boxes := (rfl)
@[simp] theorem panFill_compares (a : Nat) (bs : List Byte) : (panFill d a bs).compares = d.compares := (rfl)
@[simp] theorem panFill_panReqs (a : Nat) (bs : List Byte) : (panFill d a bs).panReqs = d.panReqs := (rfl)
@[simp] theorem panFill_panTurn (a : Nat) (bs : List Byte) : (panFill d a bs).panTurn = d.panTurn := (rfl)
@[simp] theorem panFill_events (a : Nat) (bs : List Byte) : (panFill d a bs).events = d.events := (rfl)
@[simp] theorem panFill_reports (a : Nat) (bs : List Byte) : (panFill d a bs).reports = d.reports := (rfl)
@[simp] theorem panFill_bestEff (a : Nat) (bs : List Byte) : (panFill d a bs).bestEff = d.bestEff := (rfl)
@[simp] theorem panFill_tapQueue (a : Nat) (bs : List Byte) : (panFill d a bs).tapQueue = d.tapQueue := (rfl)
@[simp] theorem panFill_softLines (a : Nat) (bs : List Byte) : (panFill d a bs).softLines = d.softLines := (rfl)
@[simp] theorem panFill_groups (a : Nat) (bs : List Byte) : (panFill d a bs).groups = d.groups := (rfl)
@[simp] theorem panFill_lanes (a : Nat) (bs : List Byte) : (panFill d a bs).lanes = d.lanes := (rfl)
@[simp] theorem panFill_trunk (a : Nat) (bs : List Byte) : (panFill d a bs).trunk = d.trunk := (rfl)
@[simp] theorem panFill_snaps (a : Nat) (bs : List Byte) : (panFill d a bs).snaps = d.snaps := (rfl)
@[simp] theorem panFill_latches (a : Nat) (bs : List Byte) : (panFill d a bs).latches = d.latches := (rfl)
@[simp] theorem panFill_tsq (a : Nat) (bs : List Byte) : (panFill d a bs).tsq = d.tsq := (rfl)
@[simp] theorem panFill_caps (a : Nat) (bs : List Byte) : (panFill d a bs).caps = d.caps := (rfl)
@[simp] theorem panFill_trigs (a : Nat) (bs : List Byte) : (panFill d a bs).trigs = d.trigs := (rfl)
@[simp] theorem panFill_flt (a : Nat) (bs : List Byte) : (panFill d a bs).flt = d.flt := (rfl)
@[simp] theorem panFill_twt (a : Nat) (bs : List Byte) : (panFill d a bs).twt = d.twt := (rfl)
@[simp] theorem panFill_tws (a : Nat) (bs : List Byte) : (panFill d a bs).tws = d.tws := (rfl)
@[simp] theorem panFill_otp (a : Nat) (bs : List Byte) : (panFill d a bs).otp = d.otp := (rfl)
@[simp] theorem panFill_otpBad (a : Nat) (bs : List Byte) : (panFill d a bs).otpBad = d.otpBad := (rfl)
@[simp] theorem panFill_aonBad (a : Nat) (bs : List Byte) : (panFill d a bs).aonBad = d.aonBad := (rfl)
@[simp] theorem panFill_boot (a : Nat) (bs : List Byte) : (panFill d a bs).boot = d.boot := (rfl)
@[simp] theorem panFill_sec (a : Nat) (bs : List Byte) : (panFill d a bs).sec = d.sec := (rfl)
@[simp] theorem panFill_heads (a : Nat) (bs : List Byte) : (panFill d a bs).heads = d.heads := (rfl)
@[simp] theorem panFill_power (a : Nat) (bs : List Byte) : (panFill d a bs).power = d.power := (rfl)
@[simp] theorem panFill_guards (a : Nat) (bs : List Byte) : (panFill d a bs).guards = d.guards := (rfl)
@[simp] theorem panFill_onceTree (a : Nat) (bs : List Byte) : (panFill d a bs).onceTree = d.onceTree := (rfl)
@[simp] theorem panFill_acts (a : Nat) (bs : List Byte) : (panFill d a bs).acts = d.acts := (rfl)
@[simp] theorem panFill_commitNo (a : Nat) (bs : List Byte) : (panFill d a bs).commitNo = d.commitNo := (rfl)
@[simp] theorem panFill_freeCnt (a : Nat) (bs : List Byte) : (panFill d a bs).freeCnt = d.freeCnt := (rfl)

/-! ### reportBanks -/

@[simp] theorem reportBanks_staged (l : List Nat) : (reportBanks d l).staged = d.staged := (rfl)
@[simp] theorem reportBanks_mem (l : List Nat) : (reportBanks d l).mem = d.mem := (rfl)
@[simp] theorem reportBanks_badLines (l : List Nat) : (reportBanks d l).badLines = d.badLines := (rfl)
@[simp] theorem reportBanks_ports (l : List Nat) : (reportBanks d l).ports = d.ports := (rfl)
@[simp] theorem reportBanks_ctxs (l : List Nat) : (reportBanks d l).ctxs = d.ctxs := (rfl)
@[simp] theorem reportBanks_pipes (l : List Nat) : (reportBanks d l).pipes = d.pipes := (rfl)
@[simp] theorem reportBanks_views (l : List Nat) : (reportBanks d l).views = d.views := (rfl)
@[simp] theorem reportBanks_taps (l : List Nat) : (reportBanks d l).taps = d.taps := (rfl)
@[simp] theorem reportBanks_drvs (l : List Nat) : (reportBanks d l).drvs = d.drvs := (rfl)
@[simp] theorem reportBanks_boxes (l : List Nat) : (reportBanks d l).boxes = d.boxes := (rfl)
@[simp] theorem reportBanks_compares (l : List Nat) : (reportBanks d l).compares = d.compares := (rfl)
@[simp] theorem reportBanks_panReqs (l : List Nat) : (reportBanks d l).panReqs = d.panReqs := (rfl)
@[simp] theorem reportBanks_panTurn (l : List Nat) : (reportBanks d l).panTurn = d.panTurn := (rfl)
@[simp] theorem reportBanks_events (l : List Nat) : (reportBanks d l).events = d.events := (rfl)
@[simp] theorem reportBanks_bestEff (l : List Nat) : (reportBanks d l).bestEff = d.bestEff := (rfl)
@[simp] theorem reportBanks_tapQueue (l : List Nat) : (reportBanks d l).tapQueue = d.tapQueue := (rfl)
@[simp] theorem reportBanks_softLines (l : List Nat) : (reportBanks d l).softLines = d.softLines := (rfl)
@[simp] theorem reportBanks_groups (l : List Nat) : (reportBanks d l).groups = d.groups := (rfl)
@[simp] theorem reportBanks_lanes (l : List Nat) : (reportBanks d l).lanes = d.lanes := (rfl)
@[simp] theorem reportBanks_trunk (l : List Nat) : (reportBanks d l).trunk = d.trunk := (rfl)
@[simp] theorem reportBanks_snaps (l : List Nat) : (reportBanks d l).snaps = d.snaps := (rfl)
@[simp] theorem reportBanks_latches (l : List Nat) : (reportBanks d l).latches = d.latches := (rfl)
@[simp] theorem reportBanks_tsq (l : List Nat) : (reportBanks d l).tsq = d.tsq := (rfl)
@[simp] theorem reportBanks_caps (l : List Nat) : (reportBanks d l).caps = d.caps := (rfl)
@[simp] theorem reportBanks_trigs (l : List Nat) : (reportBanks d l).trigs = d.trigs := (rfl)
@[simp] theorem reportBanks_flt (l : List Nat) : (reportBanks d l).flt = d.flt := (rfl)
@[simp] theorem reportBanks_twt (l : List Nat) : (reportBanks d l).twt = d.twt := (rfl)
@[simp] theorem reportBanks_tws (l : List Nat) : (reportBanks d l).tws = d.tws := (rfl)
@[simp] theorem reportBanks_otp (l : List Nat) : (reportBanks d l).otp = d.otp := (rfl)
@[simp] theorem reportBanks_otpBad (l : List Nat) : (reportBanks d l).otpBad = d.otpBad := (rfl)
@[simp] theorem reportBanks_aonBad (l : List Nat) : (reportBanks d l).aonBad = d.aonBad := (rfl)
@[simp] theorem reportBanks_boot (l : List Nat) : (reportBanks d l).boot = d.boot := (rfl)
@[simp] theorem reportBanks_sec (l : List Nat) : (reportBanks d l).sec = d.sec := (rfl)
@[simp] theorem reportBanks_heads (l : List Nat) : (reportBanks d l).heads = d.heads := (rfl)
@[simp] theorem reportBanks_power (l : List Nat) : (reportBanks d l).power = d.power := (rfl)
@[simp] theorem reportBanks_guards (l : List Nat) : (reportBanks d l).guards = d.guards := (rfl)
@[simp] theorem reportBanks_onceTree (l : List Nat) : (reportBanks d l).onceTree = d.onceTree := (rfl)
@[simp] theorem reportBanks_acts (l : List Nat) : (reportBanks d l).acts = d.acts := (rfl)
@[simp] theorem reportBanks_commitNo (l : List Nat) : (reportBanks d l).commitNo = d.commitNo := (rfl)
@[simp] theorem reportBanks_freeCnt (l : List Nat) : (reportBanks d l).freeCnt = d.freeCnt := (rfl)

/-! ### panWrite -/

@[simp] theorem panWrite_staged (a : Nat) (bs : List Byte) : (panWrite d a bs).staged = d.staged := (rfl)
@[simp] theorem panWrite_mem (a : Nat) (bs : List Byte) : (panWrite d a bs).mem = memPut d.mem (panBase + (panParts d a bs.length).lo) ((bs.drop ((panParts d a bs.length).lo - a)).take ((panParts d a bs.length).hi - (panParts d a bs.length).lo)) := (rfl)
@[simp] theorem panWrite_ports (a : Nat) (bs : List Byte) : (panWrite d a bs).ports = d.ports := (rfl)
@[simp] theorem panWrite_ctxs (a : Nat) (bs : List Byte) : (panWrite d a bs).ctxs = d.ctxs := (rfl)
@[simp] theorem panWrite_pipes (a : Nat) (bs : List Byte) : (panWrite d a bs).pipes = d.pipes := (rfl)
@[simp] theorem panWrite_views (a : Nat) (bs : List Byte) : (panWrite d a bs).views = d.views := (rfl)
@[simp] theorem panWrite_taps (a : Nat) (bs : List Byte) : (panWrite d a bs).taps = d.taps := (rfl)
@[simp] theorem panWrite_drvs (a : Nat) (bs : List Byte) : (panWrite d a bs).drvs = d.drvs := (rfl)
@[simp] theorem panWrite_boxes (a : Nat) (bs : List Byte) : (panWrite d a bs).boxes = d.boxes := (rfl)
@[simp] theorem panWrite_compares (a : Nat) (bs : List Byte) : (panWrite d a bs).compares = d.compares := (rfl)
@[simp] theorem panWrite_panReqs (a : Nat) (bs : List Byte) : (panWrite d a bs).panReqs = d.panReqs := (rfl)
@[simp] theorem panWrite_panTurn (a : Nat) (bs : List Byte) : (panWrite d a bs).panTurn = d.panTurn := (rfl)
@[simp] theorem panWrite_events (a : Nat) (bs : List Byte) : (panWrite d a bs).events = d.events := (rfl)
@[simp] theorem panWrite_bestEff (a : Nat) (bs : List Byte) : (panWrite d a bs).bestEff = d.bestEff := (rfl)
@[simp] theorem panWrite_tapQueue (a : Nat) (bs : List Byte) : (panWrite d a bs).tapQueue = d.tapQueue := (rfl)
@[simp] theorem panWrite_softLines (a : Nat) (bs : List Byte) : (panWrite d a bs).softLines = d.softLines := (rfl)
@[simp] theorem panWrite_groups (a : Nat) (bs : List Byte) : (panWrite d a bs).groups = d.groups := (rfl)
@[simp] theorem panWrite_lanes (a : Nat) (bs : List Byte) : (panWrite d a bs).lanes = d.lanes := (rfl)
@[simp] theorem panWrite_trunk (a : Nat) (bs : List Byte) : (panWrite d a bs).trunk = d.trunk := (rfl)
@[simp] theorem panWrite_snaps (a : Nat) (bs : List Byte) : (panWrite d a bs).snaps = d.snaps := (rfl)
@[simp] theorem panWrite_latches (a : Nat) (bs : List Byte) : (panWrite d a bs).latches = d.latches := (rfl)
@[simp] theorem panWrite_tsq (a : Nat) (bs : List Byte) : (panWrite d a bs).tsq = d.tsq := (rfl)
@[simp] theorem panWrite_caps (a : Nat) (bs : List Byte) : (panWrite d a bs).caps = d.caps := (rfl)
@[simp] theorem panWrite_trigs (a : Nat) (bs : List Byte) : (panWrite d a bs).trigs = d.trigs := (rfl)
@[simp] theorem panWrite_flt (a : Nat) (bs : List Byte) : (panWrite d a bs).flt = d.flt := (rfl)
@[simp] theorem panWrite_twt (a : Nat) (bs : List Byte) : (panWrite d a bs).twt = d.twt := (rfl)
@[simp] theorem panWrite_tws (a : Nat) (bs : List Byte) : (panWrite d a bs).tws = d.tws := (rfl)
@[simp] theorem panWrite_otp (a : Nat) (bs : List Byte) : (panWrite d a bs).otp = d.otp := (rfl)
@[simp] theorem panWrite_otpBad (a : Nat) (bs : List Byte) : (panWrite d a bs).otpBad = d.otpBad := (rfl)
@[simp] theorem panWrite_aonBad (a : Nat) (bs : List Byte) : (panWrite d a bs).aonBad = d.aonBad := (rfl)
@[simp] theorem panWrite_boot (a : Nat) (bs : List Byte) : (panWrite d a bs).boot = d.boot := (rfl)
@[simp] theorem panWrite_sec (a : Nat) (bs : List Byte) : (panWrite d a bs).sec = d.sec := (rfl)
@[simp] theorem panWrite_heads (a : Nat) (bs : List Byte) : (panWrite d a bs).heads = d.heads := (rfl)
@[simp] theorem panWrite_power (a : Nat) (bs : List Byte) : (panWrite d a bs).power = d.power := (rfl)
@[simp] theorem panWrite_guards (a : Nat) (bs : List Byte) : (panWrite d a bs).guards = d.guards := (rfl)
@[simp] theorem panWrite_onceTree (a : Nat) (bs : List Byte) : (panWrite d a bs).onceTree = d.onceTree := (rfl)
@[simp] theorem panWrite_acts (a : Nat) (bs : List Byte) : (panWrite d a bs).acts = d.acts := (rfl)
@[simp] theorem panWrite_commitNo (a : Nat) (bs : List Byte) : (panWrite d a bs).commitNo = d.commitNo := (rfl)
@[simp] theorem panWrite_freeCnt (a : Nat) (bs : List Byte) : (panWrite d a bs).freeCnt = d.freeCnt := (rfl)

/-! ### act -/

@[simp] theorem act_regs (a : Act) : (act d a).regs = d.regs := (rfl)
@[simp] theorem act_staged (a : Act) : (act d a).staged = d.staged := (rfl)
@[simp] theorem act_mem (a : Act) : (act d a).mem = d.mem := (rfl)
@[simp] theorem act_badLines (a : Act) : (act d a).badLines = d.badLines := (rfl)
@[simp] theorem act_ports (a : Act) : (act d a).ports = d.ports := (rfl)
@[simp] theorem act_ctxs (a : Act) : (act d a).ctxs = d.ctxs := (rfl)
@[simp] theorem act_pipes (a : Act) : (act d a).pipes = d.pipes := (rfl)
@[simp] theorem act_views (a : Act) : (act d a).views = d.views := (rfl)
@[simp] theorem act_taps (a : Act) : (act d a).taps = d.taps := (rfl)
@[simp] theorem act_drvs (a : Act) : (act d a).drvs = d.drvs := (rfl)
@[simp] theorem act_boxes (a : Act) : (act d a).boxes = d.boxes := (rfl)
@[simp] theorem act_compares (a : Act) : (act d a).compares = d.compares := (rfl)
@[simp] theorem act_panReqs (a : Act) : (act d a).panReqs = d.panReqs := (rfl)
@[simp] theorem act_panTurn (a : Act) : (act d a).panTurn = d.panTurn := (rfl)
@[simp] theorem act_events (a : Act) : (act d a).events = d.events := (rfl)
@[simp] theorem act_reports (a : Act) : (act d a).reports = d.reports := (rfl)
@[simp] theorem act_bestEff (a : Act) : (act d a).bestEff = d.bestEff := (rfl)
@[simp] theorem act_tapQueue (a : Act) : (act d a).tapQueue = d.tapQueue := (rfl)
@[simp] theorem act_softLines (a : Act) : (act d a).softLines = d.softLines := (rfl)
@[simp] theorem act_groups (a : Act) : (act d a).groups = d.groups := (rfl)
@[simp] theorem act_lanes (a : Act) : (act d a).lanes = d.lanes := (rfl)
@[simp] theorem act_trunk (a : Act) : (act d a).trunk = d.trunk := (rfl)
@[simp] theorem act_snaps (a : Act) : (act d a).snaps = d.snaps := (rfl)
@[simp] theorem act_latches (a : Act) : (act d a).latches = d.latches := (rfl)
@[simp] theorem act_tsq (a : Act) : (act d a).tsq = d.tsq := (rfl)
@[simp] theorem act_caps (a : Act) : (act d a).caps = d.caps := (rfl)
@[simp] theorem act_trigs (a : Act) : (act d a).trigs = d.trigs := (rfl)
@[simp] theorem act_flt (a : Act) : (act d a).flt = d.flt := (rfl)
@[simp] theorem act_twt (a : Act) : (act d a).twt = d.twt := (rfl)
@[simp] theorem act_tws (a : Act) : (act d a).tws = d.tws := (rfl)
@[simp] theorem act_otp (a : Act) : (act d a).otp = d.otp := (rfl)
@[simp] theorem act_otpBad (a : Act) : (act d a).otpBad = d.otpBad := (rfl)
@[simp] theorem act_aonBad (a : Act) : (act d a).aonBad = d.aonBad := (rfl)
@[simp] theorem act_boot (a : Act) : (act d a).boot = d.boot := (rfl)
@[simp] theorem act_sec (a : Act) : (act d a).sec = d.sec := (rfl)
@[simp] theorem act_heads (a : Act) : (act d a).heads = d.heads := (rfl)
@[simp] theorem act_power (a : Act) : (act d a).power = d.power := (rfl)
@[simp] theorem act_guards (a : Act) : (act d a).guards = d.guards := (rfl)
@[simp] theorem act_onceTree (a : Act) : (act d a).onceTree = d.onceTree := (rfl)
@[simp] theorem act_acts (a : Act) : (act d a).acts = d.acts ++ [a] := (rfl)
@[simp] theorem act_commitNo (a : Act) : (act d a).commitNo = d.commitNo := (rfl)
@[simp] theorem act_freeCnt (a : Act) : (act d a).freeCnt = d.freeCnt := (rfl)

/-! ### onPort -/

@[simp] theorem onPort_regs (n : Nat) (f : Port → Port) : (onPort d n f).regs = d.regs := (rfl)
@[simp] theorem onPort_staged (n : Nat) (f : Port → Port) : (onPort d n f).staged = d.staged := (rfl)
@[simp] theorem onPort_mem (n : Nat) (f : Port → Port) : (onPort d n f).mem = d.mem := (rfl)
@[simp] theorem onPort_badLines (n : Nat) (f : Port → Port) : (onPort d n f).badLines = d.badLines := (rfl)
@[simp] theorem onPort_ports (n : Nat) (f : Port → Port) : (onPort d n f).ports = vmod d.ports n f := (rfl)
@[simp] theorem onPort_ctxs (n : Nat) (f : Port → Port) : (onPort d n f).ctxs = d.ctxs := (rfl)
@[simp] theorem onPort_pipes (n : Nat) (f : Port → Port) : (onPort d n f).pipes = d.pipes := (rfl)
@[simp] theorem onPort_views (n : Nat) (f : Port → Port) : (onPort d n f).views = d.views := (rfl)
@[simp] theorem onPort_taps (n : Nat) (f : Port → Port) : (onPort d n f).taps = d.taps := (rfl)
@[simp] theorem onPort_drvs (n : Nat) (f : Port → Port) : (onPort d n f).drvs = d.drvs := (rfl)
@[simp] theorem onPort_boxes (n : Nat) (f : Port → Port) : (onPort d n f).boxes = d.boxes := (rfl)
@[simp] theorem onPort_compares (n : Nat) (f : Port → Port) : (onPort d n f).compares = d.compares := (rfl)
@[simp] theorem onPort_panReqs (n : Nat) (f : Port → Port) : (onPort d n f).panReqs = d.panReqs := (rfl)
@[simp] theorem onPort_panTurn (n : Nat) (f : Port → Port) : (onPort d n f).panTurn = d.panTurn := (rfl)
@[simp] theorem onPort_events (n : Nat) (f : Port → Port) : (onPort d n f).events = d.events := (rfl)
@[simp] theorem onPort_reports (n : Nat) (f : Port → Port) : (onPort d n f).reports = d.reports := (rfl)
@[simp] theorem onPort_bestEff (n : Nat) (f : Port → Port) : (onPort d n f).bestEff = d.bestEff := (rfl)
@[simp] theorem onPort_tapQueue (n : Nat) (f : Port → Port) : (onPort d n f).tapQueue = d.tapQueue := (rfl)
@[simp] theorem onPort_softLines (n : Nat) (f : Port → Port) : (onPort d n f).softLines = d.softLines := (rfl)
@[simp] theorem onPort_groups (n : Nat) (f : Port → Port) : (onPort d n f).groups = d.groups := (rfl)
@[simp] theorem onPort_lanes (n : Nat) (f : Port → Port) : (onPort d n f).lanes = d.lanes := (rfl)
@[simp] theorem onPort_trunk (n : Nat) (f : Port → Port) : (onPort d n f).trunk = d.trunk := (rfl)
@[simp] theorem onPort_snaps (n : Nat) (f : Port → Port) : (onPort d n f).snaps = d.snaps := (rfl)
@[simp] theorem onPort_latches (n : Nat) (f : Port → Port) : (onPort d n f).latches = d.latches := (rfl)
@[simp] theorem onPort_tsq (n : Nat) (f : Port → Port) : (onPort d n f).tsq = d.tsq := (rfl)
@[simp] theorem onPort_caps (n : Nat) (f : Port → Port) : (onPort d n f).caps = d.caps := (rfl)
@[simp] theorem onPort_trigs (n : Nat) (f : Port → Port) : (onPort d n f).trigs = d.trigs := (rfl)
@[simp] theorem onPort_flt (n : Nat) (f : Port → Port) : (onPort d n f).flt = d.flt := (rfl)
@[simp] theorem onPort_twt (n : Nat) (f : Port → Port) : (onPort d n f).twt = d.twt := (rfl)
@[simp] theorem onPort_tws (n : Nat) (f : Port → Port) : (onPort d n f).tws = d.tws := (rfl)
@[simp] theorem onPort_otp (n : Nat) (f : Port → Port) : (onPort d n f).otp = d.otp := (rfl)
@[simp] theorem onPort_otpBad (n : Nat) (f : Port → Port) : (onPort d n f).otpBad = d.otpBad := (rfl)
@[simp] theorem onPort_aonBad (n : Nat) (f : Port → Port) : (onPort d n f).aonBad = d.aonBad := (rfl)
@[simp] theorem onPort_boot (n : Nat) (f : Port → Port) : (onPort d n f).boot = d.boot := (rfl)
@[simp] theorem onPort_sec (n : Nat) (f : Port → Port) : (onPort d n f).sec = d.sec := (rfl)
@[simp] theorem onPort_heads (n : Nat) (f : Port → Port) : (onPort d n f).heads = d.heads := (rfl)
@[simp] theorem onPort_power (n : Nat) (f : Port → Port) : (onPort d n f).power = d.power := (rfl)
@[simp] theorem onPort_guards (n : Nat) (f : Port → Port) : (onPort d n f).guards = d.guards := (rfl)
@[simp] theorem onPort_onceTree (n : Nat) (f : Port → Port) : (onPort d n f).onceTree = d.onceTree := (rfl)
@[simp] theorem onPort_acts (n : Nat) (f : Port → Port) : (onPort d n f).acts = d.acts := (rfl)
@[simp] theorem onPort_commitNo (n : Nat) (f : Port → Port) : (onPort d n f).commitNo = d.commitNo := (rfl)
@[simp] theorem onPort_freeCnt (n : Nat) (f : Port → Port) : (onPort d n f).freeCnt = d.freeCnt := (rfl)

/-! ### onCtx -/

@[simp] theorem onCtx_regs (n : Nat) (f : Ctx → Ctx) : (onCtx d n f).regs = d.regs := (rfl)
@[simp] theorem onCtx_staged (n : Nat) (f : Ctx → Ctx) : (onCtx d n f).staged = d.staged := (rfl)
@[simp] theorem onCtx_mem (n : Nat) (f : Ctx → Ctx) : (onCtx d n f).mem = d.mem := (rfl)
@[simp] theorem onCtx_badLines (n : Nat) (f : Ctx → Ctx) : (onCtx d n f).badLines = d.badLines := (rfl)
@[simp] theorem onCtx_ports (n : Nat) (f : Ctx → Ctx) : (onCtx d n f).ports = d.ports := (rfl)
@[simp] theorem onCtx_ctxs (n : Nat) (f : Ctx → Ctx) : (onCtx d n f).ctxs = vmod d.ctxs n f := (rfl)
@[simp] theorem onCtx_pipes (n : Nat) (f : Ctx → Ctx) : (onCtx d n f).pipes = d.pipes := (rfl)
@[simp] theorem onCtx_views (n : Nat) (f : Ctx → Ctx) : (onCtx d n f).views = d.views := (rfl)
@[simp] theorem onCtx_taps (n : Nat) (f : Ctx → Ctx) : (onCtx d n f).taps = d.taps := (rfl)
@[simp] theorem onCtx_drvs (n : Nat) (f : Ctx → Ctx) : (onCtx d n f).drvs = d.drvs := (rfl)
@[simp] theorem onCtx_boxes (n : Nat) (f : Ctx → Ctx) : (onCtx d n f).boxes = d.boxes := (rfl)
@[simp] theorem onCtx_compares (n : Nat) (f : Ctx → Ctx) : (onCtx d n f).compares = d.compares := (rfl)
@[simp] theorem onCtx_panReqs (n : Nat) (f : Ctx → Ctx) : (onCtx d n f).panReqs = d.panReqs := (rfl)
@[simp] theorem onCtx_panTurn (n : Nat) (f : Ctx → Ctx) : (onCtx d n f).panTurn = d.panTurn := (rfl)
@[simp] theorem onCtx_events (n : Nat) (f : Ctx → Ctx) : (onCtx d n f).events = d.events := (rfl)
@[simp] theorem onCtx_reports (n : Nat) (f : Ctx → Ctx) : (onCtx d n f).reports = d.reports := (rfl)
@[simp] theorem onCtx_bestEff (n : Nat) (f : Ctx → Ctx) : (onCtx d n f).bestEff = d.bestEff := (rfl)
@[simp] theorem onCtx_tapQueue (n : Nat) (f : Ctx → Ctx) : (onCtx d n f).tapQueue = d.tapQueue := (rfl)
@[simp] theorem onCtx_softLines (n : Nat) (f : Ctx → Ctx) : (onCtx d n f).softLines = d.softLines := (rfl)
@[simp] theorem onCtx_groups (n : Nat) (f : Ctx → Ctx) : (onCtx d n f).groups = d.groups := (rfl)
@[simp] theorem onCtx_lanes (n : Nat) (f : Ctx → Ctx) : (onCtx d n f).lanes = d.lanes := (rfl)
@[simp] theorem onCtx_trunk (n : Nat) (f : Ctx → Ctx) : (onCtx d n f).trunk = d.trunk := (rfl)
@[simp] theorem onCtx_snaps (n : Nat) (f : Ctx → Ctx) : (onCtx d n f).snaps = d.snaps := (rfl)
@[simp] theorem onCtx_latches (n : Nat) (f : Ctx → Ctx) : (onCtx d n f).latches = d.latches := (rfl)
@[simp] theorem onCtx_tsq (n : Nat) (f : Ctx → Ctx) : (onCtx d n f).tsq = d.tsq := (rfl)
@[simp] theorem onCtx_caps (n : Nat) (f : Ctx → Ctx) : (onCtx d n f).caps = d.caps := (rfl)
@[simp] theorem onCtx_trigs (n : Nat) (f : Ctx → Ctx) : (onCtx d n f).trigs = d.trigs := (rfl)
@[simp] theorem onCtx_flt (n : Nat) (f : Ctx → Ctx) : (onCtx d n f).flt = d.flt := (rfl)
@[simp] theorem onCtx_twt (n : Nat) (f : Ctx → Ctx) : (onCtx d n f).twt = d.twt := (rfl)
@[simp] theorem onCtx_tws (n : Nat) (f : Ctx → Ctx) : (onCtx d n f).tws = d.tws := (rfl)
@[simp] theorem onCtx_otp (n : Nat) (f : Ctx → Ctx) : (onCtx d n f).otp = d.otp := (rfl)
@[simp] theorem onCtx_otpBad (n : Nat) (f : Ctx → Ctx) : (onCtx d n f).otpBad = d.otpBad := (rfl)
@[simp] theorem onCtx_aonBad (n : Nat) (f : Ctx → Ctx) : (onCtx d n f).aonBad = d.aonBad := (rfl)
@[simp] theorem onCtx_boot (n : Nat) (f : Ctx → Ctx) : (onCtx d n f).boot = d.boot := (rfl)
@[simp] theorem onCtx_sec (n : Nat) (f : Ctx → Ctx) : (onCtx d n f).sec = d.sec := (rfl)
@[simp] theorem onCtx_heads (n : Nat) (f : Ctx → Ctx) : (onCtx d n f).heads = d.heads := (rfl)
@[simp] theorem onCtx_power (n : Nat) (f : Ctx → Ctx) : (onCtx d n f).power = d.power := (rfl)
@[simp] theorem onCtx_guards (n : Nat) (f : Ctx → Ctx) : (onCtx d n f).guards = d.guards := (rfl)
@[simp] theorem onCtx_onceTree (n : Nat) (f : Ctx → Ctx) : (onCtx d n f).onceTree = d.onceTree := (rfl)
@[simp] theorem onCtx_acts (n : Nat) (f : Ctx → Ctx) : (onCtx d n f).acts = d.acts := (rfl)
@[simp] theorem onCtx_commitNo (n : Nat) (f : Ctx → Ctx) : (onCtx d n f).commitNo = d.commitNo := (rfl)
@[simp] theorem onCtx_freeCnt (n : Nat) (f : Ctx → Ctx) : (onCtx d n f).freeCnt = d.freeCnt := (rfl)

/-! ### onPipe -/

@[simp] theorem onPipe_regs (n : Nat) (f : Pipe → Pipe) : (onPipe d n f).regs = d.regs := (rfl)
@[simp] theorem onPipe_staged (n : Nat) (f : Pipe → Pipe) : (onPipe d n f).staged = d.staged := (rfl)
@[simp] theorem onPipe_mem (n : Nat) (f : Pipe → Pipe) : (onPipe d n f).mem = d.mem := (rfl)
@[simp] theorem onPipe_badLines (n : Nat) (f : Pipe → Pipe) : (onPipe d n f).badLines = d.badLines := (rfl)
@[simp] theorem onPipe_ports (n : Nat) (f : Pipe → Pipe) : (onPipe d n f).ports = d.ports := (rfl)
@[simp] theorem onPipe_ctxs (n : Nat) (f : Pipe → Pipe) : (onPipe d n f).ctxs = d.ctxs := (rfl)
@[simp] theorem onPipe_pipes (n : Nat) (f : Pipe → Pipe) : (onPipe d n f).pipes = vmod d.pipes n f := (rfl)
@[simp] theorem onPipe_views (n : Nat) (f : Pipe → Pipe) : (onPipe d n f).views = d.views := (rfl)
@[simp] theorem onPipe_taps (n : Nat) (f : Pipe → Pipe) : (onPipe d n f).taps = d.taps := (rfl)
@[simp] theorem onPipe_drvs (n : Nat) (f : Pipe → Pipe) : (onPipe d n f).drvs = d.drvs := (rfl)
@[simp] theorem onPipe_boxes (n : Nat) (f : Pipe → Pipe) : (onPipe d n f).boxes = d.boxes := (rfl)
@[simp] theorem onPipe_compares (n : Nat) (f : Pipe → Pipe) : (onPipe d n f).compares = d.compares := (rfl)
@[simp] theorem onPipe_panReqs (n : Nat) (f : Pipe → Pipe) : (onPipe d n f).panReqs = d.panReqs := (rfl)
@[simp] theorem onPipe_panTurn (n : Nat) (f : Pipe → Pipe) : (onPipe d n f).panTurn = d.panTurn := (rfl)
@[simp] theorem onPipe_events (n : Nat) (f : Pipe → Pipe) : (onPipe d n f).events = d.events := (rfl)
@[simp] theorem onPipe_reports (n : Nat) (f : Pipe → Pipe) : (onPipe d n f).reports = d.reports := (rfl)
@[simp] theorem onPipe_bestEff (n : Nat) (f : Pipe → Pipe) : (onPipe d n f).bestEff = d.bestEff := (rfl)
@[simp] theorem onPipe_tapQueue (n : Nat) (f : Pipe → Pipe) : (onPipe d n f).tapQueue = d.tapQueue := (rfl)
@[simp] theorem onPipe_softLines (n : Nat) (f : Pipe → Pipe) : (onPipe d n f).softLines = d.softLines := (rfl)
@[simp] theorem onPipe_groups (n : Nat) (f : Pipe → Pipe) : (onPipe d n f).groups = d.groups := (rfl)
@[simp] theorem onPipe_lanes (n : Nat) (f : Pipe → Pipe) : (onPipe d n f).lanes = d.lanes := (rfl)
@[simp] theorem onPipe_trunk (n : Nat) (f : Pipe → Pipe) : (onPipe d n f).trunk = d.trunk := (rfl)
@[simp] theorem onPipe_snaps (n : Nat) (f : Pipe → Pipe) : (onPipe d n f).snaps = d.snaps := (rfl)
@[simp] theorem onPipe_latches (n : Nat) (f : Pipe → Pipe) : (onPipe d n f).latches = d.latches := (rfl)
@[simp] theorem onPipe_tsq (n : Nat) (f : Pipe → Pipe) : (onPipe d n f).tsq = d.tsq := (rfl)
@[simp] theorem onPipe_caps (n : Nat) (f : Pipe → Pipe) : (onPipe d n f).caps = d.caps := (rfl)
@[simp] theorem onPipe_trigs (n : Nat) (f : Pipe → Pipe) : (onPipe d n f).trigs = d.trigs := (rfl)
@[simp] theorem onPipe_flt (n : Nat) (f : Pipe → Pipe) : (onPipe d n f).flt = d.flt := (rfl)
@[simp] theorem onPipe_twt (n : Nat) (f : Pipe → Pipe) : (onPipe d n f).twt = d.twt := (rfl)
@[simp] theorem onPipe_tws (n : Nat) (f : Pipe → Pipe) : (onPipe d n f).tws = d.tws := (rfl)
@[simp] theorem onPipe_otp (n : Nat) (f : Pipe → Pipe) : (onPipe d n f).otp = d.otp := (rfl)
@[simp] theorem onPipe_otpBad (n : Nat) (f : Pipe → Pipe) : (onPipe d n f).otpBad = d.otpBad := (rfl)
@[simp] theorem onPipe_aonBad (n : Nat) (f : Pipe → Pipe) : (onPipe d n f).aonBad = d.aonBad := (rfl)
@[simp] theorem onPipe_boot (n : Nat) (f : Pipe → Pipe) : (onPipe d n f).boot = d.boot := (rfl)
@[simp] theorem onPipe_sec (n : Nat) (f : Pipe → Pipe) : (onPipe d n f).sec = d.sec := (rfl)
@[simp] theorem onPipe_heads (n : Nat) (f : Pipe → Pipe) : (onPipe d n f).heads = d.heads := (rfl)
@[simp] theorem onPipe_power (n : Nat) (f : Pipe → Pipe) : (onPipe d n f).power = d.power := (rfl)
@[simp] theorem onPipe_guards (n : Nat) (f : Pipe → Pipe) : (onPipe d n f).guards = d.guards := (rfl)
@[simp] theorem onPipe_onceTree (n : Nat) (f : Pipe → Pipe) : (onPipe d n f).onceTree = d.onceTree := (rfl)
@[simp] theorem onPipe_acts (n : Nat) (f : Pipe → Pipe) : (onPipe d n f).acts = d.acts := (rfl)
@[simp] theorem onPipe_commitNo (n : Nat) (f : Pipe → Pipe) : (onPipe d n f).commitNo = d.commitNo := (rfl)
@[simp] theorem onPipe_freeCnt (n : Nat) (f : Pipe → Pipe) : (onPipe d n f).freeCnt = d.freeCnt := (rfl)

/-! ### onView -/

@[simp] theorem onView_regs (n : Nat) (f : View → View) : (onView d n f).regs = d.regs := (rfl)
@[simp] theorem onView_staged (n : Nat) (f : View → View) : (onView d n f).staged = d.staged := (rfl)
@[simp] theorem onView_mem (n : Nat) (f : View → View) : (onView d n f).mem = d.mem := (rfl)
@[simp] theorem onView_badLines (n : Nat) (f : View → View) : (onView d n f).badLines = d.badLines := (rfl)
@[simp] theorem onView_ports (n : Nat) (f : View → View) : (onView d n f).ports = d.ports := (rfl)
@[simp] theorem onView_ctxs (n : Nat) (f : View → View) : (onView d n f).ctxs = d.ctxs := (rfl)
@[simp] theorem onView_pipes (n : Nat) (f : View → View) : (onView d n f).pipes = d.pipes := (rfl)
@[simp] theorem onView_views (n : Nat) (f : View → View) : (onView d n f).views = vmod d.views n f := (rfl)
@[simp] theorem onView_taps (n : Nat) (f : View → View) : (onView d n f).taps = d.taps := (rfl)
@[simp] theorem onView_drvs (n : Nat) (f : View → View) : (onView d n f).drvs = d.drvs := (rfl)
@[simp] theorem onView_boxes (n : Nat) (f : View → View) : (onView d n f).boxes = d.boxes := (rfl)
@[simp] theorem onView_compares (n : Nat) (f : View → View) : (onView d n f).compares = d.compares := (rfl)
@[simp] theorem onView_panReqs (n : Nat) (f : View → View) : (onView d n f).panReqs = d.panReqs := (rfl)
@[simp] theorem onView_panTurn (n : Nat) (f : View → View) : (onView d n f).panTurn = d.panTurn := (rfl)
@[simp] theorem onView_events (n : Nat) (f : View → View) : (onView d n f).events = d.events := (rfl)
@[simp] theorem onView_reports (n : Nat) (f : View → View) : (onView d n f).reports = d.reports := (rfl)
@[simp] theorem onView_bestEff (n : Nat) (f : View → View) : (onView d n f).bestEff = d.bestEff := (rfl)
@[simp] theorem onView_tapQueue (n : Nat) (f : View → View) : (onView d n f).tapQueue = d.tapQueue := (rfl)
@[simp] theorem onView_softLines (n : Nat) (f : View → View) : (onView d n f).softLines = d.softLines := (rfl)
@[simp] theorem onView_groups (n : Nat) (f : View → View) : (onView d n f).groups = d.groups := (rfl)
@[simp] theorem onView_lanes (n : Nat) (f : View → View) : (onView d n f).lanes = d.lanes := (rfl)
@[simp] theorem onView_trunk (n : Nat) (f : View → View) : (onView d n f).trunk = d.trunk := (rfl)
@[simp] theorem onView_snaps (n : Nat) (f : View → View) : (onView d n f).snaps = d.snaps := (rfl)
@[simp] theorem onView_latches (n : Nat) (f : View → View) : (onView d n f).latches = d.latches := (rfl)
@[simp] theorem onView_tsq (n : Nat) (f : View → View) : (onView d n f).tsq = d.tsq := (rfl)
@[simp] theorem onView_caps (n : Nat) (f : View → View) : (onView d n f).caps = d.caps := (rfl)
@[simp] theorem onView_trigs (n : Nat) (f : View → View) : (onView d n f).trigs = d.trigs := (rfl)
@[simp] theorem onView_flt (n : Nat) (f : View → View) : (onView d n f).flt = d.flt := (rfl)
@[simp] theorem onView_twt (n : Nat) (f : View → View) : (onView d n f).twt = d.twt := (rfl)
@[simp] theorem onView_tws (n : Nat) (f : View → View) : (onView d n f).tws = d.tws := (rfl)
@[simp] theorem onView_otp (n : Nat) (f : View → View) : (onView d n f).otp = d.otp := (rfl)
@[simp] theorem onView_otpBad (n : Nat) (f : View → View) : (onView d n f).otpBad = d.otpBad := (rfl)
@[simp] theorem onView_aonBad (n : Nat) (f : View → View) : (onView d n f).aonBad = d.aonBad := (rfl)
@[simp] theorem onView_boot (n : Nat) (f : View → View) : (onView d n f).boot = d.boot := (rfl)
@[simp] theorem onView_sec (n : Nat) (f : View → View) : (onView d n f).sec = d.sec := (rfl)
@[simp] theorem onView_heads (n : Nat) (f : View → View) : (onView d n f).heads = d.heads := (rfl)
@[simp] theorem onView_power (n : Nat) (f : View → View) : (onView d n f).power = d.power := (rfl)
@[simp] theorem onView_guards (n : Nat) (f : View → View) : (onView d n f).guards = d.guards := (rfl)
@[simp] theorem onView_onceTree (n : Nat) (f : View → View) : (onView d n f).onceTree = d.onceTree := (rfl)
@[simp] theorem onView_acts (n : Nat) (f : View → View) : (onView d n f).acts = d.acts := (rfl)
@[simp] theorem onView_commitNo (n : Nat) (f : View → View) : (onView d n f).commitNo = d.commitNo := (rfl)
@[simp] theorem onView_freeCnt (n : Nat) (f : View → View) : (onView d n f).freeCnt = d.freeCnt := (rfl)

/-! ### onTap -/

@[simp] theorem onTap_regs (n : Nat) (f : Tap → Tap) : (onTap d n f).regs = d.regs := (rfl)
@[simp] theorem onTap_staged (n : Nat) (f : Tap → Tap) : (onTap d n f).staged = d.staged := (rfl)
@[simp] theorem onTap_mem (n : Nat) (f : Tap → Tap) : (onTap d n f).mem = d.mem := (rfl)
@[simp] theorem onTap_badLines (n : Nat) (f : Tap → Tap) : (onTap d n f).badLines = d.badLines := (rfl)
@[simp] theorem onTap_ports (n : Nat) (f : Tap → Tap) : (onTap d n f).ports = d.ports := (rfl)
@[simp] theorem onTap_ctxs (n : Nat) (f : Tap → Tap) : (onTap d n f).ctxs = d.ctxs := (rfl)
@[simp] theorem onTap_pipes (n : Nat) (f : Tap → Tap) : (onTap d n f).pipes = d.pipes := (rfl)
@[simp] theorem onTap_views (n : Nat) (f : Tap → Tap) : (onTap d n f).views = d.views := (rfl)
@[simp] theorem onTap_taps (n : Nat) (f : Tap → Tap) : (onTap d n f).taps = vmod d.taps n f := (rfl)
@[simp] theorem onTap_drvs (n : Nat) (f : Tap → Tap) : (onTap d n f).drvs = d.drvs := (rfl)
@[simp] theorem onTap_boxes (n : Nat) (f : Tap → Tap) : (onTap d n f).boxes = d.boxes := (rfl)
@[simp] theorem onTap_compares (n : Nat) (f : Tap → Tap) : (onTap d n f).compares = d.compares := (rfl)
@[simp] theorem onTap_panReqs (n : Nat) (f : Tap → Tap) : (onTap d n f).panReqs = d.panReqs := (rfl)
@[simp] theorem onTap_panTurn (n : Nat) (f : Tap → Tap) : (onTap d n f).panTurn = d.panTurn := (rfl)
@[simp] theorem onTap_events (n : Nat) (f : Tap → Tap) : (onTap d n f).events = d.events := (rfl)
@[simp] theorem onTap_reports (n : Nat) (f : Tap → Tap) : (onTap d n f).reports = d.reports := (rfl)
@[simp] theorem onTap_bestEff (n : Nat) (f : Tap → Tap) : (onTap d n f).bestEff = d.bestEff := (rfl)
@[simp] theorem onTap_tapQueue (n : Nat) (f : Tap → Tap) : (onTap d n f).tapQueue = d.tapQueue := (rfl)
@[simp] theorem onTap_softLines (n : Nat) (f : Tap → Tap) : (onTap d n f).softLines = d.softLines := (rfl)
@[simp] theorem onTap_groups (n : Nat) (f : Tap → Tap) : (onTap d n f).groups = d.groups := (rfl)
@[simp] theorem onTap_lanes (n : Nat) (f : Tap → Tap) : (onTap d n f).lanes = d.lanes := (rfl)
@[simp] theorem onTap_trunk (n : Nat) (f : Tap → Tap) : (onTap d n f).trunk = d.trunk := (rfl)
@[simp] theorem onTap_snaps (n : Nat) (f : Tap → Tap) : (onTap d n f).snaps = d.snaps := (rfl)
@[simp] theorem onTap_latches (n : Nat) (f : Tap → Tap) : (onTap d n f).latches = d.latches := (rfl)
@[simp] theorem onTap_tsq (n : Nat) (f : Tap → Tap) : (onTap d n f).tsq = d.tsq := (rfl)
@[simp] theorem onTap_caps (n : Nat) (f : Tap → Tap) : (onTap d n f).caps = d.caps := (rfl)
@[simp] theorem onTap_trigs (n : Nat) (f : Tap → Tap) : (onTap d n f).trigs = d.trigs := (rfl)
@[simp] theorem onTap_flt (n : Nat) (f : Tap → Tap) : (onTap d n f).flt = d.flt := (rfl)
@[simp] theorem onTap_twt (n : Nat) (f : Tap → Tap) : (onTap d n f).twt = d.twt := (rfl)
@[simp] theorem onTap_tws (n : Nat) (f : Tap → Tap) : (onTap d n f).tws = d.tws := (rfl)
@[simp] theorem onTap_otp (n : Nat) (f : Tap → Tap) : (onTap d n f).otp = d.otp := (rfl)
@[simp] theorem onTap_otpBad (n : Nat) (f : Tap → Tap) : (onTap d n f).otpBad = d.otpBad := (rfl)
@[simp] theorem onTap_aonBad (n : Nat) (f : Tap → Tap) : (onTap d n f).aonBad = d.aonBad := (rfl)
@[simp] theorem onTap_boot (n : Nat) (f : Tap → Tap) : (onTap d n f).boot = d.boot := (rfl)
@[simp] theorem onTap_sec (n : Nat) (f : Tap → Tap) : (onTap d n f).sec = d.sec := (rfl)
@[simp] theorem onTap_heads (n : Nat) (f : Tap → Tap) : (onTap d n f).heads = d.heads := (rfl)
@[simp] theorem onTap_power (n : Nat) (f : Tap → Tap) : (onTap d n f).power = d.power := (rfl)
@[simp] theorem onTap_guards (n : Nat) (f : Tap → Tap) : (onTap d n f).guards = d.guards := (rfl)
@[simp] theorem onTap_onceTree (n : Nat) (f : Tap → Tap) : (onTap d n f).onceTree = d.onceTree := (rfl)
@[simp] theorem onTap_acts (n : Nat) (f : Tap → Tap) : (onTap d n f).acts = d.acts := (rfl)
@[simp] theorem onTap_commitNo (n : Nat) (f : Tap → Tap) : (onTap d n f).commitNo = d.commitNo := (rfl)
@[simp] theorem onTap_freeCnt (n : Nat) (f : Tap → Tap) : (onTap d n f).freeCnt = d.freeCnt := (rfl)

/-! ### onDrv -/

@[simp] theorem onDrv_regs (n : Nat) (f : Drover → Drover) : (onDrv d n f).regs = d.regs := (rfl)
@[simp] theorem onDrv_staged (n : Nat) (f : Drover → Drover) : (onDrv d n f).staged = d.staged := (rfl)
@[simp] theorem onDrv_mem (n : Nat) (f : Drover → Drover) : (onDrv d n f).mem = d.mem := (rfl)
@[simp] theorem onDrv_badLines (n : Nat) (f : Drover → Drover) : (onDrv d n f).badLines = d.badLines := (rfl)
@[simp] theorem onDrv_ports (n : Nat) (f : Drover → Drover) : (onDrv d n f).ports = d.ports := (rfl)
@[simp] theorem onDrv_ctxs (n : Nat) (f : Drover → Drover) : (onDrv d n f).ctxs = d.ctxs := (rfl)
@[simp] theorem onDrv_pipes (n : Nat) (f : Drover → Drover) : (onDrv d n f).pipes = d.pipes := (rfl)
@[simp] theorem onDrv_views (n : Nat) (f : Drover → Drover) : (onDrv d n f).views = d.views := (rfl)
@[simp] theorem onDrv_taps (n : Nat) (f : Drover → Drover) : (onDrv d n f).taps = d.taps := (rfl)
@[simp] theorem onDrv_drvs (n : Nat) (f : Drover → Drover) : (onDrv d n f).drvs = vmod d.drvs n f := (rfl)
@[simp] theorem onDrv_boxes (n : Nat) (f : Drover → Drover) : (onDrv d n f).boxes = d.boxes := (rfl)
@[simp] theorem onDrv_compares (n : Nat) (f : Drover → Drover) : (onDrv d n f).compares = d.compares := (rfl)
@[simp] theorem onDrv_panReqs (n : Nat) (f : Drover → Drover) : (onDrv d n f).panReqs = d.panReqs := (rfl)
@[simp] theorem onDrv_panTurn (n : Nat) (f : Drover → Drover) : (onDrv d n f).panTurn = d.panTurn := (rfl)
@[simp] theorem onDrv_events (n : Nat) (f : Drover → Drover) : (onDrv d n f).events = d.events := (rfl)
@[simp] theorem onDrv_reports (n : Nat) (f : Drover → Drover) : (onDrv d n f).reports = d.reports := (rfl)
@[simp] theorem onDrv_bestEff (n : Nat) (f : Drover → Drover) : (onDrv d n f).bestEff = d.bestEff := (rfl)
@[simp] theorem onDrv_tapQueue (n : Nat) (f : Drover → Drover) : (onDrv d n f).tapQueue = d.tapQueue := (rfl)
@[simp] theorem onDrv_softLines (n : Nat) (f : Drover → Drover) : (onDrv d n f).softLines = d.softLines := (rfl)
@[simp] theorem onDrv_groups (n : Nat) (f : Drover → Drover) : (onDrv d n f).groups = d.groups := (rfl)
@[simp] theorem onDrv_lanes (n : Nat) (f : Drover → Drover) : (onDrv d n f).lanes = d.lanes := (rfl)
@[simp] theorem onDrv_trunk (n : Nat) (f : Drover → Drover) : (onDrv d n f).trunk = d.trunk := (rfl)
@[simp] theorem onDrv_snaps (n : Nat) (f : Drover → Drover) : (onDrv d n f).snaps = d.snaps := (rfl)
@[simp] theorem onDrv_latches (n : Nat) (f : Drover → Drover) : (onDrv d n f).latches = d.latches := (rfl)
@[simp] theorem onDrv_tsq (n : Nat) (f : Drover → Drover) : (onDrv d n f).tsq = d.tsq := (rfl)
@[simp] theorem onDrv_caps (n : Nat) (f : Drover → Drover) : (onDrv d n f).caps = d.caps := (rfl)
@[simp] theorem onDrv_trigs (n : Nat) (f : Drover → Drover) : (onDrv d n f).trigs = d.trigs := (rfl)
@[simp] theorem onDrv_flt (n : Nat) (f : Drover → Drover) : (onDrv d n f).flt = d.flt := (rfl)
@[simp] theorem onDrv_twt (n : Nat) (f : Drover → Drover) : (onDrv d n f).twt = d.twt := (rfl)
@[simp] theorem onDrv_tws (n : Nat) (f : Drover → Drover) : (onDrv d n f).tws = d.tws := (rfl)
@[simp] theorem onDrv_otp (n : Nat) (f : Drover → Drover) : (onDrv d n f).otp = d.otp := (rfl)
@[simp] theorem onDrv_otpBad (n : Nat) (f : Drover → Drover) : (onDrv d n f).otpBad = d.otpBad := (rfl)
@[simp] theorem onDrv_aonBad (n : Nat) (f : Drover → Drover) : (onDrv d n f).aonBad = d.aonBad := (rfl)
@[simp] theorem onDrv_boot (n : Nat) (f : Drover → Drover) : (onDrv d n f).boot = d.boot := (rfl)
@[simp] theorem onDrv_sec (n : Nat) (f : Drover → Drover) : (onDrv d n f).sec = d.sec := (rfl)
@[simp] theorem onDrv_heads (n : Nat) (f : Drover → Drover) : (onDrv d n f).heads = d.heads := (rfl)
@[simp] theorem onDrv_power (n : Nat) (f : Drover → Drover) : (onDrv d n f).power = d.power := (rfl)
@[simp] theorem onDrv_guards (n : Nat) (f : Drover → Drover) : (onDrv d n f).guards = d.guards := (rfl)
@[simp] theorem onDrv_onceTree (n : Nat) (f : Drover → Drover) : (onDrv d n f).onceTree = d.onceTree := (rfl)
@[simp] theorem onDrv_acts (n : Nat) (f : Drover → Drover) : (onDrv d n f).acts = d.acts := (rfl)
@[simp] theorem onDrv_commitNo (n : Nat) (f : Drover → Drover) : (onDrv d n f).commitNo = d.commitNo := (rfl)
@[simp] theorem onDrv_freeCnt (n : Nat) (f : Drover → Drover) : (onDrv d n f).freeCnt = d.freeCnt := (rfl)

/-! ### onBox -/

@[simp] theorem onBox_regs (n : Nat) (f : MsgPort → MsgPort) : (onBox d n f).regs = d.regs := (rfl)
@[simp] theorem onBox_staged (n : Nat) (f : MsgPort → MsgPort) : (onBox d n f).staged = d.staged := (rfl)
@[simp] theorem onBox_mem (n : Nat) (f : MsgPort → MsgPort) : (onBox d n f).mem = d.mem := (rfl)
@[simp] theorem onBox_badLines (n : Nat) (f : MsgPort → MsgPort) : (onBox d n f).badLines = d.badLines := (rfl)
@[simp] theorem onBox_ports (n : Nat) (f : MsgPort → MsgPort) : (onBox d n f).ports = d.ports := (rfl)
@[simp] theorem onBox_ctxs (n : Nat) (f : MsgPort → MsgPort) : (onBox d n f).ctxs = d.ctxs := (rfl)
@[simp] theorem onBox_pipes (n : Nat) (f : MsgPort → MsgPort) : (onBox d n f).pipes = d.pipes := (rfl)
@[simp] theorem onBox_views (n : Nat) (f : MsgPort → MsgPort) : (onBox d n f).views = d.views := (rfl)
@[simp] theorem onBox_taps (n : Nat) (f : MsgPort → MsgPort) : (onBox d n f).taps = d.taps := (rfl)
@[simp] theorem onBox_drvs (n : Nat) (f : MsgPort → MsgPort) : (onBox d n f).drvs = d.drvs := (rfl)
@[simp] theorem onBox_boxes (n : Nat) (f : MsgPort → MsgPort) : (onBox d n f).boxes = vmod d.boxes n f := (rfl)
@[simp] theorem onBox_compares (n : Nat) (f : MsgPort → MsgPort) : (onBox d n f).compares = d.compares := (rfl)
@[simp] theorem onBox_panReqs (n : Nat) (f : MsgPort → MsgPort) : (onBox d n f).panReqs = d.panReqs := (rfl)
@[simp] theorem onBox_panTurn (n : Nat) (f : MsgPort → MsgPort) : (onBox d n f).panTurn = d.panTurn := (rfl)
@[simp] theorem onBox_events (n : Nat) (f : MsgPort → MsgPort) : (onBox d n f).events = d.events := (rfl)
@[simp] theorem onBox_reports (n : Nat) (f : MsgPort → MsgPort) : (onBox d n f).reports = d.reports := (rfl)
@[simp] theorem onBox_bestEff (n : Nat) (f : MsgPort → MsgPort) : (onBox d n f).bestEff = d.bestEff := (rfl)
@[simp] theorem onBox_tapQueue (n : Nat) (f : MsgPort → MsgPort) : (onBox d n f).tapQueue = d.tapQueue := (rfl)
@[simp] theorem onBox_softLines (n : Nat) (f : MsgPort → MsgPort) : (onBox d n f).softLines = d.softLines := (rfl)
@[simp] theorem onBox_groups (n : Nat) (f : MsgPort → MsgPort) : (onBox d n f).groups = d.groups := (rfl)
@[simp] theorem onBox_lanes (n : Nat) (f : MsgPort → MsgPort) : (onBox d n f).lanes = d.lanes := (rfl)
@[simp] theorem onBox_trunk (n : Nat) (f : MsgPort → MsgPort) : (onBox d n f).trunk = d.trunk := (rfl)
@[simp] theorem onBox_snaps (n : Nat) (f : MsgPort → MsgPort) : (onBox d n f).snaps = d.snaps := (rfl)
@[simp] theorem onBox_latches (n : Nat) (f : MsgPort → MsgPort) : (onBox d n f).latches = d.latches := (rfl)
@[simp] theorem onBox_tsq (n : Nat) (f : MsgPort → MsgPort) : (onBox d n f).tsq = d.tsq := (rfl)
@[simp] theorem onBox_caps (n : Nat) (f : MsgPort → MsgPort) : (onBox d n f).caps = d.caps := (rfl)
@[simp] theorem onBox_trigs (n : Nat) (f : MsgPort → MsgPort) : (onBox d n f).trigs = d.trigs := (rfl)
@[simp] theorem onBox_flt (n : Nat) (f : MsgPort → MsgPort) : (onBox d n f).flt = d.flt := (rfl)
@[simp] theorem onBox_twt (n : Nat) (f : MsgPort → MsgPort) : (onBox d n f).twt = d.twt := (rfl)
@[simp] theorem onBox_tws (n : Nat) (f : MsgPort → MsgPort) : (onBox d n f).tws = d.tws := (rfl)
@[simp] theorem onBox_otp (n : Nat) (f : MsgPort → MsgPort) : (onBox d n f).otp = d.otp := (rfl)
@[simp] theorem onBox_otpBad (n : Nat) (f : MsgPort → MsgPort) : (onBox d n f).otpBad = d.otpBad := (rfl)
@[simp] theorem onBox_aonBad (n : Nat) (f : MsgPort → MsgPort) : (onBox d n f).aonBad = d.aonBad := (rfl)
@[simp] theorem onBox_boot (n : Nat) (f : MsgPort → MsgPort) : (onBox d n f).boot = d.boot := (rfl)
@[simp] theorem onBox_sec (n : Nat) (f : MsgPort → MsgPort) : (onBox d n f).sec = d.sec := (rfl)
@[simp] theorem onBox_heads (n : Nat) (f : MsgPort → MsgPort) : (onBox d n f).heads = d.heads := (rfl)
@[simp] theorem onBox_power (n : Nat) (f : MsgPort → MsgPort) : (onBox d n f).power = d.power := (rfl)
@[simp] theorem onBox_guards (n : Nat) (f : MsgPort → MsgPort) : (onBox d n f).guards = d.guards := (rfl)
@[simp] theorem onBox_onceTree (n : Nat) (f : MsgPort → MsgPort) : (onBox d n f).onceTree = d.onceTree := (rfl)
@[simp] theorem onBox_acts (n : Nat) (f : MsgPort → MsgPort) : (onBox d n f).acts = d.acts := (rfl)
@[simp] theorem onBox_commitNo (n : Nat) (f : MsgPort → MsgPort) : (onBox d n f).commitNo = d.commitNo := (rfl)
@[simp] theorem onBox_freeCnt (n : Nat) (f : MsgPort → MsgPort) : (onBox d n f).freeCnt = d.freeCnt := (rfl)

/-! ### onGroup -/

@[simp] theorem onGroup_regs (n : Nat) (f : Group → Group) : (onGroup d n f).regs = d.regs := (rfl)
@[simp] theorem onGroup_staged (n : Nat) (f : Group → Group) : (onGroup d n f).staged = d.staged := (rfl)
@[simp] theorem onGroup_mem (n : Nat) (f : Group → Group) : (onGroup d n f).mem = d.mem := (rfl)
@[simp] theorem onGroup_badLines (n : Nat) (f : Group → Group) : (onGroup d n f).badLines = d.badLines := (rfl)
@[simp] theorem onGroup_ports (n : Nat) (f : Group → Group) : (onGroup d n f).ports = d.ports := (rfl)
@[simp] theorem onGroup_ctxs (n : Nat) (f : Group → Group) : (onGroup d n f).ctxs = d.ctxs := (rfl)
@[simp] theorem onGroup_pipes (n : Nat) (f : Group → Group) : (onGroup d n f).pipes = d.pipes := (rfl)
@[simp] theorem onGroup_views (n : Nat) (f : Group → Group) : (onGroup d n f).views = d.views := (rfl)
@[simp] theorem onGroup_taps (n : Nat) (f : Group → Group) : (onGroup d n f).taps = d.taps := (rfl)
@[simp] theorem onGroup_drvs (n : Nat) (f : Group → Group) : (onGroup d n f).drvs = d.drvs := (rfl)
@[simp] theorem onGroup_boxes (n : Nat) (f : Group → Group) : (onGroup d n f).boxes = d.boxes := (rfl)
@[simp] theorem onGroup_compares (n : Nat) (f : Group → Group) : (onGroup d n f).compares = d.compares := (rfl)
@[simp] theorem onGroup_panReqs (n : Nat) (f : Group → Group) : (onGroup d n f).panReqs = d.panReqs := (rfl)
@[simp] theorem onGroup_panTurn (n : Nat) (f : Group → Group) : (onGroup d n f).panTurn = d.panTurn := (rfl)
@[simp] theorem onGroup_events (n : Nat) (f : Group → Group) : (onGroup d n f).events = d.events := (rfl)
@[simp] theorem onGroup_reports (n : Nat) (f : Group → Group) : (onGroup d n f).reports = d.reports := (rfl)
@[simp] theorem onGroup_bestEff (n : Nat) (f : Group → Group) : (onGroup d n f).bestEff = d.bestEff := (rfl)
@[simp] theorem onGroup_tapQueue (n : Nat) (f : Group → Group) : (onGroup d n f).tapQueue = d.tapQueue := (rfl)
@[simp] theorem onGroup_softLines (n : Nat) (f : Group → Group) : (onGroup d n f).softLines = d.softLines := (rfl)
@[simp] theorem onGroup_groups (n : Nat) (f : Group → Group) : (onGroup d n f).groups = vmod d.groups n f := (rfl)
@[simp] theorem onGroup_lanes (n : Nat) (f : Group → Group) : (onGroup d n f).lanes = d.lanes := (rfl)
@[simp] theorem onGroup_trunk (n : Nat) (f : Group → Group) : (onGroup d n f).trunk = d.trunk := (rfl)
@[simp] theorem onGroup_snaps (n : Nat) (f : Group → Group) : (onGroup d n f).snaps = d.snaps := (rfl)
@[simp] theorem onGroup_latches (n : Nat) (f : Group → Group) : (onGroup d n f).latches = d.latches := (rfl)
@[simp] theorem onGroup_tsq (n : Nat) (f : Group → Group) : (onGroup d n f).tsq = d.tsq := (rfl)
@[simp] theorem onGroup_caps (n : Nat) (f : Group → Group) : (onGroup d n f).caps = d.caps := (rfl)
@[simp] theorem onGroup_trigs (n : Nat) (f : Group → Group) : (onGroup d n f).trigs = d.trigs := (rfl)
@[simp] theorem onGroup_flt (n : Nat) (f : Group → Group) : (onGroup d n f).flt = d.flt := (rfl)
@[simp] theorem onGroup_twt (n : Nat) (f : Group → Group) : (onGroup d n f).twt = d.twt := (rfl)
@[simp] theorem onGroup_tws (n : Nat) (f : Group → Group) : (onGroup d n f).tws = d.tws := (rfl)
@[simp] theorem onGroup_otp (n : Nat) (f : Group → Group) : (onGroup d n f).otp = d.otp := (rfl)
@[simp] theorem onGroup_otpBad (n : Nat) (f : Group → Group) : (onGroup d n f).otpBad = d.otpBad := (rfl)
@[simp] theorem onGroup_aonBad (n : Nat) (f : Group → Group) : (onGroup d n f).aonBad = d.aonBad := (rfl)
@[simp] theorem onGroup_boot (n : Nat) (f : Group → Group) : (onGroup d n f).boot = d.boot := (rfl)
@[simp] theorem onGroup_sec (n : Nat) (f : Group → Group) : (onGroup d n f).sec = d.sec := (rfl)
@[simp] theorem onGroup_heads (n : Nat) (f : Group → Group) : (onGroup d n f).heads = d.heads := (rfl)
@[simp] theorem onGroup_power (n : Nat) (f : Group → Group) : (onGroup d n f).power = d.power := (rfl)
@[simp] theorem onGroup_guards (n : Nat) (f : Group → Group) : (onGroup d n f).guards = d.guards := (rfl)
@[simp] theorem onGroup_onceTree (n : Nat) (f : Group → Group) : (onGroup d n f).onceTree = d.onceTree := (rfl)
@[simp] theorem onGroup_acts (n : Nat) (f : Group → Group) : (onGroup d n f).acts = d.acts := (rfl)
@[simp] theorem onGroup_commitNo (n : Nat) (f : Group → Group) : (onGroup d n f).commitNo = d.commitNo := (rfl)
@[simp] theorem onGroup_freeCnt (n : Nat) (f : Group → Group) : (onGroup d n f).freeCnt = d.freeCnt := (rfl)

/-! ### onLane -/

@[simp] theorem onLane_regs (n : Nat) (f : Lane → Lane) : (onLane d n f).regs = d.regs := (rfl)
@[simp] theorem onLane_staged (n : Nat) (f : Lane → Lane) : (onLane d n f).staged = d.staged := (rfl)
@[simp] theorem onLane_mem (n : Nat) (f : Lane → Lane) : (onLane d n f).mem = d.mem := (rfl)
@[simp] theorem onLane_badLines (n : Nat) (f : Lane → Lane) : (onLane d n f).badLines = d.badLines := (rfl)
@[simp] theorem onLane_ports (n : Nat) (f : Lane → Lane) : (onLane d n f).ports = d.ports := (rfl)
@[simp] theorem onLane_ctxs (n : Nat) (f : Lane → Lane) : (onLane d n f).ctxs = d.ctxs := (rfl)
@[simp] theorem onLane_pipes (n : Nat) (f : Lane → Lane) : (onLane d n f).pipes = d.pipes := (rfl)
@[simp] theorem onLane_views (n : Nat) (f : Lane → Lane) : (onLane d n f).views = d.views := (rfl)
@[simp] theorem onLane_taps (n : Nat) (f : Lane → Lane) : (onLane d n f).taps = d.taps := (rfl)
@[simp] theorem onLane_drvs (n : Nat) (f : Lane → Lane) : (onLane d n f).drvs = d.drvs := (rfl)
@[simp] theorem onLane_boxes (n : Nat) (f : Lane → Lane) : (onLane d n f).boxes = d.boxes := (rfl)
@[simp] theorem onLane_compares (n : Nat) (f : Lane → Lane) : (onLane d n f).compares = d.compares := (rfl)
@[simp] theorem onLane_panReqs (n : Nat) (f : Lane → Lane) : (onLane d n f).panReqs = d.panReqs := (rfl)
@[simp] theorem onLane_panTurn (n : Nat) (f : Lane → Lane) : (onLane d n f).panTurn = d.panTurn := (rfl)
@[simp] theorem onLane_events (n : Nat) (f : Lane → Lane) : (onLane d n f).events = d.events := (rfl)
@[simp] theorem onLane_reports (n : Nat) (f : Lane → Lane) : (onLane d n f).reports = d.reports := (rfl)
@[simp] theorem onLane_bestEff (n : Nat) (f : Lane → Lane) : (onLane d n f).bestEff = d.bestEff := (rfl)
@[simp] theorem onLane_tapQueue (n : Nat) (f : Lane → Lane) : (onLane d n f).tapQueue = d.tapQueue := (rfl)
@[simp] theorem onLane_softLines (n : Nat) (f : Lane → Lane) : (onLane d n f).softLines = d.softLines := (rfl)
@[simp] theorem onLane_groups (n : Nat) (f : Lane → Lane) : (onLane d n f).groups = d.groups := (rfl)
@[simp] theorem onLane_lanes (n : Nat) (f : Lane → Lane) : (onLane d n f).lanes = vmod d.lanes n f := (rfl)
@[simp] theorem onLane_trunk (n : Nat) (f : Lane → Lane) : (onLane d n f).trunk = d.trunk := (rfl)
@[simp] theorem onLane_snaps (n : Nat) (f : Lane → Lane) : (onLane d n f).snaps = d.snaps := (rfl)
@[simp] theorem onLane_latches (n : Nat) (f : Lane → Lane) : (onLane d n f).latches = d.latches := (rfl)
@[simp] theorem onLane_tsq (n : Nat) (f : Lane → Lane) : (onLane d n f).tsq = d.tsq := (rfl)
@[simp] theorem onLane_caps (n : Nat) (f : Lane → Lane) : (onLane d n f).caps = d.caps := (rfl)
@[simp] theorem onLane_trigs (n : Nat) (f : Lane → Lane) : (onLane d n f).trigs = d.trigs := (rfl)
@[simp] theorem onLane_flt (n : Nat) (f : Lane → Lane) : (onLane d n f).flt = d.flt := (rfl)
@[simp] theorem onLane_twt (n : Nat) (f : Lane → Lane) : (onLane d n f).twt = d.twt := (rfl)
@[simp] theorem onLane_tws (n : Nat) (f : Lane → Lane) : (onLane d n f).tws = d.tws := (rfl)
@[simp] theorem onLane_otp (n : Nat) (f : Lane → Lane) : (onLane d n f).otp = d.otp := (rfl)
@[simp] theorem onLane_otpBad (n : Nat) (f : Lane → Lane) : (onLane d n f).otpBad = d.otpBad := (rfl)
@[simp] theorem onLane_aonBad (n : Nat) (f : Lane → Lane) : (onLane d n f).aonBad = d.aonBad := (rfl)
@[simp] theorem onLane_boot (n : Nat) (f : Lane → Lane) : (onLane d n f).boot = d.boot := (rfl)
@[simp] theorem onLane_sec (n : Nat) (f : Lane → Lane) : (onLane d n f).sec = d.sec := (rfl)
@[simp] theorem onLane_heads (n : Nat) (f : Lane → Lane) : (onLane d n f).heads = d.heads := (rfl)
@[simp] theorem onLane_power (n : Nat) (f : Lane → Lane) : (onLane d n f).power = d.power := (rfl)
@[simp] theorem onLane_guards (n : Nat) (f : Lane → Lane) : (onLane d n f).guards = d.guards := (rfl)
@[simp] theorem onLane_onceTree (n : Nat) (f : Lane → Lane) : (onLane d n f).onceTree = d.onceTree := (rfl)
@[simp] theorem onLane_acts (n : Nat) (f : Lane → Lane) : (onLane d n f).acts = d.acts := (rfl)
@[simp] theorem onLane_commitNo (n : Nat) (f : Lane → Lane) : (onLane d n f).commitNo = d.commitNo := (rfl)
@[simp] theorem onLane_freeCnt (n : Nat) (f : Lane → Lane) : (onLane d n f).freeCnt = d.freeCnt := (rfl)

/-! ### onTws -/

@[simp] theorem onTws_regs (n : Nat) (f : Tws → Tws) : (onTws d n f).regs = d.regs := (rfl)
@[simp] theorem onTws_staged (n : Nat) (f : Tws → Tws) : (onTws d n f).staged = d.staged := (rfl)
@[simp] theorem onTws_mem (n : Nat) (f : Tws → Tws) : (onTws d n f).mem = d.mem := (rfl)
@[simp] theorem onTws_badLines (n : Nat) (f : Tws → Tws) : (onTws d n f).badLines = d.badLines := (rfl)
@[simp] theorem onTws_ports (n : Nat) (f : Tws → Tws) : (onTws d n f).ports = d.ports := (rfl)
@[simp] theorem onTws_ctxs (n : Nat) (f : Tws → Tws) : (onTws d n f).ctxs = d.ctxs := (rfl)
@[simp] theorem onTws_pipes (n : Nat) (f : Tws → Tws) : (onTws d n f).pipes = d.pipes := (rfl)
@[simp] theorem onTws_views (n : Nat) (f : Tws → Tws) : (onTws d n f).views = d.views := (rfl)
@[simp] theorem onTws_taps (n : Nat) (f : Tws → Tws) : (onTws d n f).taps = d.taps := (rfl)
@[simp] theorem onTws_drvs (n : Nat) (f : Tws → Tws) : (onTws d n f).drvs = d.drvs := (rfl)
@[simp] theorem onTws_boxes (n : Nat) (f : Tws → Tws) : (onTws d n f).boxes = d.boxes := (rfl)
@[simp] theorem onTws_compares (n : Nat) (f : Tws → Tws) : (onTws d n f).compares = d.compares := (rfl)
@[simp] theorem onTws_panReqs (n : Nat) (f : Tws → Tws) : (onTws d n f).panReqs = d.panReqs := (rfl)
@[simp] theorem onTws_panTurn (n : Nat) (f : Tws → Tws) : (onTws d n f).panTurn = d.panTurn := (rfl)
@[simp] theorem onTws_events (n : Nat) (f : Tws → Tws) : (onTws d n f).events = d.events := (rfl)
@[simp] theorem onTws_reports (n : Nat) (f : Tws → Tws) : (onTws d n f).reports = d.reports := (rfl)
@[simp] theorem onTws_bestEff (n : Nat) (f : Tws → Tws) : (onTws d n f).bestEff = d.bestEff := (rfl)
@[simp] theorem onTws_tapQueue (n : Nat) (f : Tws → Tws) : (onTws d n f).tapQueue = d.tapQueue := (rfl)
@[simp] theorem onTws_softLines (n : Nat) (f : Tws → Tws) : (onTws d n f).softLines = d.softLines := (rfl)
@[simp] theorem onTws_groups (n : Nat) (f : Tws → Tws) : (onTws d n f).groups = d.groups := (rfl)
@[simp] theorem onTws_lanes (n : Nat) (f : Tws → Tws) : (onTws d n f).lanes = d.lanes := (rfl)
@[simp] theorem onTws_trunk (n : Nat) (f : Tws → Tws) : (onTws d n f).trunk = d.trunk := (rfl)
@[simp] theorem onTws_snaps (n : Nat) (f : Tws → Tws) : (onTws d n f).snaps = d.snaps := (rfl)
@[simp] theorem onTws_latches (n : Nat) (f : Tws → Tws) : (onTws d n f).latches = d.latches := (rfl)
@[simp] theorem onTws_tsq (n : Nat) (f : Tws → Tws) : (onTws d n f).tsq = d.tsq := (rfl)
@[simp] theorem onTws_caps (n : Nat) (f : Tws → Tws) : (onTws d n f).caps = d.caps := (rfl)
@[simp] theorem onTws_trigs (n : Nat) (f : Tws → Tws) : (onTws d n f).trigs = d.trigs := (rfl)
@[simp] theorem onTws_flt (n : Nat) (f : Tws → Tws) : (onTws d n f).flt = d.flt := (rfl)
@[simp] theorem onTws_twt (n : Nat) (f : Tws → Tws) : (onTws d n f).twt = d.twt := (rfl)
@[simp] theorem onTws_tws (n : Nat) (f : Tws → Tws) : (onTws d n f).tws = vmod d.tws n f := (rfl)
@[simp] theorem onTws_otp (n : Nat) (f : Tws → Tws) : (onTws d n f).otp = d.otp := (rfl)
@[simp] theorem onTws_otpBad (n : Nat) (f : Tws → Tws) : (onTws d n f).otpBad = d.otpBad := (rfl)
@[simp] theorem onTws_aonBad (n : Nat) (f : Tws → Tws) : (onTws d n f).aonBad = d.aonBad := (rfl)
@[simp] theorem onTws_boot (n : Nat) (f : Tws → Tws) : (onTws d n f).boot = d.boot := (rfl)
@[simp] theorem onTws_sec (n : Nat) (f : Tws → Tws) : (onTws d n f).sec = d.sec := (rfl)
@[simp] theorem onTws_heads (n : Nat) (f : Tws → Tws) : (onTws d n f).heads = d.heads := (rfl)
@[simp] theorem onTws_power (n : Nat) (f : Tws → Tws) : (onTws d n f).power = d.power := (rfl)
@[simp] theorem onTws_guards (n : Nat) (f : Tws → Tws) : (onTws d n f).guards = d.guards := (rfl)
@[simp] theorem onTws_onceTree (n : Nat) (f : Tws → Tws) : (onTws d n f).onceTree = d.onceTree := (rfl)
@[simp] theorem onTws_acts (n : Nat) (f : Tws → Tws) : (onTws d n f).acts = d.acts := (rfl)
@[simp] theorem onTws_commitNo (n : Nat) (f : Tws → Tws) : (onTws d n f).commitNo = d.commitNo := (rfl)
@[simp] theorem onTws_freeCnt (n : Nat) (f : Tws → Tws) : (onTws d n f).freeCnt = d.freeCnt := (rfl)

/-! ### onHead -/

@[simp] theorem onHead_regs (n : Nat) (f : Head → Head) : (onHead d n f).regs = d.regs := (rfl)
@[simp] theorem onHead_staged (n : Nat) (f : Head → Head) : (onHead d n f).staged = d.staged := (rfl)
@[simp] theorem onHead_mem (n : Nat) (f : Head → Head) : (onHead d n f).mem = d.mem := (rfl)
@[simp] theorem onHead_badLines (n : Nat) (f : Head → Head) : (onHead d n f).badLines = d.badLines := (rfl)
@[simp] theorem onHead_ports (n : Nat) (f : Head → Head) : (onHead d n f).ports = d.ports := (rfl)
@[simp] theorem onHead_ctxs (n : Nat) (f : Head → Head) : (onHead d n f).ctxs = d.ctxs := (rfl)
@[simp] theorem onHead_pipes (n : Nat) (f : Head → Head) : (onHead d n f).pipes = d.pipes := (rfl)
@[simp] theorem onHead_views (n : Nat) (f : Head → Head) : (onHead d n f).views = d.views := (rfl)
@[simp] theorem onHead_taps (n : Nat) (f : Head → Head) : (onHead d n f).taps = d.taps := (rfl)
@[simp] theorem onHead_drvs (n : Nat) (f : Head → Head) : (onHead d n f).drvs = d.drvs := (rfl)
@[simp] theorem onHead_boxes (n : Nat) (f : Head → Head) : (onHead d n f).boxes = d.boxes := (rfl)
@[simp] theorem onHead_compares (n : Nat) (f : Head → Head) : (onHead d n f).compares = d.compares := (rfl)
@[simp] theorem onHead_panReqs (n : Nat) (f : Head → Head) : (onHead d n f).panReqs = d.panReqs := (rfl)
@[simp] theorem onHead_panTurn (n : Nat) (f : Head → Head) : (onHead d n f).panTurn = d.panTurn := (rfl)
@[simp] theorem onHead_events (n : Nat) (f : Head → Head) : (onHead d n f).events = d.events := (rfl)
@[simp] theorem onHead_reports (n : Nat) (f : Head → Head) : (onHead d n f).reports = d.reports := (rfl)
@[simp] theorem onHead_bestEff (n : Nat) (f : Head → Head) : (onHead d n f).bestEff = d.bestEff := (rfl)
@[simp] theorem onHead_tapQueue (n : Nat) (f : Head → Head) : (onHead d n f).tapQueue = d.tapQueue := (rfl)
@[simp] theorem onHead_softLines (n : Nat) (f : Head → Head) : (onHead d n f).softLines = d.softLines := (rfl)
@[simp] theorem onHead_groups (n : Nat) (f : Head → Head) : (onHead d n f).groups = d.groups := (rfl)
@[simp] theorem onHead_lanes (n : Nat) (f : Head → Head) : (onHead d n f).lanes = d.lanes := (rfl)
@[simp] theorem onHead_trunk (n : Nat) (f : Head → Head) : (onHead d n f).trunk = d.trunk := (rfl)
@[simp] theorem onHead_snaps (n : Nat) (f : Head → Head) : (onHead d n f).snaps = d.snaps := (rfl)
@[simp] theorem onHead_latches (n : Nat) (f : Head → Head) : (onHead d n f).latches = d.latches := (rfl)
@[simp] theorem onHead_tsq (n : Nat) (f : Head → Head) : (onHead d n f).tsq = d.tsq := (rfl)
@[simp] theorem onHead_caps (n : Nat) (f : Head → Head) : (onHead d n f).caps = d.caps := (rfl)
@[simp] theorem onHead_trigs (n : Nat) (f : Head → Head) : (onHead d n f).trigs = d.trigs := (rfl)
@[simp] theorem onHead_flt (n : Nat) (f : Head → Head) : (onHead d n f).flt = d.flt := (rfl)
@[simp] theorem onHead_twt (n : Nat) (f : Head → Head) : (onHead d n f).twt = d.twt := (rfl)
@[simp] theorem onHead_tws (n : Nat) (f : Head → Head) : (onHead d n f).tws = d.tws := (rfl)
@[simp] theorem onHead_otp (n : Nat) (f : Head → Head) : (onHead d n f).otp = d.otp := (rfl)
@[simp] theorem onHead_otpBad (n : Nat) (f : Head → Head) : (onHead d n f).otpBad = d.otpBad := (rfl)
@[simp] theorem onHead_aonBad (n : Nat) (f : Head → Head) : (onHead d n f).aonBad = d.aonBad := (rfl)
@[simp] theorem onHead_boot (n : Nat) (f : Head → Head) : (onHead d n f).boot = d.boot := (rfl)
@[simp] theorem onHead_sec (n : Nat) (f : Head → Head) : (onHead d n f).sec = d.sec := (rfl)
@[simp] theorem onHead_heads (n : Nat) (f : Head → Head) : (onHead d n f).heads = vmod d.heads n f := (rfl)
@[simp] theorem onHead_power (n : Nat) (f : Head → Head) : (onHead d n f).power = d.power := (rfl)
@[simp] theorem onHead_guards (n : Nat) (f : Head → Head) : (onHead d n f).guards = d.guards := (rfl)
@[simp] theorem onHead_onceTree (n : Nat) (f : Head → Head) : (onHead d n f).onceTree = d.onceTree := (rfl)
@[simp] theorem onHead_acts (n : Nat) (f : Head → Head) : (onHead d n f).acts = d.acts := (rfl)
@[simp] theorem onHead_commitNo (n : Nat) (f : Head → Head) : (onHead d n f).commitNo = d.commitNo := (rfl)
@[simp] theorem onHead_freeCnt (n : Nat) (f : Head → Head) : (onHead d n f).freeCnt = d.freeCnt := (rfl)

/-! ### onCompare -/

@[simp] theorem onCompare_regs (n : Nat) (f : Compare → Compare) : (onCompare d n f).regs = d.regs := (rfl)
@[simp] theorem onCompare_staged (n : Nat) (f : Compare → Compare) : (onCompare d n f).staged = d.staged := (rfl)
@[simp] theorem onCompare_mem (n : Nat) (f : Compare → Compare) : (onCompare d n f).mem = d.mem := (rfl)
@[simp] theorem onCompare_badLines (n : Nat) (f : Compare → Compare) : (onCompare d n f).badLines = d.badLines := (rfl)
@[simp] theorem onCompare_ports (n : Nat) (f : Compare → Compare) : (onCompare d n f).ports = d.ports := (rfl)
@[simp] theorem onCompare_ctxs (n : Nat) (f : Compare → Compare) : (onCompare d n f).ctxs = d.ctxs := (rfl)
@[simp] theorem onCompare_pipes (n : Nat) (f : Compare → Compare) : (onCompare d n f).pipes = d.pipes := (rfl)
@[simp] theorem onCompare_views (n : Nat) (f : Compare → Compare) : (onCompare d n f).views = d.views := (rfl)
@[simp] theorem onCompare_taps (n : Nat) (f : Compare → Compare) : (onCompare d n f).taps = d.taps := (rfl)
@[simp] theorem onCompare_drvs (n : Nat) (f : Compare → Compare) : (onCompare d n f).drvs = d.drvs := (rfl)
@[simp] theorem onCompare_boxes (n : Nat) (f : Compare → Compare) : (onCompare d n f).boxes = d.boxes := (rfl)
@[simp] theorem onCompare_compares (n : Nat) (f : Compare → Compare) : (onCompare d n f).compares = vmod d.compares n f := (rfl)
@[simp] theorem onCompare_panReqs (n : Nat) (f : Compare → Compare) : (onCompare d n f).panReqs = d.panReqs := (rfl)
@[simp] theorem onCompare_panTurn (n : Nat) (f : Compare → Compare) : (onCompare d n f).panTurn = d.panTurn := (rfl)
@[simp] theorem onCompare_events (n : Nat) (f : Compare → Compare) : (onCompare d n f).events = d.events := (rfl)
@[simp] theorem onCompare_reports (n : Nat) (f : Compare → Compare) : (onCompare d n f).reports = d.reports := (rfl)
@[simp] theorem onCompare_bestEff (n : Nat) (f : Compare → Compare) : (onCompare d n f).bestEff = d.bestEff := (rfl)
@[simp] theorem onCompare_tapQueue (n : Nat) (f : Compare → Compare) : (onCompare d n f).tapQueue = d.tapQueue := (rfl)
@[simp] theorem onCompare_softLines (n : Nat) (f : Compare → Compare) : (onCompare d n f).softLines = d.softLines := (rfl)
@[simp] theorem onCompare_groups (n : Nat) (f : Compare → Compare) : (onCompare d n f).groups = d.groups := (rfl)
@[simp] theorem onCompare_lanes (n : Nat) (f : Compare → Compare) : (onCompare d n f).lanes = d.lanes := (rfl)
@[simp] theorem onCompare_trunk (n : Nat) (f : Compare → Compare) : (onCompare d n f).trunk = d.trunk := (rfl)
@[simp] theorem onCompare_snaps (n : Nat) (f : Compare → Compare) : (onCompare d n f).snaps = d.snaps := (rfl)
@[simp] theorem onCompare_latches (n : Nat) (f : Compare → Compare) : (onCompare d n f).latches = d.latches := (rfl)
@[simp] theorem onCompare_tsq (n : Nat) (f : Compare → Compare) : (onCompare d n f).tsq = d.tsq := (rfl)
@[simp] theorem onCompare_caps (n : Nat) (f : Compare → Compare) : (onCompare d n f).caps = d.caps := (rfl)
@[simp] theorem onCompare_trigs (n : Nat) (f : Compare → Compare) : (onCompare d n f).trigs = d.trigs := (rfl)
@[simp] theorem onCompare_flt (n : Nat) (f : Compare → Compare) : (onCompare d n f).flt = d.flt := (rfl)
@[simp] theorem onCompare_twt (n : Nat) (f : Compare → Compare) : (onCompare d n f).twt = d.twt := (rfl)
@[simp] theorem onCompare_tws (n : Nat) (f : Compare → Compare) : (onCompare d n f).tws = d.tws := (rfl)
@[simp] theorem onCompare_otp (n : Nat) (f : Compare → Compare) : (onCompare d n f).otp = d.otp := (rfl)
@[simp] theorem onCompare_otpBad (n : Nat) (f : Compare → Compare) : (onCompare d n f).otpBad = d.otpBad := (rfl)
@[simp] theorem onCompare_aonBad (n : Nat) (f : Compare → Compare) : (onCompare d n f).aonBad = d.aonBad := (rfl)
@[simp] theorem onCompare_boot (n : Nat) (f : Compare → Compare) : (onCompare d n f).boot = d.boot := (rfl)
@[simp] theorem onCompare_sec (n : Nat) (f : Compare → Compare) : (onCompare d n f).sec = d.sec := (rfl)
@[simp] theorem onCompare_heads (n : Nat) (f : Compare → Compare) : (onCompare d n f).heads = d.heads := (rfl)
@[simp] theorem onCompare_power (n : Nat) (f : Compare → Compare) : (onCompare d n f).power = d.power := (rfl)
@[simp] theorem onCompare_guards (n : Nat) (f : Compare → Compare) : (onCompare d n f).guards = d.guards := (rfl)
@[simp] theorem onCompare_onceTree (n : Nat) (f : Compare → Compare) : (onCompare d n f).onceTree = d.onceTree := (rfl)
@[simp] theorem onCompare_acts (n : Nat) (f : Compare → Compare) : (onCompare d n f).acts = d.acts := (rfl)
@[simp] theorem onCompare_commitNo (n : Nat) (f : Compare → Compare) : (onCompare d n f).commitNo = d.commitNo := (rfl)
@[simp] theorem onCompare_freeCnt (n : Nat) (f : Compare → Compare) : (onCompare d n f).freeCnt = d.freeCnt := (rfl)

/-! ### onCap -/

@[simp] theorem onCap_regs (n : Nat) (f : Capture → Capture) : (onCap d n f).regs = d.regs := (rfl)
@[simp] theorem onCap_staged (n : Nat) (f : Capture → Capture) : (onCap d n f).staged = d.staged := (rfl)
@[simp] theorem onCap_mem (n : Nat) (f : Capture → Capture) : (onCap d n f).mem = d.mem := (rfl)
@[simp] theorem onCap_badLines (n : Nat) (f : Capture → Capture) : (onCap d n f).badLines = d.badLines := (rfl)
@[simp] theorem onCap_ports (n : Nat) (f : Capture → Capture) : (onCap d n f).ports = d.ports := (rfl)
@[simp] theorem onCap_ctxs (n : Nat) (f : Capture → Capture) : (onCap d n f).ctxs = d.ctxs := (rfl)
@[simp] theorem onCap_pipes (n : Nat) (f : Capture → Capture) : (onCap d n f).pipes = d.pipes := (rfl)
@[simp] theorem onCap_views (n : Nat) (f : Capture → Capture) : (onCap d n f).views = d.views := (rfl)
@[simp] theorem onCap_taps (n : Nat) (f : Capture → Capture) : (onCap d n f).taps = d.taps := (rfl)
@[simp] theorem onCap_drvs (n : Nat) (f : Capture → Capture) : (onCap d n f).drvs = d.drvs := (rfl)
@[simp] theorem onCap_boxes (n : Nat) (f : Capture → Capture) : (onCap d n f).boxes = d.boxes := (rfl)
@[simp] theorem onCap_compares (n : Nat) (f : Capture → Capture) : (onCap d n f).compares = d.compares := (rfl)
@[simp] theorem onCap_panReqs (n : Nat) (f : Capture → Capture) : (onCap d n f).panReqs = d.panReqs := (rfl)
@[simp] theorem onCap_panTurn (n : Nat) (f : Capture → Capture) : (onCap d n f).panTurn = d.panTurn := (rfl)
@[simp] theorem onCap_events (n : Nat) (f : Capture → Capture) : (onCap d n f).events = d.events := (rfl)
@[simp] theorem onCap_reports (n : Nat) (f : Capture → Capture) : (onCap d n f).reports = d.reports := (rfl)
@[simp] theorem onCap_bestEff (n : Nat) (f : Capture → Capture) : (onCap d n f).bestEff = d.bestEff := (rfl)
@[simp] theorem onCap_tapQueue (n : Nat) (f : Capture → Capture) : (onCap d n f).tapQueue = d.tapQueue := (rfl)
@[simp] theorem onCap_softLines (n : Nat) (f : Capture → Capture) : (onCap d n f).softLines = d.softLines := (rfl)
@[simp] theorem onCap_groups (n : Nat) (f : Capture → Capture) : (onCap d n f).groups = d.groups := (rfl)
@[simp] theorem onCap_lanes (n : Nat) (f : Capture → Capture) : (onCap d n f).lanes = d.lanes := (rfl)
@[simp] theorem onCap_trunk (n : Nat) (f : Capture → Capture) : (onCap d n f).trunk = d.trunk := (rfl)
@[simp] theorem onCap_snaps (n : Nat) (f : Capture → Capture) : (onCap d n f).snaps = d.snaps := (rfl)
@[simp] theorem onCap_latches (n : Nat) (f : Capture → Capture) : (onCap d n f).latches = d.latches := (rfl)
@[simp] theorem onCap_tsq (n : Nat) (f : Capture → Capture) : (onCap d n f).tsq = d.tsq := (rfl)
@[simp] theorem onCap_caps (n : Nat) (f : Capture → Capture) : (onCap d n f).caps = vmod d.caps n f := (rfl)
@[simp] theorem onCap_trigs (n : Nat) (f : Capture → Capture) : (onCap d n f).trigs = d.trigs := (rfl)
@[simp] theorem onCap_flt (n : Nat) (f : Capture → Capture) : (onCap d n f).flt = d.flt := (rfl)
@[simp] theorem onCap_twt (n : Nat) (f : Capture → Capture) : (onCap d n f).twt = d.twt := (rfl)
@[simp] theorem onCap_tws (n : Nat) (f : Capture → Capture) : (onCap d n f).tws = d.tws := (rfl)
@[simp] theorem onCap_otp (n : Nat) (f : Capture → Capture) : (onCap d n f).otp = d.otp := (rfl)
@[simp] theorem onCap_otpBad (n : Nat) (f : Capture → Capture) : (onCap d n f).otpBad = d.otpBad := (rfl)
@[simp] theorem onCap_aonBad (n : Nat) (f : Capture → Capture) : (onCap d n f).aonBad = d.aonBad := (rfl)
@[simp] theorem onCap_boot (n : Nat) (f : Capture → Capture) : (onCap d n f).boot = d.boot := (rfl)
@[simp] theorem onCap_sec (n : Nat) (f : Capture → Capture) : (onCap d n f).sec = d.sec := (rfl)
@[simp] theorem onCap_heads (n : Nat) (f : Capture → Capture) : (onCap d n f).heads = d.heads := (rfl)
@[simp] theorem onCap_power (n : Nat) (f : Capture → Capture) : (onCap d n f).power = d.power := (rfl)
@[simp] theorem onCap_guards (n : Nat) (f : Capture → Capture) : (onCap d n f).guards = d.guards := (rfl)
@[simp] theorem onCap_onceTree (n : Nat) (f : Capture → Capture) : (onCap d n f).onceTree = d.onceTree := (rfl)
@[simp] theorem onCap_acts (n : Nat) (f : Capture → Capture) : (onCap d n f).acts = d.acts := (rfl)
@[simp] theorem onCap_commitNo (n : Nat) (f : Capture → Capture) : (onCap d n f).commitNo = d.commitNo := (rfl)
@[simp] theorem onCap_freeCnt (n : Nat) (f : Capture → Capture) : (onCap d n f).freeCnt = d.freeCnt := (rfl)

/-! ### onTrig -/

@[simp] theorem onTrig_regs (n : Nat) (f : Trigger → Trigger) : (onTrig d n f).regs = d.regs := (rfl)
@[simp] theorem onTrig_staged (n : Nat) (f : Trigger → Trigger) : (onTrig d n f).staged = d.staged := (rfl)
@[simp] theorem onTrig_mem (n : Nat) (f : Trigger → Trigger) : (onTrig d n f).mem = d.mem := (rfl)
@[simp] theorem onTrig_badLines (n : Nat) (f : Trigger → Trigger) : (onTrig d n f).badLines = d.badLines := (rfl)
@[simp] theorem onTrig_ports (n : Nat) (f : Trigger → Trigger) : (onTrig d n f).ports = d.ports := (rfl)
@[simp] theorem onTrig_ctxs (n : Nat) (f : Trigger → Trigger) : (onTrig d n f).ctxs = d.ctxs := (rfl)
@[simp] theorem onTrig_pipes (n : Nat) (f : Trigger → Trigger) : (onTrig d n f).pipes = d.pipes := (rfl)
@[simp] theorem onTrig_views (n : Nat) (f : Trigger → Trigger) : (onTrig d n f).views = d.views := (rfl)
@[simp] theorem onTrig_taps (n : Nat) (f : Trigger → Trigger) : (onTrig d n f).taps = d.taps := (rfl)
@[simp] theorem onTrig_drvs (n : Nat) (f : Trigger → Trigger) : (onTrig d n f).drvs = d.drvs := (rfl)
@[simp] theorem onTrig_boxes (n : Nat) (f : Trigger → Trigger) : (onTrig d n f).boxes = d.boxes := (rfl)
@[simp] theorem onTrig_compares (n : Nat) (f : Trigger → Trigger) : (onTrig d n f).compares = d.compares := (rfl)
@[simp] theorem onTrig_panReqs (n : Nat) (f : Trigger → Trigger) : (onTrig d n f).panReqs = d.panReqs := (rfl)
@[simp] theorem onTrig_panTurn (n : Nat) (f : Trigger → Trigger) : (onTrig d n f).panTurn = d.panTurn := (rfl)
@[simp] theorem onTrig_events (n : Nat) (f : Trigger → Trigger) : (onTrig d n f).events = d.events := (rfl)
@[simp] theorem onTrig_reports (n : Nat) (f : Trigger → Trigger) : (onTrig d n f).reports = d.reports := (rfl)
@[simp] theorem onTrig_bestEff (n : Nat) (f : Trigger → Trigger) : (onTrig d n f).bestEff = d.bestEff := (rfl)
@[simp] theorem onTrig_tapQueue (n : Nat) (f : Trigger → Trigger) : (onTrig d n f).tapQueue = d.tapQueue := (rfl)
@[simp] theorem onTrig_softLines (n : Nat) (f : Trigger → Trigger) : (onTrig d n f).softLines = d.softLines := (rfl)
@[simp] theorem onTrig_groups (n : Nat) (f : Trigger → Trigger) : (onTrig d n f).groups = d.groups := (rfl)
@[simp] theorem onTrig_lanes (n : Nat) (f : Trigger → Trigger) : (onTrig d n f).lanes = d.lanes := (rfl)
@[simp] theorem onTrig_trunk (n : Nat) (f : Trigger → Trigger) : (onTrig d n f).trunk = d.trunk := (rfl)
@[simp] theorem onTrig_snaps (n : Nat) (f : Trigger → Trigger) : (onTrig d n f).snaps = d.snaps := (rfl)
@[simp] theorem onTrig_latches (n : Nat) (f : Trigger → Trigger) : (onTrig d n f).latches = d.latches := (rfl)
@[simp] theorem onTrig_tsq (n : Nat) (f : Trigger → Trigger) : (onTrig d n f).tsq = d.tsq := (rfl)
@[simp] theorem onTrig_caps (n : Nat) (f : Trigger → Trigger) : (onTrig d n f).caps = d.caps := (rfl)
@[simp] theorem onTrig_trigs (n : Nat) (f : Trigger → Trigger) : (onTrig d n f).trigs = vmod d.trigs n f := (rfl)
@[simp] theorem onTrig_flt (n : Nat) (f : Trigger → Trigger) : (onTrig d n f).flt = d.flt := (rfl)
@[simp] theorem onTrig_twt (n : Nat) (f : Trigger → Trigger) : (onTrig d n f).twt = d.twt := (rfl)
@[simp] theorem onTrig_tws (n : Nat) (f : Trigger → Trigger) : (onTrig d n f).tws = d.tws := (rfl)
@[simp] theorem onTrig_otp (n : Nat) (f : Trigger → Trigger) : (onTrig d n f).otp = d.otp := (rfl)
@[simp] theorem onTrig_otpBad (n : Nat) (f : Trigger → Trigger) : (onTrig d n f).otpBad = d.otpBad := (rfl)
@[simp] theorem onTrig_aonBad (n : Nat) (f : Trigger → Trigger) : (onTrig d n f).aonBad = d.aonBad := (rfl)
@[simp] theorem onTrig_boot (n : Nat) (f : Trigger → Trigger) : (onTrig d n f).boot = d.boot := (rfl)
@[simp] theorem onTrig_sec (n : Nat) (f : Trigger → Trigger) : (onTrig d n f).sec = d.sec := (rfl)
@[simp] theorem onTrig_heads (n : Nat) (f : Trigger → Trigger) : (onTrig d n f).heads = d.heads := (rfl)
@[simp] theorem onTrig_power (n : Nat) (f : Trigger → Trigger) : (onTrig d n f).power = d.power := (rfl)
@[simp] theorem onTrig_guards (n : Nat) (f : Trigger → Trigger) : (onTrig d n f).guards = d.guards := (rfl)
@[simp] theorem onTrig_onceTree (n : Nat) (f : Trigger → Trigger) : (onTrig d n f).onceTree = d.onceTree := (rfl)
@[simp] theorem onTrig_acts (n : Nat) (f : Trigger → Trigger) : (onTrig d n f).acts = d.acts := (rfl)
@[simp] theorem onTrig_commitNo (n : Nat) (f : Trigger → Trigger) : (onTrig d n f).commitNo = d.commitNo := (rfl)
@[simp] theorem onTrig_freeCnt (n : Nat) (f : Trigger → Trigger) : (onTrig d n f).freeCnt = d.freeCnt := (rfl)

/-! ### onTrunk -/

@[simp] theorem onTrunk_regs (f : Trunk → Trunk) : (onTrunk d f).regs = d.regs := (rfl)
@[simp] theorem onTrunk_staged (f : Trunk → Trunk) : (onTrunk d f).staged = d.staged := (rfl)
@[simp] theorem onTrunk_mem (f : Trunk → Trunk) : (onTrunk d f).mem = d.mem := (rfl)
@[simp] theorem onTrunk_badLines (f : Trunk → Trunk) : (onTrunk d f).badLines = d.badLines := (rfl)
@[simp] theorem onTrunk_ports (f : Trunk → Trunk) : (onTrunk d f).ports = d.ports := (rfl)
@[simp] theorem onTrunk_ctxs (f : Trunk → Trunk) : (onTrunk d f).ctxs = d.ctxs := (rfl)
@[simp] theorem onTrunk_pipes (f : Trunk → Trunk) : (onTrunk d f).pipes = d.pipes := (rfl)
@[simp] theorem onTrunk_views (f : Trunk → Trunk) : (onTrunk d f).views = d.views := (rfl)
@[simp] theorem onTrunk_taps (f : Trunk → Trunk) : (onTrunk d f).taps = d.taps := (rfl)
@[simp] theorem onTrunk_drvs (f : Trunk → Trunk) : (onTrunk d f).drvs = d.drvs := (rfl)
@[simp] theorem onTrunk_boxes (f : Trunk → Trunk) : (onTrunk d f).boxes = d.boxes := (rfl)
@[simp] theorem onTrunk_compares (f : Trunk → Trunk) : (onTrunk d f).compares = d.compares := (rfl)
@[simp] theorem onTrunk_panReqs (f : Trunk → Trunk) : (onTrunk d f).panReqs = d.panReqs := (rfl)
@[simp] theorem onTrunk_panTurn (f : Trunk → Trunk) : (onTrunk d f).panTurn = d.panTurn := (rfl)
@[simp] theorem onTrunk_events (f : Trunk → Trunk) : (onTrunk d f).events = d.events := (rfl)
@[simp] theorem onTrunk_reports (f : Trunk → Trunk) : (onTrunk d f).reports = d.reports := (rfl)
@[simp] theorem onTrunk_bestEff (f : Trunk → Trunk) : (onTrunk d f).bestEff = d.bestEff := (rfl)
@[simp] theorem onTrunk_tapQueue (f : Trunk → Trunk) : (onTrunk d f).tapQueue = d.tapQueue := (rfl)
@[simp] theorem onTrunk_softLines (f : Trunk → Trunk) : (onTrunk d f).softLines = d.softLines := (rfl)
@[simp] theorem onTrunk_groups (f : Trunk → Trunk) : (onTrunk d f).groups = d.groups := (rfl)
@[simp] theorem onTrunk_lanes (f : Trunk → Trunk) : (onTrunk d f).lanes = d.lanes := (rfl)
@[simp] theorem onTrunk_trunk (f : Trunk → Trunk) : (onTrunk d f).trunk = f d.trunk := (rfl)
@[simp] theorem onTrunk_snaps (f : Trunk → Trunk) : (onTrunk d f).snaps = d.snaps := (rfl)
@[simp] theorem onTrunk_latches (f : Trunk → Trunk) : (onTrunk d f).latches = d.latches := (rfl)
@[simp] theorem onTrunk_tsq (f : Trunk → Trunk) : (onTrunk d f).tsq = d.tsq := (rfl)
@[simp] theorem onTrunk_caps (f : Trunk → Trunk) : (onTrunk d f).caps = d.caps := (rfl)
@[simp] theorem onTrunk_trigs (f : Trunk → Trunk) : (onTrunk d f).trigs = d.trigs := (rfl)
@[simp] theorem onTrunk_flt (f : Trunk → Trunk) : (onTrunk d f).flt = d.flt := (rfl)
@[simp] theorem onTrunk_twt (f : Trunk → Trunk) : (onTrunk d f).twt = d.twt := (rfl)
@[simp] theorem onTrunk_tws (f : Trunk → Trunk) : (onTrunk d f).tws = d.tws := (rfl)
@[simp] theorem onTrunk_otp (f : Trunk → Trunk) : (onTrunk d f).otp = d.otp := (rfl)
@[simp] theorem onTrunk_otpBad (f : Trunk → Trunk) : (onTrunk d f).otpBad = d.otpBad := (rfl)
@[simp] theorem onTrunk_aonBad (f : Trunk → Trunk) : (onTrunk d f).aonBad = d.aonBad := (rfl)
@[simp] theorem onTrunk_boot (f : Trunk → Trunk) : (onTrunk d f).boot = d.boot := (rfl)
@[simp] theorem onTrunk_sec (f : Trunk → Trunk) : (onTrunk d f).sec = d.sec := (rfl)
@[simp] theorem onTrunk_heads (f : Trunk → Trunk) : (onTrunk d f).heads = d.heads := (rfl)
@[simp] theorem onTrunk_power (f : Trunk → Trunk) : (onTrunk d f).power = d.power := (rfl)
@[simp] theorem onTrunk_guards (f : Trunk → Trunk) : (onTrunk d f).guards = d.guards := (rfl)
@[simp] theorem onTrunk_onceTree (f : Trunk → Trunk) : (onTrunk d f).onceTree = d.onceTree := (rfl)
@[simp] theorem onTrunk_acts (f : Trunk → Trunk) : (onTrunk d f).acts = d.acts := (rfl)
@[simp] theorem onTrunk_commitNo (f : Trunk → Trunk) : (onTrunk d f).commitNo = d.commitNo := (rfl)
@[simp] theorem onTrunk_freeCnt (f : Trunk → Trunk) : (onTrunk d f).freeCnt = d.freeCnt := (rfl)

/-! ### onTwt -/

@[simp] theorem onTwt_regs (f : Twt → Twt) : (onTwt d f).regs = d.regs := (rfl)
@[simp] theorem onTwt_staged (f : Twt → Twt) : (onTwt d f).staged = d.staged := (rfl)
@[simp] theorem onTwt_mem (f : Twt → Twt) : (onTwt d f).mem = d.mem := (rfl)
@[simp] theorem onTwt_badLines (f : Twt → Twt) : (onTwt d f).badLines = d.badLines := (rfl)
@[simp] theorem onTwt_ports (f : Twt → Twt) : (onTwt d f).ports = d.ports := (rfl)
@[simp] theorem onTwt_ctxs (f : Twt → Twt) : (onTwt d f).ctxs = d.ctxs := (rfl)
@[simp] theorem onTwt_pipes (f : Twt → Twt) : (onTwt d f).pipes = d.pipes := (rfl)
@[simp] theorem onTwt_views (f : Twt → Twt) : (onTwt d f).views = d.views := (rfl)
@[simp] theorem onTwt_taps (f : Twt → Twt) : (onTwt d f).taps = d.taps := (rfl)
@[simp] theorem onTwt_drvs (f : Twt → Twt) : (onTwt d f).drvs = d.drvs := (rfl)
@[simp] theorem onTwt_boxes (f : Twt → Twt) : (onTwt d f).boxes = d.boxes := (rfl)
@[simp] theorem onTwt_compares (f : Twt → Twt) : (onTwt d f).compares = d.compares := (rfl)
@[simp] theorem onTwt_panReqs (f : Twt → Twt) : (onTwt d f).panReqs = d.panReqs := (rfl)
@[simp] theorem onTwt_panTurn (f : Twt → Twt) : (onTwt d f).panTurn = d.panTurn := (rfl)
@[simp] theorem onTwt_events (f : Twt → Twt) : (onTwt d f).events = d.events := (rfl)
@[simp] theorem onTwt_reports (f : Twt → Twt) : (onTwt d f).reports = d.reports := (rfl)
@[simp] theorem onTwt_bestEff (f : Twt → Twt) : (onTwt d f).bestEff = d.bestEff := (rfl)
@[simp] theorem onTwt_tapQueue (f : Twt → Twt) : (onTwt d f).tapQueue = d.tapQueue := (rfl)
@[simp] theorem onTwt_softLines (f : Twt → Twt) : (onTwt d f).softLines = d.softLines := (rfl)
@[simp] theorem onTwt_groups (f : Twt → Twt) : (onTwt d f).groups = d.groups := (rfl)
@[simp] theorem onTwt_lanes (f : Twt → Twt) : (onTwt d f).lanes = d.lanes := (rfl)
@[simp] theorem onTwt_trunk (f : Twt → Twt) : (onTwt d f).trunk = d.trunk := (rfl)
@[simp] theorem onTwt_snaps (f : Twt → Twt) : (onTwt d f).snaps = d.snaps := (rfl)
@[simp] theorem onTwt_latches (f : Twt → Twt) : (onTwt d f).latches = d.latches := (rfl)
@[simp] theorem onTwt_tsq (f : Twt → Twt) : (onTwt d f).tsq = d.tsq := (rfl)
@[simp] theorem onTwt_caps (f : Twt → Twt) : (onTwt d f).caps = d.caps := (rfl)
@[simp] theorem onTwt_trigs (f : Twt → Twt) : (onTwt d f).trigs = d.trigs := (rfl)
@[simp] theorem onTwt_flt (f : Twt → Twt) : (onTwt d f).flt = d.flt := (rfl)
@[simp] theorem onTwt_twt (f : Twt → Twt) : (onTwt d f).twt = f d.twt := (rfl)
@[simp] theorem onTwt_tws (f : Twt → Twt) : (onTwt d f).tws = d.tws := (rfl)
@[simp] theorem onTwt_otp (f : Twt → Twt) : (onTwt d f).otp = d.otp := (rfl)
@[simp] theorem onTwt_otpBad (f : Twt → Twt) : (onTwt d f).otpBad = d.otpBad := (rfl)
@[simp] theorem onTwt_aonBad (f : Twt → Twt) : (onTwt d f).aonBad = d.aonBad := (rfl)
@[simp] theorem onTwt_boot (f : Twt → Twt) : (onTwt d f).boot = d.boot := (rfl)
@[simp] theorem onTwt_sec (f : Twt → Twt) : (onTwt d f).sec = d.sec := (rfl)
@[simp] theorem onTwt_heads (f : Twt → Twt) : (onTwt d f).heads = d.heads := (rfl)
@[simp] theorem onTwt_power (f : Twt → Twt) : (onTwt d f).power = d.power := (rfl)
@[simp] theorem onTwt_guards (f : Twt → Twt) : (onTwt d f).guards = d.guards := (rfl)
@[simp] theorem onTwt_onceTree (f : Twt → Twt) : (onTwt d f).onceTree = d.onceTree := (rfl)
@[simp] theorem onTwt_acts (f : Twt → Twt) : (onTwt d f).acts = d.acts := (rfl)
@[simp] theorem onTwt_commitNo (f : Twt → Twt) : (onTwt d f).commitNo = d.commitNo := (rfl)
@[simp] theorem onTwt_freeCnt (f : Twt → Twt) : (onTwt d f).freeCnt = d.freeCnt := (rfl)

/-! ### onPower -/

@[simp] theorem onPower_regs (f : Power → Power) : (onPower d f).regs = d.regs := (rfl)
@[simp] theorem onPower_staged (f : Power → Power) : (onPower d f).staged = d.staged := (rfl)
@[simp] theorem onPower_mem (f : Power → Power) : (onPower d f).mem = d.mem := (rfl)
@[simp] theorem onPower_badLines (f : Power → Power) : (onPower d f).badLines = d.badLines := (rfl)
@[simp] theorem onPower_ports (f : Power → Power) : (onPower d f).ports = d.ports := (rfl)
@[simp] theorem onPower_ctxs (f : Power → Power) : (onPower d f).ctxs = d.ctxs := (rfl)
@[simp] theorem onPower_pipes (f : Power → Power) : (onPower d f).pipes = d.pipes := (rfl)
@[simp] theorem onPower_views (f : Power → Power) : (onPower d f).views = d.views := (rfl)
@[simp] theorem onPower_taps (f : Power → Power) : (onPower d f).taps = d.taps := (rfl)
@[simp] theorem onPower_drvs (f : Power → Power) : (onPower d f).drvs = d.drvs := (rfl)
@[simp] theorem onPower_boxes (f : Power → Power) : (onPower d f).boxes = d.boxes := (rfl)
@[simp] theorem onPower_compares (f : Power → Power) : (onPower d f).compares = d.compares := (rfl)
@[simp] theorem onPower_panReqs (f : Power → Power) : (onPower d f).panReqs = d.panReqs := (rfl)
@[simp] theorem onPower_panTurn (f : Power → Power) : (onPower d f).panTurn = d.panTurn := (rfl)
@[simp] theorem onPower_events (f : Power → Power) : (onPower d f).events = d.events := (rfl)
@[simp] theorem onPower_reports (f : Power → Power) : (onPower d f).reports = d.reports := (rfl)
@[simp] theorem onPower_bestEff (f : Power → Power) : (onPower d f).bestEff = d.bestEff := (rfl)
@[simp] theorem onPower_tapQueue (f : Power → Power) : (onPower d f).tapQueue = d.tapQueue := (rfl)
@[simp] theorem onPower_softLines (f : Power → Power) : (onPower d f).softLines = d.softLines := (rfl)
@[simp] theorem onPower_groups (f : Power → Power) : (onPower d f).groups = d.groups := (rfl)
@[simp] theorem onPower_lanes (f : Power → Power) : (onPower d f).lanes = d.lanes := (rfl)
@[simp] theorem onPower_trunk (f : Power → Power) : (onPower d f).trunk = d.trunk := (rfl)
@[simp] theorem onPower_snaps (f : Power → Power) : (onPower d f).snaps = d.snaps := (rfl)
@[simp] theorem onPower_latches (f : Power → Power) : (onPower d f).latches = d.latches := (rfl)
@[simp] theorem onPower_tsq (f : Power → Power) : (onPower d f).tsq = d.tsq := (rfl)
@[simp] theorem onPower_caps (f : Power → Power) : (onPower d f).caps = d.caps := (rfl)
@[simp] theorem onPower_trigs (f : Power → Power) : (onPower d f).trigs = d.trigs := (rfl)
@[simp] theorem onPower_flt (f : Power → Power) : (onPower d f).flt = d.flt := (rfl)
@[simp] theorem onPower_twt (f : Power → Power) : (onPower d f).twt = d.twt := (rfl)
@[simp] theorem onPower_tws (f : Power → Power) : (onPower d f).tws = d.tws := (rfl)
@[simp] theorem onPower_otp (f : Power → Power) : (onPower d f).otp = d.otp := (rfl)
@[simp] theorem onPower_otpBad (f : Power → Power) : (onPower d f).otpBad = d.otpBad := (rfl)
@[simp] theorem onPower_aonBad (f : Power → Power) : (onPower d f).aonBad = d.aonBad := (rfl)
@[simp] theorem onPower_boot (f : Power → Power) : (onPower d f).boot = d.boot := (rfl)
@[simp] theorem onPower_sec (f : Power → Power) : (onPower d f).sec = d.sec := (rfl)
@[simp] theorem onPower_heads (f : Power → Power) : (onPower d f).heads = d.heads := (rfl)
@[simp] theorem onPower_power (f : Power → Power) : (onPower d f).power = f d.power := (rfl)
@[simp] theorem onPower_guards (f : Power → Power) : (onPower d f).guards = d.guards := (rfl)
@[simp] theorem onPower_onceTree (f : Power → Power) : (onPower d f).onceTree = d.onceTree := (rfl)
@[simp] theorem onPower_acts (f : Power → Power) : (onPower d f).acts = d.acts := (rfl)
@[simp] theorem onPower_commitNo (f : Power → Power) : (onPower d f).commitNo = d.commitNo := (rfl)
@[simp] theorem onPower_freeCnt (f : Power → Power) : (onPower d f).freeCnt = d.freeCnt := (rfl)

/-! ### onFlt -/

@[simp] theorem onFlt_regs (f : Collector → Collector) : (onFlt d f).regs = d.regs := (rfl)
@[simp] theorem onFlt_staged (f : Collector → Collector) : (onFlt d f).staged = d.staged := (rfl)
@[simp] theorem onFlt_mem (f : Collector → Collector) : (onFlt d f).mem = d.mem := (rfl)
@[simp] theorem onFlt_badLines (f : Collector → Collector) : (onFlt d f).badLines = d.badLines := (rfl)
@[simp] theorem onFlt_ports (f : Collector → Collector) : (onFlt d f).ports = d.ports := (rfl)
@[simp] theorem onFlt_ctxs (f : Collector → Collector) : (onFlt d f).ctxs = d.ctxs := (rfl)
@[simp] theorem onFlt_pipes (f : Collector → Collector) : (onFlt d f).pipes = d.pipes := (rfl)
@[simp] theorem onFlt_views (f : Collector → Collector) : (onFlt d f).views = d.views := (rfl)
@[simp] theorem onFlt_taps (f : Collector → Collector) : (onFlt d f).taps = d.taps := (rfl)
@[simp] theorem onFlt_drvs (f : Collector → Collector) : (onFlt d f).drvs = d.drvs := (rfl)
@[simp] theorem onFlt_boxes (f : Collector → Collector) : (onFlt d f).boxes = d.boxes := (rfl)
@[simp] theorem onFlt_compares (f : Collector → Collector) : (onFlt d f).compares = d.compares := (rfl)
@[simp] theorem onFlt_panReqs (f : Collector → Collector) : (onFlt d f).panReqs = d.panReqs := (rfl)
@[simp] theorem onFlt_panTurn (f : Collector → Collector) : (onFlt d f).panTurn = d.panTurn := (rfl)
@[simp] theorem onFlt_events (f : Collector → Collector) : (onFlt d f).events = d.events := (rfl)
@[simp] theorem onFlt_reports (f : Collector → Collector) : (onFlt d f).reports = d.reports := (rfl)
@[simp] theorem onFlt_bestEff (f : Collector → Collector) : (onFlt d f).bestEff = d.bestEff := (rfl)
@[simp] theorem onFlt_tapQueue (f : Collector → Collector) : (onFlt d f).tapQueue = d.tapQueue := (rfl)
@[simp] theorem onFlt_softLines (f : Collector → Collector) : (onFlt d f).softLines = d.softLines := (rfl)
@[simp] theorem onFlt_groups (f : Collector → Collector) : (onFlt d f).groups = d.groups := (rfl)
@[simp] theorem onFlt_lanes (f : Collector → Collector) : (onFlt d f).lanes = d.lanes := (rfl)
@[simp] theorem onFlt_trunk (f : Collector → Collector) : (onFlt d f).trunk = d.trunk := (rfl)
@[simp] theorem onFlt_snaps (f : Collector → Collector) : (onFlt d f).snaps = d.snaps := (rfl)
@[simp] theorem onFlt_latches (f : Collector → Collector) : (onFlt d f).latches = d.latches := (rfl)
@[simp] theorem onFlt_tsq (f : Collector → Collector) : (onFlt d f).tsq = d.tsq := (rfl)
@[simp] theorem onFlt_caps (f : Collector → Collector) : (onFlt d f).caps = d.caps := (rfl)
@[simp] theorem onFlt_trigs (f : Collector → Collector) : (onFlt d f).trigs = d.trigs := (rfl)
@[simp] theorem onFlt_flt (f : Collector → Collector) : (onFlt d f).flt = f d.flt := (rfl)
@[simp] theorem onFlt_twt (f : Collector → Collector) : (onFlt d f).twt = d.twt := (rfl)
@[simp] theorem onFlt_tws (f : Collector → Collector) : (onFlt d f).tws = d.tws := (rfl)
@[simp] theorem onFlt_otp (f : Collector → Collector) : (onFlt d f).otp = d.otp := (rfl)
@[simp] theorem onFlt_otpBad (f : Collector → Collector) : (onFlt d f).otpBad = d.otpBad := (rfl)
@[simp] theorem onFlt_aonBad (f : Collector → Collector) : (onFlt d f).aonBad = d.aonBad := (rfl)
@[simp] theorem onFlt_boot (f : Collector → Collector) : (onFlt d f).boot = d.boot := (rfl)
@[simp] theorem onFlt_sec (f : Collector → Collector) : (onFlt d f).sec = d.sec := (rfl)
@[simp] theorem onFlt_heads (f : Collector → Collector) : (onFlt d f).heads = d.heads := (rfl)
@[simp] theorem onFlt_power (f : Collector → Collector) : (onFlt d f).power = d.power := (rfl)
@[simp] theorem onFlt_guards (f : Collector → Collector) : (onFlt d f).guards = d.guards := (rfl)
@[simp] theorem onFlt_onceTree (f : Collector → Collector) : (onFlt d f).onceTree = d.onceTree := (rfl)
@[simp] theorem onFlt_acts (f : Collector → Collector) : (onFlt d f).acts = d.acts := (rfl)
@[simp] theorem onFlt_commitNo (f : Collector → Collector) : (onFlt d f).commitNo = d.commitNo := (rfl)
@[simp] theorem onFlt_freeCnt (f : Collector → Collector) : (onFlt d f).freeCnt = d.freeCnt := (rfl)

/-! ### onSec -/

@[simp] theorem onSec_regs (f : Sec → Sec) : (onSec d f).regs = d.regs := (rfl)
@[simp] theorem onSec_staged (f : Sec → Sec) : (onSec d f).staged = d.staged := (rfl)
@[simp] theorem onSec_mem (f : Sec → Sec) : (onSec d f).mem = d.mem := (rfl)
@[simp] theorem onSec_badLines (f : Sec → Sec) : (onSec d f).badLines = d.badLines := (rfl)
@[simp] theorem onSec_ports (f : Sec → Sec) : (onSec d f).ports = d.ports := (rfl)
@[simp] theorem onSec_ctxs (f : Sec → Sec) : (onSec d f).ctxs = d.ctxs := (rfl)
@[simp] theorem onSec_pipes (f : Sec → Sec) : (onSec d f).pipes = d.pipes := (rfl)
@[simp] theorem onSec_views (f : Sec → Sec) : (onSec d f).views = d.views := (rfl)
@[simp] theorem onSec_taps (f : Sec → Sec) : (onSec d f).taps = d.taps := (rfl)
@[simp] theorem onSec_drvs (f : Sec → Sec) : (onSec d f).drvs = d.drvs := (rfl)
@[simp] theorem onSec_boxes (f : Sec → Sec) : (onSec d f).boxes = d.boxes := (rfl)
@[simp] theorem onSec_compares (f : Sec → Sec) : (onSec d f).compares = d.compares := (rfl)
@[simp] theorem onSec_panReqs (f : Sec → Sec) : (onSec d f).panReqs = d.panReqs := (rfl)
@[simp] theorem onSec_panTurn (f : Sec → Sec) : (onSec d f).panTurn = d.panTurn := (rfl)
@[simp] theorem onSec_events (f : Sec → Sec) : (onSec d f).events = d.events := (rfl)
@[simp] theorem onSec_reports (f : Sec → Sec) : (onSec d f).reports = d.reports := (rfl)
@[simp] theorem onSec_bestEff (f : Sec → Sec) : (onSec d f).bestEff = d.bestEff := (rfl)
@[simp] theorem onSec_tapQueue (f : Sec → Sec) : (onSec d f).tapQueue = d.tapQueue := (rfl)
@[simp] theorem onSec_softLines (f : Sec → Sec) : (onSec d f).softLines = d.softLines := (rfl)
@[simp] theorem onSec_groups (f : Sec → Sec) : (onSec d f).groups = d.groups := (rfl)
@[simp] theorem onSec_lanes (f : Sec → Sec) : (onSec d f).lanes = d.lanes := (rfl)
@[simp] theorem onSec_trunk (f : Sec → Sec) : (onSec d f).trunk = d.trunk := (rfl)
@[simp] theorem onSec_snaps (f : Sec → Sec) : (onSec d f).snaps = d.snaps := (rfl)
@[simp] theorem onSec_latches (f : Sec → Sec) : (onSec d f).latches = d.latches := (rfl)
@[simp] theorem onSec_tsq (f : Sec → Sec) : (onSec d f).tsq = d.tsq := (rfl)
@[simp] theorem onSec_caps (f : Sec → Sec) : (onSec d f).caps = d.caps := (rfl)
@[simp] theorem onSec_trigs (f : Sec → Sec) : (onSec d f).trigs = d.trigs := (rfl)
@[simp] theorem onSec_flt (f : Sec → Sec) : (onSec d f).flt = d.flt := (rfl)
@[simp] theorem onSec_twt (f : Sec → Sec) : (onSec d f).twt = d.twt := (rfl)
@[simp] theorem onSec_tws (f : Sec → Sec) : (onSec d f).tws = d.tws := (rfl)
@[simp] theorem onSec_otp (f : Sec → Sec) : (onSec d f).otp = d.otp := (rfl)
@[simp] theorem onSec_otpBad (f : Sec → Sec) : (onSec d f).otpBad = d.otpBad := (rfl)
@[simp] theorem onSec_aonBad (f : Sec → Sec) : (onSec d f).aonBad = d.aonBad := (rfl)
@[simp] theorem onSec_boot (f : Sec → Sec) : (onSec d f).boot = d.boot := (rfl)
@[simp] theorem onSec_sec (f : Sec → Sec) : (onSec d f).sec = f d.sec := (rfl)
@[simp] theorem onSec_heads (f : Sec → Sec) : (onSec d f).heads = d.heads := (rfl)
@[simp] theorem onSec_power (f : Sec → Sec) : (onSec d f).power = d.power := (rfl)
@[simp] theorem onSec_guards (f : Sec → Sec) : (onSec d f).guards = d.guards := (rfl)
@[simp] theorem onSec_onceTree (f : Sec → Sec) : (onSec d f).onceTree = d.onceTree := (rfl)
@[simp] theorem onSec_acts (f : Sec → Sec) : (onSec d f).acts = d.acts := (rfl)
@[simp] theorem onSec_commitNo (f : Sec → Sec) : (onSec d f).commitNo = d.commitNo := (rfl)
@[simp] theorem onSec_freeCnt (f : Sec → Sec) : (onSec d f).freeCnt = d.freeCnt := (rfl)

/-! ### onBoot -/

@[simp] theorem onBoot_regs (f : Boot → Boot) : (onBoot d f).regs = d.regs := (rfl)
@[simp] theorem onBoot_staged (f : Boot → Boot) : (onBoot d f).staged = d.staged := (rfl)
@[simp] theorem onBoot_mem (f : Boot → Boot) : (onBoot d f).mem = d.mem := (rfl)
@[simp] theorem onBoot_badLines (f : Boot → Boot) : (onBoot d f).badLines = d.badLines := (rfl)
@[simp] theorem onBoot_ports (f : Boot → Boot) : (onBoot d f).ports = d.ports := (rfl)
@[simp] theorem onBoot_ctxs (f : Boot → Boot) : (onBoot d f).ctxs = d.ctxs := (rfl)
@[simp] theorem onBoot_pipes (f : Boot → Boot) : (onBoot d f).pipes = d.pipes := (rfl)
@[simp] theorem onBoot_views (f : Boot → Boot) : (onBoot d f).views = d.views := (rfl)
@[simp] theorem onBoot_taps (f : Boot → Boot) : (onBoot d f).taps = d.taps := (rfl)
@[simp] theorem onBoot_drvs (f : Boot → Boot) : (onBoot d f).drvs = d.drvs := (rfl)
@[simp] theorem onBoot_boxes (f : Boot → Boot) : (onBoot d f).boxes = d.boxes := (rfl)
@[simp] theorem onBoot_compares (f : Boot → Boot) : (onBoot d f).compares = d.compares := (rfl)
@[simp] theorem onBoot_panReqs (f : Boot → Boot) : (onBoot d f).panReqs = d.panReqs := (rfl)
@[simp] theorem onBoot_panTurn (f : Boot → Boot) : (onBoot d f).panTurn = d.panTurn := (rfl)
@[simp] theorem onBoot_events (f : Boot → Boot) : (onBoot d f).events = d.events := (rfl)
@[simp] theorem onBoot_reports (f : Boot → Boot) : (onBoot d f).reports = d.reports := (rfl)
@[simp] theorem onBoot_bestEff (f : Boot → Boot) : (onBoot d f).bestEff = d.bestEff := (rfl)
@[simp] theorem onBoot_tapQueue (f : Boot → Boot) : (onBoot d f).tapQueue = d.tapQueue := (rfl)
@[simp] theorem onBoot_softLines (f : Boot → Boot) : (onBoot d f).softLines = d.softLines := (rfl)
@[simp] theorem onBoot_groups (f : Boot → Boot) : (onBoot d f).groups = d.groups := (rfl)
@[simp] theorem onBoot_lanes (f : Boot → Boot) : (onBoot d f).lanes = d.lanes := (rfl)
@[simp] theorem onBoot_trunk (f : Boot → Boot) : (onBoot d f).trunk = d.trunk := (rfl)
@[simp] theorem onBoot_snaps (f : Boot → Boot) : (onBoot d f).snaps = d.snaps := (rfl)
@[simp] theorem onBoot_latches (f : Boot → Boot) : (onBoot d f).latches = d.latches := (rfl)
@[simp] theorem onBoot_tsq (f : Boot → Boot) : (onBoot d f).tsq = d.tsq := (rfl)
@[simp] theorem onBoot_caps (f : Boot → Boot) : (onBoot d f).caps = d.caps := (rfl)
@[simp] theorem onBoot_trigs (f : Boot → Boot) : (onBoot d f).trigs = d.trigs := (rfl)
@[simp] theorem onBoot_flt (f : Boot → Boot) : (onBoot d f).flt = d.flt := (rfl)
@[simp] theorem onBoot_twt (f : Boot → Boot) : (onBoot d f).twt = d.twt := (rfl)
@[simp] theorem onBoot_tws (f : Boot → Boot) : (onBoot d f).tws = d.tws := (rfl)
@[simp] theorem onBoot_otp (f : Boot → Boot) : (onBoot d f).otp = d.otp := (rfl)
@[simp] theorem onBoot_otpBad (f : Boot → Boot) : (onBoot d f).otpBad = d.otpBad := (rfl)
@[simp] theorem onBoot_aonBad (f : Boot → Boot) : (onBoot d f).aonBad = d.aonBad := (rfl)
@[simp] theorem onBoot_boot (f : Boot → Boot) : (onBoot d f).boot = f d.boot := (rfl)
@[simp] theorem onBoot_sec (f : Boot → Boot) : (onBoot d f).sec = d.sec := (rfl)
@[simp] theorem onBoot_heads (f : Boot → Boot) : (onBoot d f).heads = d.heads := (rfl)
@[simp] theorem onBoot_power (f : Boot → Boot) : (onBoot d f).power = d.power := (rfl)
@[simp] theorem onBoot_guards (f : Boot → Boot) : (onBoot d f).guards = d.guards := (rfl)
@[simp] theorem onBoot_onceTree (f : Boot → Boot) : (onBoot d f).onceTree = d.onceTree := (rfl)
@[simp] theorem onBoot_acts (f : Boot → Boot) : (onBoot d f).acts = d.acts := (rfl)
@[simp] theorem onBoot_commitNo (f : Boot → Boot) : (onBoot d f).commitNo = d.commitNo := (rfl)
@[simp] theorem onBoot_freeCnt (f : Boot → Boot) : (onBoot d f).freeCnt = d.freeCnt := (rfl)

/-! ### onFeed -/

@[simp] theorem onFeed_regs (n : Nat) (f : Feed → Feed) : (onFeed d n f).regs = d.regs := (rfl)
@[simp] theorem onFeed_staged (n : Nat) (f : Feed → Feed) : (onFeed d n f).staged = d.staged := (rfl)
@[simp] theorem onFeed_mem (n : Nat) (f : Feed → Feed) : (onFeed d n f).mem = d.mem := (rfl)
@[simp] theorem onFeed_badLines (n : Nat) (f : Feed → Feed) : (onFeed d n f).badLines = d.badLines := (rfl)
@[simp] theorem onFeed_ports (n : Nat) (f : Feed → Feed) : (onFeed d n f).ports = d.ports := (rfl)
@[simp] theorem onFeed_ctxs (n : Nat) (f : Feed → Feed) : (onFeed d n f).ctxs = d.ctxs := (rfl)
@[simp] theorem onFeed_pipes (n : Nat) (f : Feed → Feed) : (onFeed d n f).pipes = d.pipes := (rfl)
@[simp] theorem onFeed_views (n : Nat) (f : Feed → Feed) : (onFeed d n f).views = d.views := (rfl)
@[simp] theorem onFeed_taps (n : Nat) (f : Feed → Feed) : (onFeed d n f).taps = d.taps := (rfl)
@[simp] theorem onFeed_drvs (n : Nat) (f : Feed → Feed) : (onFeed d n f).drvs = d.drvs := (rfl)
@[simp] theorem onFeed_boxes (n : Nat) (f : Feed → Feed) : (onFeed d n f).boxes = d.boxes := (rfl)
@[simp] theorem onFeed_compares (n : Nat) (f : Feed → Feed) : (onFeed d n f).compares = d.compares := (rfl)
@[simp] theorem onFeed_panReqs (n : Nat) (f : Feed → Feed) : (onFeed d n f).panReqs = d.panReqs := (rfl)
@[simp] theorem onFeed_panTurn (n : Nat) (f : Feed → Feed) : (onFeed d n f).panTurn = d.panTurn := (rfl)
@[simp] theorem onFeed_events (n : Nat) (f : Feed → Feed) : (onFeed d n f).events = d.events := (rfl)
@[simp] theorem onFeed_reports (n : Nat) (f : Feed → Feed) : (onFeed d n f).reports = d.reports := (rfl)
@[simp] theorem onFeed_bestEff (n : Nat) (f : Feed → Feed) : (onFeed d n f).bestEff = d.bestEff := (rfl)
@[simp] theorem onFeed_tapQueue (n : Nat) (f : Feed → Feed) : (onFeed d n f).tapQueue = d.tapQueue := (rfl)
@[simp] theorem onFeed_softLines (n : Nat) (f : Feed → Feed) : (onFeed d n f).softLines = d.softLines := (rfl)
@[simp] theorem onFeed_groups (n : Nat) (f : Feed → Feed) : (onFeed d n f).groups = d.groups := (rfl)
@[simp] theorem onFeed_lanes (n : Nat) (f : Feed → Feed) : (onFeed d n f).lanes = d.lanes := (rfl)
@[simp] theorem onFeed_trunk (n : Nat) (f : Feed → Feed) : (onFeed d n f).trunk = d.trunk := (rfl)
@[simp] theorem onFeed_snaps (n : Nat) (f : Feed → Feed) : (onFeed d n f).snaps = d.snaps := (rfl)
@[simp] theorem onFeed_latches (n : Nat) (f : Feed → Feed) : (onFeed d n f).latches = d.latches := (rfl)
@[simp] theorem onFeed_tsq (n : Nat) (f : Feed → Feed) : (onFeed d n f).tsq = d.tsq := (rfl)
@[simp] theorem onFeed_caps (n : Nat) (f : Feed → Feed) : (onFeed d n f).caps = d.caps := (rfl)
@[simp] theorem onFeed_trigs (n : Nat) (f : Feed → Feed) : (onFeed d n f).trigs = d.trigs := (rfl)
@[simp] theorem onFeed_flt (n : Nat) (f : Feed → Feed) : (onFeed d n f).flt = d.flt := (rfl)
@[simp] theorem onFeed_twt (n : Nat) (f : Feed → Feed) : (onFeed d n f).twt = d.twt := (rfl)
@[simp] theorem onFeed_tws (n : Nat) (f : Feed → Feed) : (onFeed d n f).tws = d.tws := (rfl)
@[simp] theorem onFeed_otp (n : Nat) (f : Feed → Feed) : (onFeed d n f).otp = d.otp := (rfl)
@[simp] theorem onFeed_otpBad (n : Nat) (f : Feed → Feed) : (onFeed d n f).otpBad = d.otpBad := (rfl)
@[simp] theorem onFeed_aonBad (n : Nat) (f : Feed → Feed) : (onFeed d n f).aonBad = d.aonBad := (rfl)
@[simp] theorem onFeed_boot (n : Nat) (f : Feed → Feed) : (onFeed d n f).boot = d.boot := (rfl)
@[simp] theorem onFeed_sec (n : Nat) (f : Feed → Feed) : (onFeed d n f).sec = d.sec := (rfl)
@[simp] theorem onFeed_heads (n : Nat) (f : Feed → Feed) : (onFeed d n f).heads = d.heads := (rfl)
@[simp] theorem onFeed_guards (n : Nat) (f : Feed → Feed) : (onFeed d n f).guards = d.guards := (rfl)
@[simp] theorem onFeed_onceTree (n : Nat) (f : Feed → Feed) : (onFeed d n f).onceTree = d.onceTree := (rfl)
@[simp] theorem onFeed_acts (n : Nat) (f : Feed → Feed) : (onFeed d n f).acts = d.acts := (rfl)
@[simp] theorem onFeed_commitNo (n : Nat) (f : Feed → Feed) : (onFeed d n f).commitNo = d.commitNo := (rfl)
@[simp] theorem onFeed_freeCnt (n : Nat) (f : Feed → Feed) : (onFeed d n f).freeCnt = d.freeCnt := (rfl)

end Sys2Proof.Machine
end

