-- ==== Sys2Proof/Laws/Sparse.lean ====
section
/-! SUPPORT. Sparse tables and memories: what a read sees after a write, and that every operation keeps the canonical form. -/

namespace Sys2Proof.Machine

variable {α : Type} [DecidableEq α] (d : α) (l : List (Nat × α)) (a b : Nat) (v : α)

/-! ### Reads after writes -/

omit [DecidableEq α] in
theorem sGet_not_mem (h : ∀ p ∈ l, p.1 ≠ a) : sGet d l a = d := by
  induction l with
  | nil => rfl
  | cons p t ih =>
    obtain ⟨k, w⟩ := p
    have hk : a ≠ k := fun e => h (k, w) (by simp) e.symm
    simp only [sGet, if_neg hk]
    exact ih (fun p hp => h p (by simp [hp]))

omit [DecidableEq α] in
theorem sGet_sIns_same : sGet d (sIns a v l) a = v := by
  induction l with
  | nil => simp [sIns, sGet]
  | cons p t ih =>
    obtain ⟨k, w⟩ := p
    unfold sIns
    split
    · simp [sGet]
    · split
      · simp [sGet]
      · next h1 h2 => simp only [sGet, if_neg h2]; exact ih

omit [DecidableEq α] in
theorem sGet_sIns_other (h : b ≠ a) : sGet d (sIns a v l) b = sGet d l b := by
  induction l with
  | nil => simp [sIns, sGet, h]
  | cons p t ih =>
    obtain ⟨k, w⟩ := p
    unfold sIns
    split
    · simp [sGet, h]
    · split
      · next h1 h2 => subst h2; simp [sGet, h]
      · simp only [sGet]; split
        · rfl
        · exact ih

omit [DecidableEq α] in
theorem sGet_sDel_other (h : b ≠ a) : sGet d (sDel a l) b = sGet d l b := by
  induction l with
  | nil => rfl
  | cons p t ih =>
    obtain ⟨k, w⟩ := p
    unfold sDel
    split
    · next h1 => subst h1; simp only [sGet, if_neg h]; exact ih
    · simp only [sGet]; split
      · rfl
      · exact ih

omit [DecidableEq α] in
theorem sGet_sDel_same : sGet d (sDel a l) a = d := by
  induction l with
  | nil => rfl
  | cons p t ih =>
    obtain ⟨k, w⟩ := p
    unfold sDel
    split
    · exact ih
    · next e => simp only [sGet, if_neg e]; exact ih

/-- A read of what was written. -/
theorem sGet_sPut_same : sGet d (sPut d l a v) a = v := by
  unfold sPut
  split
  · next e => rw [e]; exact sGet_sDel_same d l a
  · exact sGet_sIns_same d l a v

/-- A write leaves every other key alone. -/
theorem sGet_sPut_other (e : α) (h : b ≠ a) : sGet e (sPut d l a v) b = sGet e l b := by
  unfold sPut
  split
  · exact sGet_sDel_other e l a b h
  · exact sGet_sIns_other e l a b v h

/-! ### The canonical form -/

/-- The keys of a table rise strictly. -/
def Rising (l : List (Nat × α)) : Prop := (l.map Prod.fst).Pairwise (· < ·)

omit [DecidableEq α] in
theorem sSorted_iff : sSorted l = true ↔ Rising l := by simp [sSorted, Rising]

omit [DecidableEq α] in
theorem rising_cons {p : Nat × α} : Rising (p :: l) ↔ (∀ q ∈ l, p.1 < q.1) ∧ Rising l := by
  simp [Rising, List.pairwise_cons]

omit [DecidableEq α] in
theorem mem_sIns {q : Nat × α} (h : q ∈ sIns a v l) : q = (a, v) ∨ q ∈ l := by
  induction l with
  | nil => simpa [sIns] using h
  | cons p t ih =>
    obtain ⟨k, w⟩ := p
    unfold sIns at h
    split at h
    · simpa using h
    · split at h
      · simp at h; rcases h with h | h
        · exact .inl h
        · exact .inr (by simp [h])
      · simp at h; rcases h with h | h
        · exact .inr (by simp [h])
        · rcases ih h with h | h
          · exact .inl h
          · exact .inr (by simp [h])

omit [DecidableEq α] in
theorem mem_sDel {q : Nat × α} (h : q ∈ sDel a l) : q ∈ l := by
  induction l with
  | nil => simp [sDel] at h
  | cons p t ih =>
    obtain ⟨k, w⟩ := p
    unfold sDel at h
    split at h
    · exact List.mem_cons_of_mem _ (ih h)
    · simp at h; rcases h with h | h
      · simp [h]
      · simp [ih h]

omit [DecidableEq α] in
theorem rising_sIns (h : Rising l) : Rising (sIns a v l) := by
  induction l with
  | nil => simp [sIns, Rising]
  | cons p t ih =>
    obtain ⟨k, w⟩ := p
    have ⟨h1, h2⟩ := (rising_cons (l := t)).1 h
    unfold sIns
    split
    · next e =>
      refine (rising_cons (l := _)).2 ⟨fun q hq => ?_, h⟩
      simp at hq; rcases hq with hq | hq
      · subst hq; exact e
      · have := h1 q hq; simp at this ⊢; omega
    · next e1 =>
      split
      · next e => subst e; exact (rising_cons (l := _)).2 ⟨h1, h2⟩
      · next e2 =>
        refine (rising_cons (l := _)).2 ⟨fun q hq => ?_, ih h2⟩
        rcases mem_sIns t a v hq with hq | hq
        · subst hq; simp; omega
        · exact h1 q hq

omit [DecidableEq α] in
theorem rising_sDel (h : Rising l) : Rising (sDel a l) := by
  induction l with
  | nil => simpa [sDel] using h
  | cons p t ih =>
    obtain ⟨k, w⟩ := p
    have ⟨h1, h2⟩ := (rising_cons (l := t)).1 h
    unfold sDel
    split
    · exact ih h2
    · exact (rising_cons (l := _)).2 ⟨fun q hq => h1 q (mem_sDel t a hq), ih h2⟩

/-- What the canonical form says. -/
theorem sWf_iff (f : Nat → α) : sWf f l = true ↔ Rising l ∧ ∀ p ∈ l, p.2 ≠ f p.1 := by
  simp [sWf, sSorted_iff, List.all_eq_true]

/-- A write keeps the canonical form of a table with one default. -/
theorem sWf_sPut (h : sWf (fun _ => d) l = true) : sWf (fun _ => d) (sPut d l a v) = true := by
  rw [sWf_iff] at h ⊢
  unfold sPut
  split
  · exact ⟨rising_sDel l a h.1, fun p hp => h.2 p (mem_sDel l a hp)⟩
  · next e =>
    refine ⟨rising_sIns l a v h.1, fun p hp => ?_⟩
    rcases mem_sIns l a v hp with hp | hp
    · subst hp; exact e
    · exact h.2 p hp

omit [DecidableEq α] in
theorem rising_filter (p : Nat × α → Bool) (h : Rising l) : Rising (l.filter p) := by
  unfold Rising at h ⊢
  exact List.Pairwise.sublist (List.Sublist.map _ List.filter_sublist) h

/-- Leaving entries out keeps the canonical form. -/
theorem sWf_filter (f : Nat → α) (p : Nat × α → Bool) (h : sWf f l = true) : sWf f (l.filter p) = true := by
  rw [sWf_iff] at h ⊢
  exact ⟨rising_filter l p h.1, fun q hq => h.2 q (List.mem_filter.1 hq).1⟩

/-! ### Memory -/

/-- Bytes written keep the canonical form. -/
theorem memPut_wf (bs : List Byte) : ∀ (m : List Host.Cell) (a : Nat), memoryWf m = true → memoryWf (memPut m a bs) = true := by
  induction bs with
  | nil => intro m a h; exact h
  | cons x t ih => intro m a h; exact ih _ _ (sWf_sPut (0 : Byte) m a x h)

/-- A byte outside the bytes written reads as before. -/
theorem memPut_other (bs : List Byte) : ∀ (m : List Host.Cell) (a x : Nat), (x < a ∨ a + bs.length ≤ x) →
    sGet (0 : Byte) (memPut m a bs) x = sGet (0 : Byte) m x := by
  induction bs with
  | nil => intro m a x _; rfl
  | cons y t ih =>
    intro m a x h
    simp only [List.length_cons] at h
    simp only [memPut]
    rw [ih _ _ _ (by omega), sGet_sPut_other _ _ _ _ _ _ (by omega)]

/-- Byte i of the bytes written. -/
theorem memPut_same (bs : List Byte) : ∀ (m : List Host.Cell) (a i : Nat), i < bs.length →
    sGet (0 : Byte) (memPut m a bs) (a + i) = bs.getD i 0 := by
  induction bs with
  | nil => intro m a i h; simp at h
  | cons y t ih =>
    intro m a i h
    simp only [memPut]
    cases i with
    | zero =>
      rw [memPut_other t _ _ _ (by omega)]
      simpa using sGet_sPut_same (0 : Byte) m a y
    | succ k =>
      have := ih (sPut (0 : Byte) m a y) (a + 1) k (by simpa using h)
      simpa [Nat.add_assoc, Nat.add_comm 1 k] using this

/-- memWrite keeps the canonical form. -/
theorem memWrite_wf (d : Dev) (a : Nat) (bs : List Byte) (h : memoryWf d.mem = true) : memoryWf (memWrite d a bs).mem = true :=
  memPut_wf bs d.mem a h

/-- panWrite keeps the canonical form. -/
theorem panWrite_wf (d : Dev) (a : Nat) (bs : List Byte) (h : memoryWf d.mem = true) : memoryWf (panWrite d a bs).mem = true := by
  unfold panWrite reportBanks panFill
  exact memWrite_wf d _ _ h

/-- eraseMem keeps the canonical form. -/
theorem eraseMem_wf (d : Dev) (a len : Nat) (h : memoryWf d.mem = true) : memoryWf (eraseMem d a len).mem = true :=
  sWf_filter d.mem _ _ h

/-- A byte outside an erased range reads as before. -/
theorem eraseMem_other (d : Dev) (a len x : Nat) (h : x < a ∨ a + len ≤ x) : memByte (eraseMem d a len) x = memByte d x := by
  unfold memByte eraseMem
  simp only
  induction d.mem with
  | nil => rfl
  | cons p t ih =>
    obtain ⟨k, w⟩ := p
    simp only [List.filter_cons]
    split
    · simp only [sGet]; split
      · rfl
      · exact ih
    · next e =>
      have hk : x ≠ k := by
        intro e2; subst e2
        apply e; simp; omega
      simp only [sGet, if_neg hk]; exact ih

/-- A byte after memWrite, outside the bytes written. -/
theorem memByte_memWrite_other (d : Dev) (a x : Nat) (bs : List Byte) (h : x < a ∨ a + bs.length ≤ x) :
    memByte (memWrite d a bs) x = memByte d x := memPut_other bs d.mem a x h

/-- A byte after memWrite, among the bytes written. -/
theorem memByte_memWrite_same (d : Dev) (a i : Nat) (bs : List Byte) (h : i < bs.length) :
    memByte (memWrite d a bs) (a + i) = bs.getD i 0 := memPut_same bs d.mem a i h

end Sys2Proof.Machine
end

