-- ==== Sys2Proof/Laws/Ops.lean ====
section
/-! SUPPORT. Registers and the units' tables: what a read sees after a write, one lemma per shared operation. -/

namespace Sys2Proof.Machine

variable (d : Dev)

/-! ### Fixed tables -/

theorem vget_eq {α : Type} {n : Nat} [Inhabited α] (v : Vector α n) (i : Nat) (h : i < n) : vget v i = v[i] := by
  simp [vget, h]

@[simp] theorem vget_vmod_same {α : Type} {n : Nat} [Inhabited α] (v : Vector α n) (i : Nat) (f : α → α) (h : i < n) :
    vget (vmod v i f) i = f (vget v i) := by
  rw [vget_eq _ _ h, vget_eq _ _ h]; simp [vmod, h]

theorem vget_vmod_other {α : Type} {n : Nat} [Inhabited α] (v : Vector α n) (i j : Nat) (f : α → α) (h : j ≠ i) :
    vget (vmod v i f) j = vget v j := by
  unfold vmod
  split
  · by_cases hj : j < n
    · rw [vget_eq _ _ hj, vget_eq _ _ hj, Vector.getElem_set_ne]; omega
    · simp [vget, hj]
  · rfl

/-! ### Registers -/

@[simp] theorem rd_wr_same (a : Nat) (w : Word) : rd (wr d a w) a = w := sGet_sPut_same _ _ _ _

theorem rd_wr_other (a b : Nat) (w : Word) (h : b ≠ a) : rd (wr d a w) b = rd d b := by
  unfold rd wr; exact sGet_sPut_other _ _ _ _ _ _ h

@[simp] theorem get_put_same (u : UnitKind) (n o : Nat) (w : Word) : get (put d u n o w) u n o = w := rd_wr_same _ _ _

theorem get_put_other (u u' : UnitKind) (n n' o o' : Nat) (w : Word) (h : unitBase u' n' + o' ≠ unitBase u n + o) :
    get (put d u n o w) u' n' o' = get d u' n' o' := rd_wr_other _ _ _ _ h

/-- The word in force depends on the table of words alone. -/
theorem get_congr (d' : Dev) (h : d'.regs = d.regs) (u : UnitKind) (n o : Nat) : get d' u n o = get d u n o := by
  unfold get rd; rw [h]

theorem rd_congr (d' : Dev) (h : d'.regs = d.regs) (a : Nat) : rd d' a = rd d a := by unfold rd; rw [h]

theorem getF_congr (d' : Dev) (h : d'.regs = d.regs) (u : UnitKind) (n o hi lo : Nat) : getF d' u n o hi lo = getF d u n o hi lo := by
  unfold getF; rw [get_congr d d' h]

theorem getB_congr (d' : Dev) (h : d'.regs = d.regs) (u : UnitKind) (n o i : Nat) : getB d' u n o i = getB d u n o i := by
  unfold getB; rw [get_congr d d' h]

/-- A field that was set. -/
theorem getF_putF_same (u : UnitKind) (n o hi lo v : Nat) (h : lo ≤ hi) (h32 : hi < 32) :
    getF (putF d u n o hi lo v) u n o hi lo = v % 2 ^ (hi + 1 - lo) := by
  unfold getF putF; rw [get_put_same, fld_setFld_same _ _ _ _ h h32]

theorem get_putF_other (u u' : UnitKind) (n n' o o' hi lo v : Nat) (h : unitBase u' n' + o' ≠ unitBase u n + o) :
    get (putF d u n o hi lo v) u' n' o' = get d u' n' o' := get_put_other d u u' n n' o o' _ h

theorem get_stat_same (u : UnitKind) (n o m : Nat) : get (stat d u n o m) u n o = sqcEvent (get d u n o) m := get_put_same _ _ _ _ _

theorem get_stat_other (u u' : UnitKind) (n n' o o' m : Nat) (h : unitBase u' n' + o' ≠ unitBase u n + o) :
    get (stat d u n o m) u' n' o' = get d u' n' o' := get_put_other d u u' n n' o o' _ h

/-- The sequence number after an event (R369). -/
theorem sqcEvent_seq (w : Word) (m : Nat) : fld (sqcEvent w m) 31 24 = (fld w 31 24 + 1) % 256 := by
  unfold sqcEvent; exact (fld_setFld_same _ _ _ _ (by decide) (by decide)).trans rfl

/-- A count that saturates. -/
theorem getF_addSat_same (u : UnitKind) (n o hi lo k : Nat) (h : lo ≤ hi) (h32 : hi < 32) :
    getF (addSat d u n o hi lo k) u n o hi lo = min (2 ^ (hi + 1 - lo) - 1) (getF d u n o hi lo + k) := by
  unfold addSat
  rw [getF_putF_same _ _ _ _ _ _ _ h h32, Nat.mod_eq_of_lt]
  have := Nat.two_pow_pos (hi + 1 - lo)
  omega

/-- A count that wraps. -/
theorem getF_incWrap_same (u : UnitKind) (n o hi lo : Nat) (h : lo ≤ hi) (h32 : hi < 32) :
    getF (incWrap d u n o hi lo) u n o hi lo = (getF d u n o hi lo + 1) % 2 ^ (hi + 1 - lo) := by
  unfold incWrap; rw [getF_putF_same _ _ _ _ _ _ _ h h32]

/-! ### Staging (R364) -/

@[simp] theorem stagedAt_stage_same (a : Nat) (w : Word) : stagedAt (stage d a w) a = w := by
  exact sGet_sIns_same (rd d a) d.staged a w

theorem stagedAt_stage_other (a b : Nat) (w : Word) (h : b ≠ a) : stagedAt (stage d a w) b = stagedAt d b := by
  exact sGet_sIns_other (rd d b) d.staged a b w h

@[simp] theorem rd_stage (a b : Nat) (w : Word) : rd (stage d a w) b = rd d b := (rfl)

end Sys2Proof.Machine
end

