-- ==== Sys2Proof/Laws/State.lean ====
section
/-! SUPPORT. What each update of the state changes and leaves: one lemma per field per update. -/

namespace Sys2Proof.Machine

variable (s : State)

@[simp] theorem withDev_pending (d : Dev) : (withDev s d).pending = s.pending := (rfl)
@[simp] theorem withDev_sys (d : Dev) : (withDev s d).sys = s.sys := (rfl)
@[simp] theorem withDev_clock (d : Dev) : (withDev s d).clock = s.clock := (rfl)
@[simp] theorem withDev_dev (d : Dev) : (withDev s d).dev = d := (rfl)

@[simp] theorem withSys_pending (y : Sys) : (withSys s y).pending = s.pending := (rfl)
@[simp] theorem withSys_sys (y : Sys) : (withSys s y).sys = y := (rfl)
@[simp] theorem withSys_clock (y : Sys) : (withSys s y).clock = s.clock := (rfl)
@[simp] theorem withSys_dev (y : Sys) : (withSys s y).dev = s.dev := (rfl)

@[simp] theorem withPending_pending (l : List Instr) : (s.withPending l).pending = l := (rfl)
@[simp] theorem withPending_sys (l : List Instr) : (s.withPending l).sys = s.sys := (rfl)
@[simp] theorem withPending_clock (l : List Instr) : (s.withPending l).clock = s.clock := (rfl)
@[simp] theorem withPending_dev (l : List Instr) : (s.withPending l).dev = s.dev := (rfl)

@[simp] theorem passTime_pending (n : Nat) : (passTime s n).pending = s.pending := by unfold passTime; split <;> rfl
@[simp] theorem passTime_sys (n : Nat) : (passTime s n).sys = s.sys := by unfold passTime; split <;> rfl
@[simp] theorem passTime_dev (n : Nat) : (passTime s n).dev = s.dev := by unfold passTime; split <;> rfl

@[simp] theorem env_sys : s.env.sys = s.sys := (rfl)
@[simp] theorem env_clk : s.env.clk = s.clock := (rfl)
@[simp] theorem env_mode : s.env.mode = s.sys.mode := (rfl)
@[simp] theorem env_straps : s.env.straps = s.sys.straps := (rfl)
@[simp] theorem env_cycles : s.env.cycles = s.clock.cycles := (rfl)
@[simp] theorem env_now : s.env.now = s.clock.now := (rfl)

@[simp] theorem setMode_pending (m : Mode) : (setMode s m).pending = s.pending := (rfl)
@[simp] theorem setMode_clock (m : Mode) : (setMode s m).clock = s.clock := (rfl)
@[simp] theorem setMode_dev (m : Mode) : (setMode s m).dev = unitsAtMode (setMode s m).env s.sys.mode m s.dev := (rfl)
@[simp] theorem setMode_sys (m : Mode) :
    (setMode s m).sys = { s.sys with mode := m, prev := modeCode s.sys.mode, changes := (s.sys.changes + 1) % 256 } := (rfl)

/-- Two devices that agree are the same state part. -/
theorem withDev_self : withDev s s.dev = s := (rfl)

theorem withDev_withDev (d d' : Dev) : withDev (withDev s d) d' = withDev s d' := (rfl)

end Sys2Proof.Machine
end

