-- ==== Sys2Proof/Laws/Step.lean ====
section
/-! SUPPORT. A step, and how a command reaches the device: what settling a step and each way of running a unit's change can do. -/

namespace Sys2Proof.Machine

/-! ### Steps -/

/-- A step takes the command at the front. -/
theorem step_cons (s : State) (c : Instr) (l : List Instr) (h : s.pending = c :: l) : step s = exec c (s.withPending l) := by
  unfold step; rw [h]

/-- On an empty queue one time-base cycle passes. -/
theorem step_nil (s : State) (h : s.pending = []) : step s = .next (passTime s 1) := by unfold step; rw [h]

/-! ### Settling -/

/-- Nothing was asked: nothing happens. -/
theorem settle_quiet (s : State) (h : s.dev.acts = []) : settle s = s := by
  obtain ⟨p, y, c, d⟩ := s
  simp only at h
  unfold settle withDev
  simp only [h, List.foldl_nil]
  congr 1
  obtain ⟨⟩ := d
  simp only at h
  subst h; rfl

/-- After a step nothing more is asked. -/
@[simp] theorem settle_acts (s : State) : (settle s).dev.acts = [] := (rfl)

@[simp] theorem leaveIdle_pending (s : State) : (leaveIdle s).pending = s.pending := by
  unfold leaveIdle; dsimp only; split
  · split <;> simp only [setMode_pending]
  · rfl

@[simp] theorem enterMode_pending (s : State) (m : Mode) : (enterMode s m).pending = s.pending := by
  unfold enterMode enterTrain; dsimp only; split
  · split <;> simp only [setMode_pending]
  · simp only [setMode_pending]

@[simp] theorem enterFallow_pending (s : State) : (enterFallow s).pending = s.pending := by
  unfold enterFallow; simp only [withDev_pending, setMode_pending]

@[simp] theorem enterHalt_pending (s : State) : (enterHalt s).pending = s.pending := by
  unfold enterHalt; simp only [setMode_pending]

@[simp] theorem modeRequested_pending (s : State) (x : Access) (c : Nat) : (modeRequested s x c).pending = s.pending := by
  unfold modeRequested refuseMode; dsimp only
  repeat' split
  all_goals simp only [withSys_pending, withDev_pending, setMode_pending, enterFallow_pending, leaveIdle_pending]

/-- One request leaves the queue of commands alone. -/
@[simp] theorem runAct_pending (s : State) (a : Act) : (runAct s a).pending = s.pending := by
  cases a <;> simp only [runAct] <;> (repeat' split) <;>
    simp only [withSys_pending, withDev_pending, setMode_pending, enterHalt_pending, enterMode_pending, modeRequested_pending, leaveIdle_pending]

@[simp] theorem settle_pending (s : State) : (settle s).pending = s.pending := by
  have h : ∀ (l : List Act) (t : State), (l.foldl runAct t).pending = t.pending := by
    intro l
    induction l with
    | nil => intro t; rfl
    | cons a l ih => intro t; rw [List.foldl_cons, ih, runAct_pending]
  exact h _ _

@[simp] theorem devDo_pending (s : State) (f : Env → Dev → Dev) : (devDo s f).pending = s.pending := by unfold devDo; simp

@[simp] theorem unitDo_pending (s : State) (f : Env → Dev → Dev) : (unitDo s f).pending = s.pending := by unfold unitDo; split <;> simp

@[simp] theorem aonDo_pending (s : State) (f : Env → Dev → Dev) : (aonDo s f).pending = s.pending := by unfold aonDo; split <;> simp

@[simp] theorem twtDo_pending (s : State) (f : Env → Dev → Dev) : (twtDo s f).pending = s.pending := by unfold twtDo; split <;> simp

@[simp] theorem writeDo_pending (s : State) (m a : Nat) (v : Word) : (writeDo s m a v).pending = s.pending := devDo_pending _ _

@[simp] theorem readDo_pending (s : State) (m a : Nat) : (readDo s m a).pending = s.pending := devDo_pending _ _

/-! ### Compound changes, part by part (the parts are stated so that no proof unfolds a device) -/

@[simp] theorem refToCrystal_pending (s : State) : (refToCrystal s).pending = s.pending := by unfold refToCrystal; dsimp only
@[simp] theorem refToCrystal_sys (s : State) : (refToCrystal s).sys = { s.sys with crystal := true } := by unfold refToCrystal; dsimp only
@[simp] theorem refToCrystal_clock (s : State) : (refToCrystal s).clock = clockHold s.clock := by unfold refToCrystal; dsimp only
@[simp] theorem refToCrystal_dev (s : State) : (refToCrystal s).dev = refLost s.dev := by unfold refToCrystal; dsimp only

@[simp] theorem enterHalt_clock (s : State) : (enterHalt s).clock = s.clock := by unfold enterHalt; dsimp only [setMode]
@[simp] theorem enterHalt_sys (s : State) : (enterHalt s).sys =
    { s.sys with
      mode := .halt, prev := modeCode s.sys.mode, changes := (s.sys.changes + 1) % 256, halt := true, vout := false, resets := [],
      drain := false } := by unfold enterHalt; dsimp only [setMode]

/-! ### A unit's change that asks nothing of the mode machine -/

theorem devDo_quiet (s : State) (f : Env → Dev → Dev) (h : (f s.env s.dev).acts = []) : devDo s f = withDev s (f s.env s.dev) :=
  settle_quiet _ h

theorem unitDo_quiet (s : State) (f : Env → Dev → Dev) (hr : unitsRun s.sys = true) (h : (f s.env s.dev).acts = []) :
    unitDo s f = withDev s (f s.env s.dev) := by unfold unitDo; rw [if_pos hr]; exact devDo_quiet s f h

theorem aonDo_quiet (s : State) (f : Env → Dev → Dev) (hr : aonRuns s.sys = true) (h : (f s.env s.dev).acts = []) :
    aonDo s f = withDev s (f s.env s.dev) := by unfold aonDo; rw [if_pos hr]; exact devDo_quiet s f h

theorem twtDo_quiet (s : State) (f : Env → Dev → Dev) (hr : twtRuns s.sys = true) (h : (f s.env s.dev).acts = []) :
    twtDo s f = withDev s (f s.env s.dev) := by unfold twtDo; rw [if_pos hr]; exact devDo_quiet s f h

/-- A unit that does not run takes no command. -/
theorem unitDo_idle (s : State) (f : Env → Dev → Dev) (hr : unitsRun s.sys = false) : unitDo s f = s := by unfold unitDo; simp [hr]

theorem aonDo_idle (s : State) (f : Env → Dev → Dev) (hr : aonRuns s.sys = false) : aonDo s f = s := by unfold aonDo; simp [hr]

theorem twtDo_idle (s : State) (f : Env → Dev → Dev) (hr : twtRuns s.sys = false) : twtDo s f = s := by unfold twtDo; simp [hr]

/-- A unit's change that asks one thing. -/
theorem devDo_one (s : State) (f : Env → Dev → Dev) (a : Act) (h : (f s.env s.dev).acts = [a]) :
    devDo s f = withDev (runAct (withDev s (f s.env s.dev)) a) { (runAct (withDev s (f s.env s.dev)) a).dev with acts := [] } := by
  unfold devDo settle; simp [h]

end Sys2Proof.Machine
end

