-- ==== Sys2Proof/Laws/Bus.lean ====
section
/-! SUPPORT. The register crossbar: what an accepted write of a register is, and what a rejected one leaves. -/

namespace Sys2Proof.Machine

/-- A write by a master with no pair in progress, at a word address of a unit block, is a write to the register there. -/
theorem busWrite_reg (e : Env) (d : Dev) (m a : Nat) (v : Word) (u : UnitKind) (n o : Nat)
    (hp : inPan a = false) (hl : inAlias a = false) (hk : memAt a = none) (hu : unitAt a = some (u, n, o)) (ho : o < 0x2000)
    (h4 : a % 4 = 0) (hg : guardOf d m = none) (hm : modeAllows e m false a = true) :
    busWrite e d m 4 a v = regStore e d m .write a u n o v := by
  have hb : breakPair d m a true 4 = d := by
    unfold breakPair isComplement guardFail; simp [hg]
  unfold busWrite
  simp [hp, hl, hk, hu, hm, h4, hb, Nat.not_le.2 ho]

/-- A write that the register takes, of a register that is no guarded pair. -/
theorem regStore_takes (e : Env) (d : Dev) (m a : Nat) (v : Word) (u : UnitKind) (n o : Nat) (r : RegRow)
    (h1 : isReservedWord u n o = false) (h2 : isPairWord u o = false) (hr : rowAt u o = some r) (h3 : rowReadOnly r = false)
    (h4 : blockOn d u n = true) (h5 : (fenced d u n && !(decide (u = .drv) && decide (o = 0))) = false) (h6 : writeAllowed m u n o = true)
    (h7 : writeFits e d u n o v = true) (h8 : r.grd = 0) :
    regStore e d m .write a u n o v =
      (true, afterWrite e (storeBits e d m u n o r v) { master := m, kind := .write, addr := a } u n o (rd d (unitBase u n + o)) v) := by
  unfold regStore
  simp only [h1, h2, hr, h3, h4, h5, h6, h7, h8, Bool.not_true, Bool.or_false, Bool.false_eq_true, if_false, ne_eq, not_true_eq_false]

/-- A row with nothing to store: pulses and write-only fields alone. -/
theorem storeBits_pulse (e : Env) (d : Dev) (m : Nat) (u : UnitKind) (n o : Nat) (r : RegRow) (v : Word)
    (h1 : r.rw = 0) (h2 : r.rws = 0) (h3 : r.sqc = 0) (h4 : r.once = 0) : storeBits e d m u n o r v = d := by
  unfold storeBits; simp [h1, h2, h3, h4]

/-- A row of read-write bits alone. -/
theorem storeBits_rw (e : Env) (d : Dev) (m : Nat) (u : UnitKind) (n o : Nat) (r : RegRow) (v : Word)
    (h1 : r.rw ≠ 0) (h2 : r.rws = 0) (h3 : r.sqc = 0) (h4 : r.once = 0) :
    storeBits e d m u n o r v =
      wr d (unitBase u n + o) (mixBits (rd d (unitBase u n + o)) v (BitVec.ofNat 32 (rwNow d u n o r))) := by
  unfold storeBits; simp [h1, h2, h3, h4]

/-- A row of staged bits alone. -/
theorem storeBits_rws (e : Env) (d : Dev) (m : Nat) (u : UnitKind) (n o : Nat) (r : RegRow) (v : Word)
    (h1 : r.rw = 0) (h2 : r.rws ≠ 0) (h3 : r.sqc = 0) (h4 : r.once = 0) :
    storeBits e d m u n o r v =
      stage d (unitBase u n + o) (mixBits (mixBits (stagedAt d (unitBase u n + o)) v (BitVec.ofNat 32 (rwNow d u n o r))) v
        (BitVec.ofNat 32 r.rws)) := by
  unfold storeBits; simp [h1, h2, h3, h4]

/-- A sequence-clear row. -/
theorem storeBits_sqc (e : Env) (d : Dev) (m : Nat) (u : UnitKind) (n o : Nat) (r : RegRow) (v : Word)
    (h1 : r.rw = 0) (h2 : r.rws = 0) (h3 : r.sqc ≠ 0) (h4 : r.once = 0) :
    storeBits e d m u n o r v = wr d (unitBase u n + o) (sqcClear (rd d (unitBase u n + o)) v (BitVec.ofNat 32 r.sqc)) := by
  unfold storeBits; simp [h1, h2, h3, h4]

/-- A command that writes a register which takes the write: the stored bits, then the effect, then what both asked for. -/
theorem writeDo_takes (s : State) (m : Nat) (v : Word) (u : UnitKind) (n o : Nat) (r : RegRow)
    (hp : inPan (unitBase u n + o) = false) (hl : inAlias (unitBase u n + o) = false) (hk : memAt (unitBase u n + o) = none)
    (hu : unitAt (unitBase u n + o) = some (u, n, o)) (ho : o < 0x2000) (ha : (unitBase u n + o) % 4 = 0)
    (hg : guardOf s.dev m = none) (hm : modeAllows s.env m false (unitBase u n + o) = true)
    (h1 : isReservedWord u n o = false) (h2 : isPairWord u o = false) (hr : rowAt u o = some r) (h3 : rowReadOnly r = false)
    (h4 : blockOn s.dev u n = true) (h5 : (fenced s.dev u n && !(decide (u = .drv) && decide (o = 0))) = false) (h6 : writeAllowed m u n o = true)
    (h7 : writeFits s.env s.dev u n o v = true) (h8 : r.grd = 0) :
    writeDo s m (unitBase u n + o) v = devDo s (fun e d =>
      afterWrite e (storeBits e d m u n o r v) { master := m, kind := .write, addr := unitBase u n + o } u n o (rd d (unitBase u n + o)) v) := by
  unfold writeDo devDo
  simp only
  rw [busWrite_reg _ _ _ _ _ u n o hp hl hk hu ho ha hg hm, regStore_takes _ _ _ _ _ u n o r h1 h2 hr h3 h4 h5 h6 h7 h8]

/-- The same, from the named conditions of a write that is taken. -/
theorem writeDo_of (s : State) (m : Nat) (v : Word) (u : UnitKind) (n o : Nat) (r : RegRow) (h : TakesWrite s m u n o v)
    (hp : plainReg u n o = true) (hr : rowAt u o = some r) (h3 : rowReadOnly r = false) (h8 : r.grd = 0) :
    writeDo s m (unitBase u n + o) v = devDo s (fun e d =>
      afterWrite e (storeBits e d m u n o r v) { master := m, kind := .write, addr := unitBase u n + o } u n o (rd d (unitBase u n + o)) v) := by
  unfold plainReg at hp
  simp only [Bool.and_eq_true, Bool.not_eq_true', decide_eq_true_eq, Option.isNone_iff_eq_none] at hp
  obtain ⟨⟨⟨⟨⟨⟨⟨a1, a2⟩, a3⟩, a4⟩, a5⟩, a6⟩, a7⟩, a8⟩ := hp
  obtain ⟨mode, pair, on, fence, master, fits, -⟩ := h
  exact writeDo_takes s m v u n o r a1 a2 a3 a4 a5 a6 pair mode a7 a8 hr h3 on fence master fits h8

end Sys2Proof.Machine
end

