-- ==== Sys2Proof/Laws/Exec.lean ====
section
/-! SUPPORT. What a command can do to the state: one lemma for all 236 commands, which later proofs cite instead of unfolding the dispatch. -/

namespace Sys2Proof.Machine

/-- The ways in which most commands act: time passes and a part of the device changes, with what it asks for. -/
inductive Ran (s : State) : State → Prop where
  | same : Ran s s
  | time (n : Nat) : Ran s (passTime s n)
  | dev (f : Env → Dev → Dev) : Ran s (devDo s f)
  | unit (f : Env → Dev → Dev) : Ran s (unitDo s f)
  | aon (f : Env → Dev → Dev) : Ran s (aonDo s f)
  | twt (f : Env → Dev → Dev) : Ran s (twtDo s f)
  | timeDev (n : Nat) (f : Env → Dev → Dev) : Ran s (devDo (passTime s n) f)
  | timeUnit (n : Nat) (f : Env → Dev → Dev) : Ran s (unitDo (passTime s n) f)
  | timeAon (n : Nat) (f : Env → Dev → Dev) : Ran s (aonDo (passTime s n) f)
  | unitThenWrite (f : Env → Dev → Dev) (m a : Nat) (v : Word) : Ran s (writeDo (unitDo s f) m a v)

/-- The commands that change the mode machine by themselves. -/
def changesSys (c : Instr) : Bool :=
  match c with
  | .lineupStart | .lineupComplete _ _ _ | .linePowerLost | .haltLatchClear | .idleDrainComplete | .wakeN | .resetNAssert
  | .resetNRelease | .deviceReset | .refSwitchRecovered | .refSwitchCrystal => true
  | _ => false

/-- A conditional command acts or does nothing. -/
theorem Ran.either {s t u : State} {p : Prop} [Decidable p] (h : Ran s t) (k : Ran s u) : Ran s (if p then t else u) := by
  split
  · exact h
  · exact k

theorem Ran.idleApply (s : State) (u : IdleUnit) : Ran s (idleApply s u) := by
  cases u <;> first | exact .aon _ | exact .unit _

/-- Every command answers a next state, and all but the eleven that change the mode machine by themselves act in one of these ways. -/
theorem exec_ran (c : Instr) (s : State) (h : changesSys c = false) : ∃ t, exec c s = .next t ∧ Ran s t := by
  cases c with
  | lineupStart => exact Bool.noConfusion h
  | lineupComplete _ _ _ => exact Bool.noConfusion h
  | lineRange _ _ => exact ⟨_, rfl, .aon _⟩
  | shutdownWarning _ _ => exact ⟨_, rfl, .aon _⟩
  | lineFault _ _ => exact ⟨_, rfl, .aon _⟩
  | linePowerLost => exact Bool.noConfusion h
  | haltLatchClear => exact Bool.noConfusion h
  | modeRequestRun _ => exact ⟨_, rfl, .dev _⟩
  | modeRequestIdle _ => exact ⟨_, rfl, .dev _⟩
  | modeRequestFallow _ => exact ⟨_, rfl, .dev _⟩
  | modeRequestDiag _ => exact ⟨_, rfl, .dev _⟩
  | modeRequestLeaveIdle _ => exact ⟨_, rfl, .dev _⟩
  | idleDrainComplete => exact Bool.noConfusion h
  | idleDrainTimeout => exact ⟨_, rfl, .either (.unit _) (.same)⟩
  | wakeN => exact Bool.noConfusion h
  | resetNAssert => exact Bool.noConfusion h
  | resetNRelease => exact Bool.noConfusion h
  | deviceReset => exact Bool.noConfusion h
  | treeIdSet _ _ => exact ⟨_, rfl, .dev _⟩
  | idleUnitApply _ => exact ⟨_, rfl, .idleApply _ _⟩
  | refSwitchRecovered => exact Bool.noConfusion h
  | refSwitchCrystal => exact Bool.noConfusion h
  | pllLockLost => exact ⟨_, rfl, .aon _⟩
  | frameStartPacket _ _ _ _ => exact ⟨_, rfl, .timeUnit _ _⟩
  | frameEndPacket _ _ _ => exact ⟨_, rfl, .unit _⟩
  | imageLineReceived _ _ _ _ _ _ _ => exact ⟨_, rfl, .unit _⟩
  | embeddedLineReceived _ _ _ _ _ => exact ⟨_, rfl, .unit _⟩
  | shortPacketIgnored _ _ _ _ => exact ⟨_, rfl, .unit _⟩
  | hsTimeout _ => exact ⟨_, rfl, .unit _⟩
  | portResetDone _ => exact ⟨_, rfl, .unit _⟩
  | csiEnable _ _ _ => exact ⟨_, rfl, .either (.same) (.dev _)⟩
  | csiDisable _ _ _ => exact ⟨_, rfl, .either (.dev _) (.same)⟩
  | csiPortReset _ _ => exact ⟨_, rfl, .dev _⟩
  | csiClearCounters _ _ => exact ⟨_, rfl, .dev _⟩
  | frameTimeout _ => exact ⟨_, rfl, .unit _⟩
  | epochMark _ _ _ => exact ⟨_, rfl, .dev _⟩
  | epochWriteRegistered _ _ => exact ⟨_, rfl, .timeUnit _ _⟩
  | inlineRowReady _ _ => exact ⟨_, rfl, .unit _⟩
  | pipeRowDone _ => exact ⟨_, rfl, .unit _⟩
  | stripeDone _ => exact ⟨_, rfl, .unit _⟩
  | pipeTtPeriodStart _ => exact ⟨_, rfl, .unit _⟩
  | pipeSlotBoundary _ => exact ⟨_, rfl, .unit _⟩
  | slotSwapDone _ => exact ⟨_, rfl, .unit _⟩
  | waystationRestoreDone _ => exact ⟨_, rfl, .unit _⟩
  | waystationSaveDone _ => exact ⟨_, rfl, .unit _⟩
  | tollVisit _ _ _ _ => exact ⟨_, rfl, .unit _⟩
  | panScrub _ _ => exact ⟨_, rfl, .unit _⟩
  | harvestRecordWrite _ => exact ⟨_, rfl, .unit _⟩
  | viewLineWrite _ => exact ⟨_, rfl, .unit _⟩
  | shedStep => exact ⟨_, rfl, .unit _⟩
  | tapArm _ _ => exact ⟨_, rfl, .dev _⟩
  | tapDisarm _ _ => exact ⟨_, rfl, .dev _⟩
  | add _ => exact ⟨_, rfl, .unit _⟩
  | sub _ => exact ⟨_, rfl, .unit _⟩
  | and _ => exact ⟨_, rfl, .unit _⟩
  | or _ => exact ⟨_, rfl, .unit _⟩
  | xor _ => exact ⟨_, rfl, .unit _⟩
  | shl _ => exact ⟨_, rfl, .unit _⟩
  | shr _ => exact ⟨_, rfl, .unit _⟩
  | sra _ => exact ⟨_, rfl, .unit _⟩
  | mul _ => exact ⟨_, rfl, .unit _⟩
  | mulh _ => exact ⟨_, rfl, .unit _⟩
  | jr _ => exact ⟨_, rfl, .unit _⟩
  | addi _ => exact ⟨_, rfl, .unit _⟩
  | lui _ => exact ⟨_, rfl, .unit _⟩
  | ldB _ => exact ⟨_, rfl, .unit _⟩
  | ldH _ => exact ⟨_, rfl, .unit _⟩
  | ldW _ => exact ⟨_, rfl, .unit _⟩
  | stB _ => exact ⟨_, rfl, .unit _⟩
  | stH _ => exact ⟨_, rfl, .unit _⟩
  | stW _ => exact ⟨_, rfl, .unit _⟩
  | loadResponse _ => exact ⟨_, rfl, .unit _⟩
  | storeResponse _ _ => exact ⟨_, rfl, .unit _⟩
  | beq _ => exact ⟨_, rfl, .unit _⟩
  | bne _ => exact ⟨_, rfl, .unit _⟩
  | blt _ => exact ⟨_, rfl, .unit _⟩
  | bge _ => exact ⟨_, rfl, .unit _⟩
  | bltu _ => exact ⟨_, rfl, .unit _⟩
  | jal _ => exact ⟨_, rfl, .unit _⟩
  | wait _ => exact ⟨_, rfl, .unit _⟩
  | waitPoll _ => exact ⟨_, rfl, .unit _⟩
  | waitWake _ => exact ⟨_, rfl, .unit _⟩
  | stageT _ => exact ⟨_, rfl, .unit _⟩
  | stage _ => exact ⟨_, rfl, .unit _⟩
  | commit _ => exact ⟨_, rfl, .unit _⟩
  | post _ => exact ⟨_, rfl, .unit _⟩
  | send _ => exact ⟨_, rfl, .unit _⟩
  | recv _ => exact ⟨_, rfl, .unit _⟩
  | arm _ => exact ⟨_, rfl, .unit _⟩
  | disarm _ => exact ⟨_, rfl, .unit _⟩
  | timeSnapshot _ _ => exact ⟨_, rfl, .timeUnit _ _⟩
  | timeRead _ => exact ⟨_, rfl, .unit _⟩
  | fence _ => exact ⟨_, rfl, .unit _⟩
  | trap _ => exact ⟨_, rfl, .unit _⟩
  | halt _ => exact ⟨_, rfl, .unit _⟩
  | droverEventPending _ => exact ⟨_, rfl, .unit _⟩
  | drvWatchdogExpire _ _ => exact ⟨_, rfl, .unit _⟩
  | compareMatch _ _ => exact ⟨_, rfl, .timeAon _ _⟩
  | controlCycleEvent _ _ => exact ⟨_, rfl, .timeAon _ _⟩
  | drvReset _ _ => exact ⟨_, rfl, .dev _⟩
  | drvHalt _ _ => exact ⟨_, rfl, .dev _⟩
  | drvRun _ _ => exact ⟨_, rfl, .dev _⟩
  | laneLocked _ _ _ => exact ⟨_, rfl, .unit _⟩
  | laneLockLost _ => exact ⟨_, rfl, .unit _⟩
  | milestoneSend _ => exact ⟨_, rfl, .unit _⟩
  | milestoneReceived _ _ _ => exact ⟨_, rfl, .unit _⟩
  | idleBlockReceived _ _ _ => exact ⟨_, rfl, .unit _⟩
  | mapFragmentReceived _ _ _ => exact ⟨_, rfl, .unit _⟩
  | identityReceived _ _ => exact ⟨_, rfl, .unit _⟩
  | trainBlockReceived _ _ _ => exact ⟨_, rfl, .unit _⟩
  | packetHoldEnd => exact ⟨_, rfl, .unit _⟩
  | packetHeadReceived _ _ _ _ => exact ⟨_, rfl, .timeUnit _ _⟩
  | packetDataBlock _ _ _ => exact ⟨_, rfl, .unit _⟩
  | packetEndReceived _ _ _ => exact ⟨_, rfl, .unit _⟩
  | regrd => exact ⟨_, rfl, .unit _⟩
  | regwr => exact ⟨_, rfl, .unit _⟩
  | burstrd => exact ⟨_, rfl, .unit _⟩
  | burstwr => exact ⟨_, rfl, .unit _⟩
  | download => exact ⟨_, rfl, .unit _⟩
  | mailbox => exact ⟨_, rfl, .unit _⟩
  | ttstage => exact ⟨_, rfl, .unit _⟩
  | grant => exact ⟨_, rfl, .unit _⟩
  | notice => exact ⟨_, rfl, .unit _⟩
  | query => exact ⟨_, rfl, .unit _⟩
  | reset => exact ⟨_, rfl, .unit _⟩
  | trunkSlot _ _ => exact ⟨_, rfl, .timeUnit _ _⟩
  | ttEpochStart => exact ⟨_, rfl, .unit _⟩
  | trainingAttemptTimeout _ => exact ⟨_, rfl, .unit _⟩
  | ctleStepTimeout _ => exact ⟨_, rfl, .unit _⟩
  | fomWindow _ _ _ _ _ => exact ⟨_, rfl, .unit _⟩
  | signalDetect _ => exact ⟨_, rfl, .unit _⟩
  | signalLost _ => exact ⟨_, rfl, .unit _⟩
  | relockTimeout _ => exact ⟨_, rfl, .unit _⟩
  | partnerLockTimeout _ => exact ⟨_, rfl, .unit _⟩
  | listenBurst => exact ⟨_, rfl, .unit _⟩
  | listenBurstEnd => exact ⟨_, rfl, .unit _⟩
  | retrain _ _ => exact ⟨_, rfl, .dev _⟩
  | eidlePacketTimeout _ => exact ⟨_, rfl, .unit _⟩
  | rakeBurstReceived _ _ => exact ⟨_, rfl, .unit _⟩
  | wakeTimeout _ => exact ⟨_, rfl, .unit _⟩
  | laneTestMode _ _ _ => exact ⟨_, rfl, .dev _⟩
  | laneTestInject _ _ => exact ⟨_, rfl, .dev _⟩
  | laneTestSnap _ _ _ => exact ⟨_, rfl, .unitThenWrite _ _ _ _⟩
  | laneTestClear _ _ => exact ⟨_, rfl, .dev _⟩
  | farEndLoopApply => exact ⟨_, rfl, .unit _⟩
  | farEndLoopTimeout => exact ⟨_, rfl, .unit _⟩
  | timeAddend _ _ => exact ⟨_, rfl, .dev _⟩
  | timeStep _ => exact ⟨_, rfl, .dev _⟩
  | holdoverSet _ => exact ⟨_, rfl, .dev _⟩
  | holdoverClear _ => exact ⟨_, rfl, .dev _⟩
  | timeSnapNs _ _ => exact ⟨_, rfl, .timeDev _ _⟩
  | tsqPop _ _ => exact ⟨_, rfl, .dev _⟩
  | triggerFire _ _ => exact ⟨_, rfl, .timeAon _ _⟩
  | triggerPulseEnd _ => exact ⟨_, rfl, .aon _⟩
  | captureEdge _ _ _ _ => exact ⟨_, rfl, .timeAon _ _⟩
  | captureStuck _ => exact ⟨_, rfl, .aon _⟩
  | capturePop _ _ => exact ⟨_, rfl, .dev _⟩
  | registerWrite _ _ _ _ => exact ⟨_, rfl, .dev _⟩
  | sqcClear _ _ _ => exact ⟨_, rfl, .either (.dev _) (.same)⟩
  | onceWrite _ _ => exact ⟨_, rfl, .dev _⟩
  | guardedValueWrite _ _ _ => exact ⟨_, rfl, .either (.dev _) (.same)⟩
  | guardedComplementWrite _ _ _ => exact ⟨_, rfl, .either (.dev _) (.same)⟩
  | guardWindowExpire _ => exact ⟨_, rfl, .aon _⟩
  | bitAliasWrite _ _ _ _ => exact ⟨_, rfl, .dev _⟩
  | faultRegister _ _ => exact ⟨_, rfl, .timeAon _ _⟩
  | faultForce _ _ _ => exact ⟨_, rfl, .dev _⟩
  | faultAck _ _ => exact ⟨_, rfl, .dev _⟩
  | unitReset _ _ => exact ⟨_, rfl, .dev _⟩
  | unitReturn _ _ => exact ⟨_, rfl, .dev _⟩
  | forcedClear _ => exact ⟨_, rfl, .dev _⟩
  | firstClear _ => exact ⟨_, rfl, .dev _⟩
  | ledgerAdvance _ _ => exact ⟨_, rfl, .dev _⟩
  | heartbeat _ _ => exact ⟨_, rfl, .dev _⟩
  | heartbeatMissed _ => exact ⟨_, rfl, .either (.time _) (.timeAon _ _)⟩
  | twtAddress _ _ => exact ⟨_, rfl, .twt _⟩
  | setptr _ _ => exact ⟨_, rfl, .twt _⟩
  | rd32 _ _ => exact ⟨_, rfl, .twt _⟩
  | wr32 _ _ => exact ⟨_, rfl, .twt _⟩
  | blkrd _ _ => exact ⟨_, rfl, .twt _⟩
  | blkwr _ _ => exact ⟨_, rfl, .twt _⟩
  | status _ _ => exact ⟨_, rfl, .twt _⟩
  | lasterr _ _ => exact ⟨_, rfl, .twt _⟩
  | mbpush _ _ => exact ⟨_, rfl, .twt _⟩
  | mbpop _ _ => exact ⟨_, rfl, .twt _⟩
  | nop _ _ => exact ⟨_, rfl, .twt _⟩
  | twtLegacyTransaction _ _ => exact ⟨_, rfl, .twt _⟩
  | twtWritePhaseEnd _ _ => exact ⟨_, rfl, .twt _⟩
  | twtAbort => exact ⟨_, rfl, .twt _⟩
  | twtReadLate => exact ⟨_, rfl, .twt _⟩
  | twtSdaRelease => exact ⟨_, rfl, .twt _⟩
  | busFree _ => exact ⟨_, rfl, .either (.twt _) (.unit _)⟩
  | twsSubmit _ _ _ => exact ⟨_, rfl, .dev _⟩
  | twsTransactionStart _ _ => exact ⟨_, rfl, .timeUnit _ _⟩
  | twsTransactionEnd _ _ _ _ => exact ⟨_, rfl, .unit _⟩
  | twsRetryTimer _ => exact ⟨_, rfl, .unit _⟩
  | arbitrationLost _ => exact ⟨_, rfl, .unit _⟩
  | twsStretchTimeout _ => exact ⟨_, rfl, .unit _⟩
  | twsBusRecovery _ => exact ⟨_, rfl, .unit _⟩
  | twsRecoveryDone _ _ => exact ⟨_, rfl, .unit _⟩
  | twsFlush _ _ => exact ⟨_, rfl, .dev _⟩
  | twsDonePop _ _ => exact ⟨_, rfl, .dev _⟩
  | twsWindowOpen _ _ => exact ⟨_, rfl, .timeUnit _ _⟩
  | twsWindowClose _ _ => exact ⟨_, rfl, .timeUnit _ _⟩
  | bootTableRead _ _ => exact ⟨_, rfl, .unit _⟩
  | verifyDone _ => exact ⟨_, rfl, .unit _⟩
  | loadDone => exact ⟨_, rfl, .unit _⟩
  | diagAutoAck _ => exact ⟨_, rfl, .unit _⟩
  | secVerify _ => exact ⟨_, rfl, .dev _⟩
  | secRecord _ => exact ⟨_, rfl, .dev _⟩
  | secAttest _ => exact ⟨_, rfl, .dev _⟩
  | attestPrepared => exact ⟨_, rfl, .unit _⟩
  | attestDone => exact ⟨_, rfl, .unit _⟩
  | headProbe _ => exact ⟨_, rfl, .unit _⟩
  | headProbeDone _ _ => exact ⟨_, rfl, .unit _⟩
  | headCertDone _ => exact ⟨_, rfl, .unit _⟩
  | headCounterHour _ _ => exact ⟨_, rfl, .aon _⟩
  | headTempExpire _ => exact ⟨_, rfl, .aon _⟩
  | powerApply _ => exact ⟨_, rfl, .dev _⟩
  | domainOn => exact ⟨_, rfl, .unit _⟩
  | grantEnforce => exact ⟨_, rfl, .aon _⟩
  | feedDetectDone _ _ => exact ⟨_, rfl, .unit _⟩
  | feedDetectRetry _ => exact ⟨_, rfl, .unit _⟩
  | feedRampDone _ => exact ⟨_, rfl, .unit _⟩
  | feedHoldDone _ _ _ => exact ⟨_, rfl, .unit _⟩
  | feedOvercurrent _ _ _ => exact ⟨_, rfl, .unit _⟩
  | feedBackoffDone _ => exact ⟨_, rfl, .unit _⟩
  | thermalSample _ => exact ⟨_, rfl, .aon _⟩
  | thermalTrip => exact ⟨_, rfl, .aon _⟩
  | thermPeakClear _ => exact ⟨_, rfl, .dev _⟩
  | illegalInstruction _ => exact ⟨_, rfl, .unit _⟩
  | drvEvovrRead _ _ => exact ⟨_, rfl, .dev _⟩
  | checkerLocked _ _ => exact ⟨_, rfl, .unit _⟩
  | checkerLockLost _ _ => exact ⟨_, rfl, .unit _⟩
  | feederReturnBlock _ _ => exact ⟨_, rfl, .timeUnit _ _⟩
  | qspiProgramDone => exact ⟨_, rfl, .unit _⟩
  | lanePllLock => exact ⟨_, rfl, .unit _⟩

end Sys2Proof.Machine
end

