-- ==== Sys2Proof/Laws/Hash.lean ====
section
/-! SUPPORT. SHA-256 and the chains of LM-OTS: lengths, and chains that go on where others end. -/

namespace Sys2Proof.Machine

@[simp] theorem leBytes_length : ∀ (n v : Nat), (leBytes n v).length = n
  | 0, _ => rfl
  | n + 1, v => congrArg (· + 1) (leBytes_length n (v / 256))

@[simp] theorem beBytes_length (n v : Nat) : (beBytes n v).length = n := by simp [beBytes]

/-- A hash has 32 bytes. -/
@[simp] theorem sha256_length (l : List Byte) : (sha256 l).length = 32 := by
  unfold sha256
  simp

/-- A chain of m + n hashes is one of n after one of m. -/
theorem otsChain_add (pre : List Byte) : ∀ (m n j : Nat) (t : List Byte),
    otsChain pre (m + n) j t = otsChain pre n (j + m) (otsChain pre m j t)
  | 0, n, j, t => by simp [otsChain]
  | m + 1, n, j, t => by
    rw [Nat.succ_add_eq_add_succ, Nat.add_succ, otsChain, otsChain_add pre m n, otsChain, Nat.add_assoc j 1 m, Nat.add_comm 1 m]

end Sys2Proof.Machine
end

