-- ==== Sys2Proof/Laws/Memory.lean ====
section
/-! SUPPORT. The canonical form of memory and OTP: State.reset has it, and a device reset and the blowing of a bit keep it. -/

namespace Sys2Proof.Machine

/-- The memory of State.reset is in canonical form. -/
theorem reset_memory_wf : memoryWf State.reset.dev.mem = true := by decide +kernel

/-- The effective profile follows without touching memory. -/
theorem profileFollow_mem (d : Dev) : (profileFollow d).mem = d.mem := by
  unfold profileFollow
  exact putF_mem _ _ _ _ _ _ _

/-- Steps that leave memory alone leave it alone one after the other. -/
theorem foldl_mem (f : Dev → Nat → Dev) (h : ∀ d g, (f d g).mem = d.mem) : ∀ (l : List Nat) (d : Dev), (l.foldl f d).mem = d.mem
  | [], _ => rfl
  | g :: l, d => (foldl_mem f h l (f d g)).trans (h d g)

/-- Two devices with one memory. -/
theorem ite_mem {p : Prop} [Decidable p] {a b : Dev} {m : List Host.Cell} (ha : a.mem = m) (hb : b.mem = m) : (if p then a else b).mem = m := by
  split
  · exact ha
  · exact hb

/-- The identity registers are no memory. -/
theorem takeId_mem (d : Dev) (id tree : Nat) : (takeId d id tree).mem = d.mem := by
  unfold takeId
  exact ite_mem ((act_mem _ _).trans (put_mem _ _ _ _ _)) (ite_mem (put_mem _ _ _ _ _) ((foldl_mem _ (fun d g => ite_mem (onGroup_mem _ _ _) rfl) _ _).trans (put_mem _ _ _ _ _)))

/-- The strap registers are no memory. -/
theorem strapRegs_mem (d : Dev) (s : Straps) : (strapRegs d s).mem = d.mem := by
  have h : (put (put d .feeder 0 0 (feederConfig s.trunk)) .feeder 1 0 (feederConfig s.trunk)).mem = d.mem := by
    rw [put_mem, put_mem]
  have k : (if s.role = 0 then takeId (put (put d .feeder 0 0 (feederConfig s.trunk)) .feeder 1 0 (feederConfig s.trunk)) 0 0
      else put (put d .feeder 0 0 (feederConfig s.trunk)) .feeder 1 0 (feederConfig s.trunk)).mem = d.mem :=
    ite_mem ((takeId_mem _ _ _).trans h) h
  unfold strapRegs
  exact ite_mem ((stat_mem _ _ _ _ _).trans k) k

/-- A class that comes into force is no memory. -/
theorem settleGrant_mem (d : Dev) : (settleGrant d).mem = d.mem := by
  unfold settleGrant classForce
  split
  · exact ite_mem ((onPower_mem _ _).trans (putF_mem _ _ _ _ _ _ _)) rfl
  · rfl

/-- A verdict that a reset leaves is no memory. -/
theorem headAbsent_mem (d : Dev) (c : Nat) : (headAbsent d c).mem = d.mem := by
  unfold headAbsent headShown
  exact ite_mem (onHead_mem _ _ _) (((report_mem _ _).trans (raise_mem _ _)).trans ((stat_mem _ _ _ _ _).trans (onHead_mem _ _ _)))

/-- A device reset drops the bytes that R407 does not keep, and changes no other. -/
theorem resetDev_mem (d : Dev) (s : Straps) (cycles cause : Nat) :
    (resetDev d s cycles cause).mem = d.mem.filter (fun p => !(lostAtReset p.1)) := by
  unfold resetDev forN
  rw [settleGrant_mem, foldl_mem _ (fun x c => ite_mem (headAbsent_mem x c) rfl), profileFollow_mem, strapRegs_mem, put_mem]

/-- A device reset keeps the canonical form. -/
theorem resetDev_mem_wf (d : Dev) (s : Straps) (cycles cause : Nat) (h : memoryWf d.mem = true) :
    memoryWf (resetDev d s cycles cause).mem = true := by
  rw [resetDev_mem]
  exact sWf_filter d.mem _ _ h

/-- Blowing a bit keeps the canonical form of OTP. -/
theorem otpBlow_wf (d : Dev) (a i : Nat) (h : sWf (fun _ => (0 : Byte)) d.otp = true) : sWf (fun _ => (0 : Byte)) (otpBlow d a i).otp = true :=
  sWf_sPut (0 : Byte) d.otp _ _ h

end Sys2Proof.Machine
end

