-- ==== Sys2Proof/Laws/PerInstr.lean ====
section
/-! SUPPORT. One lemma for each command on its shape: a command whose operands need no check is well-formed whatever they are. -/

namespace Sys2Proof.Laws.Shape

open Sys2Proof.Machine

/-- The commands whose operands are checked before they are sent (Sys2Proof/WellFormed.lean). -/
def checked (c : Instr) : Bool :=
  match c with
  | .lineupComplete .. | .lineRange .. | .shutdownWarning .. | .lineFault .. | .milestoneReceived .. | .idleBlockReceived ..
  | .mapFragmentReceived .. | .identityReceived .. | .trainBlockReceived .. | .packetHeadReceived .. | .packetDataBlock ..
  | .packetEndReceived .. | .rakeBurstReceived .. | .registerWrite .. | .sqcClear .. | .guardedValueWrite .. | .guardedComplementWrite ..
  | .bitAliasWrite .. | .setptr .. | .rd32 .. | .wr32 .. | .blkrd .. | .blkwr .. | .status .. | .lasterr .. | .mbpush .. | .mbpop ..
  | .nop .. | .twtLegacyTransaction .. | .arbitrationLost .. | .twsStretchTimeout .. | .headProbeDone .. | .feedHoldDone ..
  | .feedOvercurrent .. => true
  | _ => false

/-- A command without a check is well-formed. -/
def Statement (c : Instr) : Prop := checked c = false → c.wf = true

theorem lineupStart : Statement (.lineupStart) := fun _ => rfl
theorem lineupComplete (straps : Straps) (volts : Nat) (ma : Nat) : Statement (.lineupComplete straps volts ma) := (nomatch ·)
theorem lineRange (volts : Nat) (ma : Nat) : Statement (.lineRange volts ma) := (nomatch ·)
theorem shutdownWarning (volts : Nat) (ma : Nat) : Statement (.shutdownWarning volts ma) := (nomatch ·)
theorem lineFault (volts : Nat) (ma : Nat) : Statement (.lineFault volts ma) := (nomatch ·)
theorem linePowerLost : Statement (.linePowerLost) := fun _ => rfl
theorem haltLatchClear : Statement (.haltLatchClear) := fun _ => rfl
theorem modeRequestRun (master : Fin 7) : Statement (.modeRequestRun master) := fun _ => rfl
theorem modeRequestIdle (master : Fin 7) : Statement (.modeRequestIdle master) := fun _ => rfl
theorem modeRequestFallow (master : Fin 7) : Statement (.modeRequestFallow master) := fun _ => rfl
theorem modeRequestDiag (master : Fin 7) : Statement (.modeRequestDiag master) := fun _ => rfl
theorem modeRequestLeaveIdle (master : Fin 7) : Statement (.modeRequestLeaveIdle master) := fun _ => rfl
theorem idleDrainComplete : Statement (.idleDrainComplete) := fun _ => rfl
theorem idleDrainTimeout : Statement (.idleDrainTimeout) := fun _ => rfl
theorem wakeN : Statement (.wakeN) := fun _ => rfl
theorem resetNAssert : Statement (.resetNAssert) := fun _ => rfl
theorem resetNRelease : Statement (.resetNRelease) := fun _ => rfl
theorem deviceReset : Statement (.deviceReset) := fun _ => rfl
theorem treeIdSet (master : Fin 7) (v : Byte) : Statement (.treeIdSet master v) := fun _ => rfl
theorem idleUnitApply (unit : IdleUnit) : Statement (.idleUnitApply unit) := fun _ => rfl
theorem refSwitchRecovered : Statement (.refSwitchRecovered) := fun _ => rfl
theorem refSwitchCrystal : Statement (.refSwitchCrystal) := fun _ => rfl
theorem pllLockLost : Statement (.pllLockLost) := fun _ => rfl
theorem frameStartPacket (port : Fin 8) (vc : Fin 16) (header : Header) (dt : Nat) : Statement (.frameStartPacket port vc header dt) := fun _ => rfl
theorem frameEndPacket (port : Fin 8) (vc : Fin 16) (header : Header) : Statement (.frameEndPacket port vc header) := fun _ => rfl
theorem imageLineReceived (port : Fin 8) (vc : Fin 16) (dataType : Fin 64) (header : Header) (payload : List Byte) (crcOk : Bool) (overflow : Bool) : Statement (.imageLineReceived port vc dataType header payload crcOk overflow) := fun _ => rfl
theorem embeddedLineReceived (port : Fin 8) (vc : Fin 16) (header : Header) (payload : List Byte) (crcOk : Bool) : Statement (.embeddedLineReceived port vc header payload crcOk) := fun _ => rfl
theorem shortPacketIgnored (port : Fin 8) (vc : Fin 16) (dataType : Fin 64) (header : Header) : Statement (.shortPacketIgnored port vc dataType header) := fun _ => rfl
theorem hsTimeout (port : Fin 8) : Statement (.hsTimeout port) := fun _ => rfl
theorem portResetDone (port : Fin 8) : Statement (.portResetDone port) := fun _ => rfl
theorem csiEnable (port : Fin 8) (master : Fin 7) (v : Word) : Statement (.csiEnable port master v) := fun _ => rfl
theorem csiDisable (port : Fin 8) (master : Fin 7) (v : Word) : Statement (.csiDisable port master v) := fun _ => rfl
theorem csiPortReset (port : Fin 8) (master : Fin 7) : Statement (.csiPortReset port master) := fun _ => rfl
theorem csiClearCounters (port : Fin 8) (master : Fin 7) : Statement (.csiClearCounters port master) := fun _ => rfl
theorem frameTimeout (ctx : Fin 16) : Statement (.frameTimeout ctx) := fun _ => rfl
theorem epochMark (ctx : Fin 16) (master : Fin 7) (v : Word) : Statement (.epochMark ctx master v) := fun _ => rfl
theorem epochWriteRegistered (ctx : Fin 16) (dt : Nat) : Statement (.epochWriteRegistered ctx dt) := fun _ => rfl
theorem inlineRowReady (pipe : Fin 4) (turnaround : Bool) : Statement (.inlineRowReady pipe turnaround) := fun _ => rfl
theorem pipeRowDone (pipe : Fin 4) : Statement (.pipeRowDone pipe) := fun _ => rfl
theorem stripeDone (pipe : Fin 4) : Statement (.stripeDone pipe) := fun _ => rfl
theorem pipeTtPeriodStart (pipe : Fin 4) : Statement (.pipeTtPeriodStart pipe) := fun _ => rfl
theorem pipeSlotBoundary (pipe : Fin 4) : Statement (.pipeSlotBoundary pipe) := fun _ => rfl
theorem slotSwapDone (pipe : Fin 4) : Statement (.slotSwapDone pipe) := fun _ => rfl
theorem waystationRestoreDone (pipe : Fin 4) : Statement (.waystationRestoreDone pipe) := fun _ => rfl
theorem waystationSaveDone (pipe : Fin 4) : Statement (.waystationSaveDone pipe) := fun _ => rfl
theorem tollVisit (bank : Fin 8) (t : Nat) (busy : Option (Fin 524288)) (corrected : Bool) : Statement (.tollVisit bank t busy corrected) := fun _ => rfl
theorem panScrub (line : Fin 524288) (found : Fin 3) : Statement (.panScrub line found) := fun _ => rfl
theorem harvestRecordWrite (ctx : Fin 16) : Statement (.harvestRecordWrite ctx) := fun _ => rfl
theorem viewLineWrite (view : Fin 32) : Statement (.viewLineWrite view) := fun _ => rfl
theorem shedStep : Statement (.shedStep) := fun _ => rfl
theorem tapArm (chan : Fin 4) (master : Fin 7) : Statement (.tapArm chan master) := fun _ => rfl
theorem tapDisarm (chan : Fin 4) (master : Fin 7) : Statement (.tapDisarm chan master) := fun _ => rfl
theorem add (n : Fin 4) : Statement (.add n) := fun _ => rfl
theorem sub (n : Fin 4) : Statement (.sub n) := fun _ => rfl
theorem and (n : Fin 4) : Statement (.and n) := fun _ => rfl
theorem or (n : Fin 4) : Statement (.or n) := fun _ => rfl
theorem xor (n : Fin 4) : Statement (.xor n) := fun _ => rfl
theorem shl (n : Fin 4) : Statement (.shl n) := fun _ => rfl
theorem shr (n : Fin 4) : Statement (.shr n) := fun _ => rfl
theorem sra (n : Fin 4) : Statement (.sra n) := fun _ => rfl
theorem mul (n : Fin 4) : Statement (.mul n) := fun _ => rfl
theorem mulh (n : Fin 4) : Statement (.mulh n) := fun _ => rfl
theorem jr (n : Fin 4) : Statement (.jr n) := fun _ => rfl
theorem addi (n : Fin 4) : Statement (.addi n) := fun _ => rfl
theorem lui (n : Fin 4) : Statement (.lui n) := fun _ => rfl
theorem ldB (n : Fin 4) : Statement (.ldB n) := fun _ => rfl
theorem ldH (n : Fin 4) : Statement (.ldH n) := fun _ => rfl
theorem ldW (n : Fin 4) : Statement (.ldW n) := fun _ => rfl
theorem stB (n : Fin 4) : Statement (.stB n) := fun _ => rfl
theorem stH (n : Fin 4) : Statement (.stH n) := fun _ => rfl
theorem stW (n : Fin 4) : Statement (.stW n) := fun _ => rfl
theorem loadResponse (n : Fin 4) : Statement (.loadResponse n) := fun _ => rfl
theorem storeResponse (n : Fin 4) (store : Nat) : Statement (.storeResponse n store) := fun _ => rfl
theorem beq (n : Fin 4) : Statement (.beq n) := fun _ => rfl
theorem bne (n : Fin 4) : Statement (.bne n) := fun _ => rfl
theorem blt (n : Fin 4) : Statement (.blt n) := fun _ => rfl
theorem bge (n : Fin 4) : Statement (.bge n) := fun _ => rfl
theorem bltu (n : Fin 4) : Statement (.bltu n) := fun _ => rfl
theorem jal (n : Fin 4) : Statement (.jal n) := fun _ => rfl
theorem wait (n : Fin 4) : Statement (.wait n) := fun _ => rfl
theorem waitPoll (n : Fin 4) : Statement (.waitPoll n) := fun _ => rfl
theorem waitWake (n : Fin 4) : Statement (.waitWake n) := fun _ => rfl
theorem stageT (n : Fin 4) : Statement (.stageT n) := fun _ => rfl
theorem stage (n : Fin 4) : Statement (.stage n) := fun _ => rfl
theorem commit (n : Fin 4) : Statement (.commit n) := fun _ => rfl
theorem post (n : Fin 4) : Statement (.post n) := fun _ => rfl
theorem send (n : Fin 4) : Statement (.send n) := fun _ => rfl
theorem recv (n : Fin 4) : Statement (.recv n) := fun _ => rfl
theorem arm (n : Fin 4) : Statement (.arm n) := fun _ => rfl
theorem disarm (n : Fin 4) : Statement (.disarm n) := fun _ => rfl
theorem timeSnapshot (n : Fin 4) (dt : Nat) : Statement (.timeSnapshot n dt) := fun _ => rfl
theorem timeRead (n : Fin 4) : Statement (.timeRead n) := fun _ => rfl
theorem fence (n : Fin 4) : Statement (.fence n) := fun _ => rfl
theorem trap (n : Fin 4) : Statement (.trap n) := fun _ => rfl
theorem halt (n : Fin 4) : Statement (.halt n) := fun _ => rfl
theorem droverEventPending (ev : Fin 64) : Statement (.droverEventPending ev) := fun _ => rfl
theorem drvWatchdogExpire (n : Fin 4) (us : Nat) : Statement (.drvWatchdogExpire n us) := fun _ => rfl
theorem compareMatch (unit : Fin 4) (dt : Nat) : Statement (.compareMatch unit dt) := fun _ => rfl
theorem controlCycleEvent (unit : Fin 4) (dt : Nat) : Statement (.controlCycleEvent unit dt) := fun _ => rfl
theorem drvReset (n : Fin 4) (master : Fin 7) : Statement (.drvReset n master) := fun _ => rfl
theorem drvHalt (n : Fin 4) (master : Fin 7) : Statement (.drvHalt n master) := fun _ => rfl
theorem drvRun (n : Fin 4) (master : Fin 7) : Statement (.drvRun n master) := fun _ => rfl
theorem laneLocked (lane : Fin 15) (headers : List Bool) (history : List Bool) : Statement (.laneLocked lane headers history) := fun _ => rfl
theorem laneLockLost (lane : Fin 15) : Statement (.laneLockLost lane) := fun _ => rfl
theorem milestoneSend (group : Fin 3) : Statement (.milestoneSend group) := fun _ => rfl
theorem milestoneReceived (group : Fin 3) (blocks : List (Arrival × List Byte)) (skew : Nat) : Statement (.milestoneReceived group blocks skew) := (nomatch ·)
theorem idleBlockReceived (group : Fin 3) (block : List Byte) (arrival : Arrival) : Statement (.idleBlockReceived group block arrival) := (nomatch ·)
theorem mapFragmentReceived (group : Fin 3) (block : List Byte) (arrival : Arrival) : Statement (.mapFragmentReceived group block arrival) := (nomatch ·)
theorem identityReceived (block : List Byte) (arrival : Arrival) : Statement (.identityReceived block arrival) := (nomatch ·)
theorem trainBlockReceived (lane : Fin 15) (block : List Byte) (arrival : Arrival) : Statement (.trainBlockReceived lane block arrival) := (nomatch ·)
theorem packetHoldEnd : Statement (.packetHoldEnd) := fun _ => rfl
theorem packetHeadReceived (group : Fin 3) (block : List Byte) (arrival : Arrival) (dt : Nat) : Statement (.packetHeadReceived group block arrival dt) := (nomatch ·)
theorem packetDataBlock (group : Fin 3) (block : List Byte) (arrival : Arrival) : Statement (.packetDataBlock group block arrival) := (nomatch ·)
theorem packetEndReceived (group : Fin 3) (block : List Byte) (arrival : Arrival) : Statement (.packetEndReceived group block arrival) := (nomatch ·)
theorem regrd : Statement (.regrd) := fun _ => rfl
theorem regwr : Statement (.regwr) := fun _ => rfl
theorem burstrd : Statement (.burstrd) := fun _ => rfl
theorem burstwr : Statement (.burstwr) := fun _ => rfl
theorem download : Statement (.download) := fun _ => rfl
theorem mailbox : Statement (.mailbox) := fun _ => rfl
theorem ttstage : Statement (.ttstage) := fun _ => rfl
theorem grant : Statement (.grant) := fun _ => rfl
theorem notice : Statement (.notice) := fun _ => rfl
theorem query : Statement (.query) := fun _ => rfl
theorem reset : Statement (.reset) := fun _ => rfl
theorem trunkSlot (late : Bool) (dt : Nat) : Statement (.trunkSlot late dt) := fun _ => rfl
theorem ttEpochStart : Statement (.ttEpochStart) := fun _ => rfl
theorem trainingAttemptTimeout (group : Fin 3) : Statement (.trainingAttemptTimeout group) := fun _ => rfl
theorem ctleStepTimeout (lane : Fin 15) : Statement (.ctleStepTimeout lane) := fun _ => rfl
theorem fomWindow (lane : Fin 15) (a : Int) (q : Int) (updates : List (Int × List Int)) (slicer : List Int) : Statement (.fomWindow lane a q updates slicer) := fun _ => rfl
theorem signalDetect (lane : Fin 15) : Statement (.signalDetect lane) := fun _ => rfl
theorem signalLost (lane : Fin 15) : Statement (.signalLost lane) := fun _ => rfl
theorem relockTimeout (lane : Fin 15) : Statement (.relockTimeout lane) := fun _ => rfl
theorem partnerLockTimeout (group : Fin 3) : Statement (.partnerLockTimeout group) := fun _ => rfl
theorem listenBurst : Statement (.listenBurst) := fun _ => rfl
theorem listenBurstEnd : Statement (.listenBurstEnd) := fun _ => rfl
theorem retrain (group : Fin 3) (master : Fin 7) : Statement (.retrain group master) := fun _ => rfl
theorem eidlePacketTimeout (group : Fin 3) : Statement (.eidlePacketTimeout group) := fun _ => rfl
theorem rakeBurstReceived (group : Fin 3) (blocks : List (List Byte)) : Statement (.rakeBurstReceived group blocks) := (nomatch ·)
theorem wakeTimeout (group : Fin 3) : Statement (.wakeTimeout group) := fun _ => rfl
theorem laneTestMode (lane : Fin 15) (master : Fin 7) (v : Word) : Statement (.laneTestMode lane master v) := fun _ => rfl
theorem laneTestInject (lane : Fin 15) (master : Fin 7) : Statement (.laneTestInject lane master) := fun _ => rfl
theorem laneTestSnap (lane : Fin 15) (master : Fin 7) (bits : List Bool) : Statement (.laneTestSnap lane master bits) := fun _ => rfl
theorem laneTestClear (lane : Fin 15) (master : Fin 7) : Statement (.laneTestClear lane master) := fun _ => rfl
theorem farEndLoopApply : Statement (.farEndLoopApply) := fun _ => rfl
theorem farEndLoopTimeout : Statement (.farEndLoopTimeout) := fun _ => rfl
theorem timeAddend (master : Fin 7) (v : Word) : Statement (.timeAddend master v) := fun _ => rfl
theorem timeStep (master : Fin 7) : Statement (.timeStep master) := fun _ => rfl
theorem holdoverSet (master : Fin 7) : Statement (.holdoverSet master) := fun _ => rfl
theorem holdoverClear (master : Fin 7) : Statement (.holdoverClear master) := fun _ => rfl
theorem timeSnapNs (master : Fin 7) (dt : Nat) : Statement (.timeSnapNs master dt) := fun _ => rfl
theorem tsqPop (queue : Fin 6) (master : Fin 7) : Statement (.tsqPop queue master) := fun _ => rfl
theorem triggerFire (trigger : Fin 16) (dt : Nat) : Statement (.triggerFire trigger dt) := fun _ => rfl
theorem triggerPulseEnd (trigger : Fin 16) : Statement (.triggerPulseEnd trigger) := fun _ => rfl
theorem captureEdge (input : Fin 8) (phase : Fin 4) (rising : Bool) (dt : Nat) : Statement (.captureEdge input phase rising dt) := fun _ => rfl
theorem captureStuck (input : Fin 8) : Statement (.captureStuck input) := fun _ => rfl
theorem capturePop (input : Fin 8) (master : Fin 7) : Statement (.capturePop input master) := fun _ => rfl
theorem registerWrite (master : Fin 7) (width : Width) (addr : Word) (v : Word) : Statement (.registerWrite master width addr v) := (nomatch ·)
theorem sqcClear (master : Fin 7) (addr : Word) (v : Word) : Statement (.sqcClear master addr v) := (nomatch ·)
theorem onceWrite (master : Fin 7) (v : Word) : Statement (.onceWrite master v) := fun _ => rfl
theorem guardedValueWrite (master : Fin 7) (addr : Word) (v : Word) : Statement (.guardedValueWrite master addr v) := (nomatch ·)
theorem guardedComplementWrite (master : Fin 7) (addr : Word) (v : Word) : Statement (.guardedComplementWrite master addr v) := (nomatch ·)
theorem guardWindowExpire (master : Fin 7) : Statement (.guardWindowExpire master) := fun _ => rfl
theorem bitAliasWrite (master : Fin 7) (addr : Word) (bit : Fin 32) (v : Word) : Statement (.bitAliasWrite master addr bit v) := (nomatch ·)
theorem faultRegister (count : Nat) (dt : Nat) : Statement (.faultRegister count dt) := fun _ => rfl
theorem faultForce (index : Fin 6) (master : Fin 7) (v : Word) : Statement (.faultForce index master v) := fun _ => rfl
theorem faultAck (master : Fin 7) (v : Word) : Statement (.faultAck master v) := fun _ => rfl
theorem unitReset (unit : Fin 256) (master : Fin 7) : Statement (.unitReset unit master) := fun _ => rfl
theorem unitReturn (unit : Fin 256) (master : Fin 7) : Statement (.unitReturn unit master) := fun _ => rfl
theorem forcedClear (master : Fin 7) : Statement (.forcedClear master) := fun _ => rfl
theorem firstClear (master : Fin 7) : Statement (.firstClear master) := fun _ => rfl
theorem ledgerAdvance (rd : Fin 64) (master : Fin 7) : Statement (.ledgerAdvance rd master) := fun _ => rfl
theorem heartbeat (master : Fin 7) (v : Word) : Statement (.heartbeat master v) := fun _ => rfl
theorem heartbeatMissed (dt : Nat) : Statement (.heartbeatMissed dt) := fun _ => rfl
theorem twtAddress (address : Fin 128) (read : Bool) : Statement (.twtAddress address read) := fun _ => rfl
theorem setptr (args : List Byte) (n : Nat) : Statement (.setptr args n) := (nomatch ·)
theorem rd32 (args : List Byte) (n : Nat) : Statement (.rd32 args n) := (nomatch ·)
theorem wr32 (args : List Byte) (n : Nat) : Statement (.wr32 args n) := (nomatch ·)
theorem blkrd (args : List Byte) (n : Nat) : Statement (.blkrd args n) := (nomatch ·)
theorem blkwr (args : List Byte) (n : Nat) : Statement (.blkwr args n) := (nomatch ·)
theorem status (args : List Byte) (n : Nat) : Statement (.status args n) := (nomatch ·)
theorem lasterr (args : List Byte) (n : Nat) : Statement (.lasterr args n) := (nomatch ·)
theorem mbpush (args : List Byte) (n : Nat) : Statement (.mbpush args n) := (nomatch ·)
theorem mbpop (args : List Byte) (n : Nat) : Statement (.mbpop args n) := (nomatch ·)
theorem nop (args : List Byte) (n : Nat) : Statement (.nop args n) := (nomatch ·)
theorem twtLegacyTransaction (bytes : List Byte) (n : Nat) : Statement (.twtLegacyTransaction bytes n) := (nomatch ·)
theorem twtWritePhaseEnd (unknown : Option Byte) (stop : Bool) : Statement (.twtWritePhaseEnd unknown stop) := fun _ => rfl
theorem twtAbort : Statement (.twtAbort) := fun _ => rfl
theorem twtReadLate : Statement (.twtReadLate) := fun _ => rfl
theorem twtSdaRelease : Statement (.twtSdaRelease) := fun _ => rfl
theorem busFree (port : Fin 9) : Statement (.busFree port) := fun _ => rfl
theorem twsSubmit (port : Fin 9) (desc : Fin 16) (master : Fin 7) : Statement (.twsSubmit port desc master) := fun _ => rfl
theorem twsTransactionStart (port : Fin 9) (dt : Nat) : Statement (.twsTransactionStart port dt) := fun _ => rfl
theorem twsTransactionEnd (port : Fin 9) (status : Fin 8) (count : Nat) (data : List Byte) : Statement (.twsTransactionEnd port status count data) := fun _ => rfl
theorem twsRetryTimer (port : Fin 9) : Statement (.twsRetryTimer port) := fun _ => rfl
theorem arbitrationLost (cut : BusCut) : Statement (.arbitrationLost cut) := (nomatch ·)
theorem twsStretchTimeout (cut : BusCut) : Statement (.twsStretchTimeout cut) := (nomatch ·)
theorem twsBusRecovery (port : Fin 9) : Statement (.twsBusRecovery port) := fun _ => rfl
theorem twsRecoveryDone (port : Fin 9) (high : Bool) : Statement (.twsRecoveryDone port high) := fun _ => rfl
theorem twsFlush (port : Fin 9) (master : Fin 7) : Statement (.twsFlush port master) := fun _ => rfl
theorem twsDonePop (port : Fin 9) (master : Fin 7) : Statement (.twsDonePop port master) := fun _ => rfl
theorem twsWindowOpen (port : Fin 8) (dt : Nat) : Statement (.twsWindowOpen port dt) := fun _ => rfl
theorem twsWindowClose (port : Fin 8) (dt : Nat) : Statement (.twsWindowClose port dt) := fun _ => rfl
theorem bootTableRead (copyA : Option (List Byte)) (copyB : Option (List Byte)) : Statement (.bootTableRead copyA copyB) := fun _ => rfl
theorem verifyDone (image : Option (List Byte)) : Statement (.verifyDone image) := fun _ => rfl
theorem loadDone : Statement (.loadDone) := fun _ => rfl
theorem diagAutoAck (source : Fin 192) : Statement (.diagAutoAck source) := fun _ => rfl
theorem secVerify (master : Fin 7) : Statement (.secVerify master) := fun _ => rfl
theorem secRecord (master : Fin 7) : Statement (.secRecord master) := fun _ => rfl
theorem secAttest (master : Fin 7) : Statement (.secAttest master) := fun _ => rfl
theorem attestPrepared : Statement (.attestPrepared) := fun _ => rfl
theorem attestDone : Statement (.attestDone) := fun _ => rfl
theorem headProbe (ctx : Fin 16) : Statement (.headProbe ctx) := fun _ => rfl
theorem headProbeDone (ctx : Fin 16) (record : Option (List Byte)) : Statement (.headProbeDone ctx record) := (nomatch ·)
theorem headCertDone (ctx : Fin 16) : Statement (.headCertDone ctx) := fun _ => rfl
theorem headCounterHour (ctx : Fin 16) (hot : Bool) : Statement (.headCounterHour ctx hot) := fun _ => rfl
theorem headTempExpire (ctx : Fin 16) : Statement (.headTempExpire ctx) := fun _ => rfl
theorem powerApply (master : Fin 7) : Statement (.powerApply master) := fun _ => rfl
theorem domainOn : Statement (.domainOn) := fun _ => rfl
theorem grantEnforce : Statement (.grantEnforce) := fun _ => rfl
theorem feedDetectDone (feeder : Fin 2) (ma : Nat) : Statement (.feedDetectDone feeder ma) := fun _ => rfl
theorem feedDetectRetry (feeder : Fin 2) : Statement (.feedDetectRetry feeder) := fun _ => rfl
theorem feedRampDone (feeder : Fin 2) : Statement (.feedRampDone feeder) := fun _ => rfl
theorem feedHoldDone (feeder : Fin 2) (volts : Nat) (ma : Nat) : Statement (.feedHoldDone feeder volts ma) := (nomatch ·)
theorem feedOvercurrent (feeder : Fin 2) (volts : Nat) (ma : Nat) : Statement (.feedOvercurrent feeder volts ma) := (nomatch ·)
theorem feedBackoffDone (feeder : Fin 2) : Statement (.feedBackoffDone feeder) := fun _ => rfl
theorem thermalSample (temps : Vector Int 14) : Statement (.thermalSample temps) := fun _ => rfl
theorem thermalTrip : Statement (.thermalTrip) := fun _ => rfl
theorem thermPeakClear (master : Fin 7) : Statement (.thermPeakClear master) := fun _ => rfl
theorem illegalInstruction (n : Fin 4) : Statement (.illegalInstruction n) := fun _ => rfl
theorem drvEvovrRead (n : Fin 4) (master : Fin 7) : Statement (.drvEvovrRead n master) := fun _ => rfl
theorem checkerLocked (lane : Fin 15) (bits : List Bool) : Statement (.checkerLocked lane bits) := fun _ => rfl
theorem checkerLockLost (lane : Fin 15) (bits : List Bool) : Statement (.checkerLockLost lane bits) := fun _ => rfl
theorem feederReturnBlock (feeder : Fin 2) (dt : Nat) : Statement (.feederReturnBlock feeder dt) := fun _ => rfl
theorem qspiProgramDone : Statement (.qspiProgramDone) := fun _ => rfl
theorem lanePllLock : Statement (.lanePllLock) := fun _ => rfl

end Sys2Proof.Laws.Shape
end

