-- ==== Sys2Proof/Tests/Slice0.lean ====
section
/-! SUPPORT. Tests of the model: ill-formed commands that the checks refuse, the words and sums that the spec writes out, single steps, and
for every obligation with hypotheses a concrete state and operands that meet them together (`witness_<its name>`, one part for each
clause, in the namespace of the commands concerned). -/

namespace Sys2Proof.Tests

set_option maxRecDepth 100000
set_option Elab.async false

open Sys2Proof.Machine

def rst : State := State.reset
def allOn (d : Dev) : Dev := put (put d .power 0 0x1C 0xFFFFFFFF#32) .power 0 0x20 0x3FFFF#32
def mk (m : Mode) (f : Dev → Dev) : State := { rst with sys := { rst.sys with mode := m }, dev := f (allOn rst.dev) }
def ready : State := mk .ready id
def run : State := mk .run id
def poke (d : Dev) (a : Nat) (l : List Nat) : Dev := memWrite d a (l.map (BitVec.ofNat 8))

def bytes (l : List Nat) : List Byte := l.map (BitVec.ofNat 8)

/-! ### Ill-formed commands are refused -/

theorem wf_refuses_straps : (Instr.lineupComplete { role := 2 } 5000 100).wf = false ∧ (Instr.lineupComplete { role := 1 } 5000 100).wf = true := by
  decide
theorem wf_refuses_measures : (Instr.lineRange 65536 0).wf = false ∧ (Instr.feedHoldDone 0 0 65536).wf = false ∧ (Instr.lineFault 65535 1).wf = true := by
  decide
theorem wf_refuses_blocks : (Instr.identityReceived (List.replicate 31 0) .clean).wf = false ∧
    (Instr.milestoneReceived 0 [(.clean, List.replicate 32 0), (.clean, [])] 0).wf = false ∧
    (Instr.rakeBurstReceived 1 [List.replicate 32 0, [1]]).wf = false ∧ (Instr.identityReceived (List.replicate 32 0) .clean).wf = true := by decide
theorem wf_refuses_arrivals : (Instr.idleBlockReceived 0 (List.replicate 32 0) (.groups [1024])).wf = false ∧
    (Instr.idleBlockReceived 0 (List.replicate 32 0) (.groups (List.replicate 33 1024))).wf = false ∧
    (Instr.packetDataBlock 0 (List.replicate 32 0) (.codeword (List.replicate 543 0))).wf = false ∧
    (Instr.packetDataBlock 0 (List.replicate 32 0) (.groups (List.replicate 33 0x17C))).wf = true := by decide +kernel
theorem wf_refuses_transfers : (Instr.setptr (List.replicate 257 0) 0).wf = false ∧ (Instr.setptr [1, 2, 3, 4] 0).wf = true := by decide +kernel
theorem wf_refuses_records : (Instr.headProbeDone 0 (some [1])).wf = false ∧ (Instr.headProbeDone 0 none).wf = true := by decide
theorem wf_refuses_unaligned : (Instr.registerWrite 0 .word 2#32 0#32).wf = false ∧ (Instr.registerWrite 0 .half 2#32 0#32).wf = true ∧
    (Instr.registerWrite 0 .byte 3#32 0#32).wf = true ∧ (Instr.sqcClear 0 0x15#32 0#32).wf = false ∧
    (Instr.guardedValueWrite 6 9#32 0#32).wf = false ∧ (Instr.guardedComplementWrite 6 10#32 0#32).wf = false ∧
    (Instr.bitAliasWrite 0 1#32 0 1#32).wf = false := by decide

/-! ### Words and sums that the spec writes out -/

/-- The nine bytes "123456789" (R273, R274, R418). -/
theorem test_crcs : crc16 (bytes [0x31, 0x32, 0x33, 0x34, 0x35, 0x36, 0x37, 0x38, 0x39]) = 0x29B1 ∧
    crc32c (bytes [0x31, 0x32, 0x33, 0x34, 0x35, 0x36, 0x37, 0x38, 0x39]) = 0xE3069283 ∧
    crc8 (bytes [0x31, 0x32, 0x33, 0x34, 0x35, 0x36, 0x37, 0x38, 0x39]) = 0xF4 := by decide +kernel

/-- The one-block message of FIPS 180-4, "abc". -/
theorem test_sha256_abc : beVal (sha256 (bytes [0x61, 0x62, 0x63])) =
    0xBA7816BF8F01CFEA414140DE5DAE2223B00361A396177A9CB410FF61F20015AD := by decide +kernel

/-- The encodings of the worked example of spec/07_jorran_isa.md: LUI w4, 0x80; ADDI w4, w4, 0x704; LD.W w5, 0(w4); ST.W w5, 0(w6);
BNE w3, w0, −5. -/
theorem test_jorran_words :
    (rowOf 0x00200111#32, fieldA 0x00200111#32, fld 0x00200111#32 31 14) = (.lui, 4, 0x80) ∧
    (rowOf 0x01C11110#32, fieldA 0x01C11110#32, fieldB 0x01C11110#32, fld 0x01C11110#32 31 14) = (.addi, 4, 4, 0x704) ∧
    (rowOf 0x00001154#32, fieldA 0x00001154#32, fieldB 0x00001154#32) = (.ldW, 5, 4) ∧
    (rowOf 0x00001957#32, fieldA 0x00001957#32, fieldB 0x00001957#32) = (.stW, 5, 6) ∧
    (rowOf 0xFFFEC0E1#32, fieldA 0xFFFEC0E1#32, fieldB 0xFFFEC0E1#32, sInt 18 (fld 0xFFFEC0E1#32 31 14)) = (.bne, 3, 0, -5) := by decide +kernel

/-- The decompanding and black level of ctx4 (spec/02_intake.md R65, R68): code 2,600 becomes 40,448, and after the black level 40,386. -/
def ctx4 : Params := [(0x100, 0x00000401#32), (0x300, 64#32), (0x380, 16385#32), (0x800, 0#32), (0x804, 0#32), (0x808, 0x1000#32), (0x810, 1024#32),
  (0x814, 1024#32), (0x818, 0x4000#32), (0x820, 2048#32), (0x824, 5120#32), (0x828, 0x40000#32), (0x830, 3072#32), (0x834, 70656#32), (0x838, 0x400000#32)]
theorem test_decompanding : linearise ctx4 {} 0 12 2600 = 40448 ∧ linearise ctx4 {} 0 12 4095 = 1118208 ∧ blackLevel ctx4 0 0 40448 = 40386 := by
  decide +kernel

/-- A neutral pixel to Y' (spec/04_colour_and_harvest.md R118, R120, R121). -/
theorem test_neutral_pixel : oetfPoint 1099 18 1000 408 = 41115 ∧ oetfPoint 1099 18 1000 409 = 41167 ∧ oetfOf [(0x5C4, 1#32)] {} 418630 = 41158 ∧
    cscOut [(0x5C4, 0x11#32)] 41158 41158 41158 = (39306, 32768, 32768) := by decide +kernel

/-- The head of a view line (spec/09_caravan_link.md, R272): bytes 4 to 27. -/
theorem test_view_line_head :
    ((manifestHead {} State.reset.dev {
      ctype := 0x40, source := 0x2A020A, seq := 1000000, line := 539, length := 120, epoch := 42, convoy := 0x96402018
      stamp := (1760000000 * 1000000000 + 1251930) * 2 ^ 30, flags := 0, format := 1 }).take 28) =
    bytes [0x40, 0x0A, 0x02, 0x2A, 0x40, 0x42, 0x0F, 0x00, 0x1B, 0x02, 0x78, 0x00, 0x2A, 0x00, 0x18, 0x20, 0x40, 0x96, 0x00, 0x78, 0xE7, 0x68, 0, 0,
      0x5A, 0x1A, 0x13, 0x00] := by decide +kernel

/-- Clearing a status while events arrive (spec/12_register_access.md R369). -/
theorem test_status_clear : sqcEvent 0x03000003#32 2 = 0x04000003#32 ∧ sqcClear 0x04000003#32 0x03000003#32 0x7F#32 = 0x04000003#32 ∧
    sqcClear 0x04000003#32 0x04000003#32 0x7F#32 = 0x04000000#32 := by decide +kernel

/-- Code groups of IEEE 802.3 clause 36, bit a first (spec/10_lanes.md R297): K28.5 and D21.5 from negative disparity, D0.0 and D31.7 from both. -/
def bits10 (w : Nat) : List Nat := (groupBits w).map Bool.toNat
theorem test_code_groups : bits10 (specialGroup k28x5 false) = [0, 0, 1, 1, 1, 1, 1, 0, 1, 0] ∧
    bits10 (dataGroup 0xB5 false) = [1, 0, 1, 0, 1, 0, 1, 0, 1, 0] ∧ bits10 (dataGroup 0 false) = [1, 0, 0, 1, 1, 1, 0, 1, 0, 0] ∧
    bits10 (dataGroup 0 true) = [0, 1, 1, 0, 0, 0, 1, 0, 1, 1] ∧ bits10 (dataGroup 0xFF false) = [1, 0, 1, 0, 1, 1, 0, 0, 0, 1] ∧
    bits10 (dataGroup 0xFF true) = [0, 1, 0, 1, 0, 0, 1, 1, 1, 0] := by decide +kernel

/-- Four RAW10 samples of five bytes, and a RAW20 sample of two (spec/02_intake.md R38). -/
theorem test_unpacks : unpackCodes 10 (bytes [0x12, 0x34, 0x56, 0x78, 0xE4]) = [0x48, 0xD1, 0x15A, 0x1E3] ∧
    unpackCodes 20 (bytes [0x12, 0x34, 0x56, 0x78, 0xE4]) = [0x48 * 1024 + 0xD1, 0x15A * 1024 + 0x1E3] := by decide +kernel

/-- What one command does to a state. -/
def after (c : Instr) (s : State) : State :=
  match exec c s with
  | .next t => t
  | _ => s

/-- Drover 1 at 0x100 with a word there and three registers set. -/
def at1 (w : Nat) (regs : List (Nat × Word)) : State :=
  mk .run (fun d => onDrv (memWrite d (imBase 1 + 0x100) (leBytes 4 w)) 1 (fun v => { v with state := .running, pc := 0x100, regs := regs }))

/-- The instructions of the worked example, one at a time: LUI, ADDI, LD.W of DM, BNE back to 0x110 less four words (R217–R225). -/
theorem test_lui : wReg (drvOf (after (.lui 1) (at1 0x00200111 [])).dev 1) 4 = 0x00200000#32 ∧
    (drvOf (after (.lui 1) (at1 0x00200111 [])).dev 1).pc = 0x104 := by decide +kernel
theorem test_addi : wReg (drvOf (after (.addi 1) (at1 0x01C11110 [(4, 0x200000#32)])).dev 1) 4 = 0x00200704#32 := by decide +kernel
theorem test_addi_wraps : wReg (drvOf (after (.addi 1) (at1 0xFFFFCCD0 [])).dev 1) 3 = 0xFFFFFFFF#32 := by decide +kernel
theorem test_bne : (drvOf (after (.bne 1) (at1 0xFFFEC0E1 [(3, 1#32)])).dev 1).pc = 0xEC ∧
    (drvOf (after (.bne 1) (at1 0xFFFEC0E1 [])).dev 1).pc = 0x104 := by decide +kernel
theorem test_ldw_bus_waits : ((drvOf (after (.ldW 1) (at1 0x00001154 [(4, 0x200704#32)])).dev 1).load.map (fun l => (l.addr, l.width, l.rd))) =
    some (0x200704, 4, 5) := by decide +kernel
theorem test_stw_own : memByte (after (.stW 1) (at1 0x00001957 [(5, 0x00000102#32), (6, 0x790000#32)])).dev 0x790001 = 1#8 := by decide +kernel

/-- Reset and the first mode changes (R30, R476). -/
theorem test_run_request : (after (.modeRequestRun 2) (mk .ready id)).sys.mode = .run := by decide +kernel
theorem test_run_request_of_customs_is_refused : (after (.modeRequestRun 0) (mk .ready id)).sys.mode = .ready := by decide +kernel
theorem test_lineup_halt : (after (.lineupComplete {} 5000 100) { mk .lineup id with
    sys := { (mk .lineup id).sys with rails := true, halt := true } }).sys.mode = .halt := by decide +kernel

end Sys2Proof.Tests

namespace Sys2Proof.Tests.Modes

set_option maxRecDepth 100000
set_option Elab.async false

open Sys2Proof.Machine

def s1 : State := { run with pending := [.wakeN, .deviceReset] }
def s2 : State := mk .lineup id
def s3 : State := { run with clock := { run.clock with coming := [(0x7FFFFFFF, 0), (0x80000001, 9)], now := 2 ^ 48 * 1000000000 * 2 ^ 30 - 5 } }
def s4 : State := { run with pending := [.linePowerLost] }
def s5 : State := { mk .halt id with sys := { (mk .halt id).sys with halt := true } }
def s6 : State := { mk .lineup id with sys := { (mk .lineup id).sys with rails := false, halt := true } }
def s7 : State := { ready with sys := { ready.sys with drain := true } }
def s8 : State := mk .idle id
def s9 : State := { mk .idle id with sys := { (mk .idle id).sys with back := .run, straps := { fallow := 1 } } }

theorem witness_StepRunsTheFrontCommand : ∃ (s : State) (c : Instr) (l : List Instr), s.pending = c :: l :=
  ⟨s1, .wakeN, [.deviceReset], by decide +kernel⟩
theorem witness_EmptyQueueLetsOneCyclePass :
    (∃ (s : State), s.pending = [] ∧ s.sys.mode = .lineup) ∧
    (∃ (s : State), s.pending = [] ∧ s.sys.mode ≠ .lineup ∧ (∀ q ∈ s.clock.coming, s.clock.cycles + 1 ≤ q.2)) ∧
    (∃ (s : State) (b : Nat) (k : Nat) (l : List (Nat × Nat)), s.pending = [] ∧ s.sys.mode ≠ .lineup ∧ s.clock.coming = (b, k) :: l ∧
     k ≤ s.clock.cycles ∧ (∀ q ∈ l, s.clock.cycles + 1 ≤ q.2)) :=
  ⟨⟨s2, by decide +kernel⟩,
   ⟨ready, by decide +kernel⟩,
   ⟨s3, 2147483647, 0, [(2147483649, 9)], by decide +kernel⟩⟩
theorem witness_EveryStepKeepsTheModeInvariant : ∃ (s : State) (t : State), step s = .next t ∧ ModeInv s :=
  ⟨s4, _, rfl, by decide +kernel⟩
theorem witness_EveryStepKeepsTheTablesCanonical : ∃ (s : State) (t : State), step s = .next t ∧ TablesWf s :=
  ⟨s4, _, rfl, by decide +kernel⟩
theorem witness_ModeChangesFollowTheTable :
    (∃ (c : Instr) (s : State) (t : State), exec c s = .next t ∧ ModeInv s ∧ c = .linePowerLost) ∧
    (∃ (c : Instr) (s : State) (t : State) (st : _) (v : _) (i : _), exec c s = .next t ∧ ModeInv s ∧ c = .lineupComplete st v i) ∧
    (∃ (c : Instr) (s : State) (t : State), exec c s = .next t ∧ ModeInv s ∧ (c = .resetNAssert ∨ c = .deviceReset)) ∧
    (∃ (c : Instr) (s : State) (t : State), exec c s = .next t ∧ ModeInv s ∧ c ≠ .linePowerLost ∧ (∀ st v i, c ≠ .lineupComplete st v i) ∧
     c ≠ .resetNAssert ∧ c ≠ .deviceReset) :=
  ⟨⟨.linePowerLost, ready, _, rfl, by decide +kernel⟩,
   ⟨.lineupComplete {} 5000 100, s2, _, {}, 5000, 100, rfl, by decide +kernel⟩,
   ⟨.deviceReset, run, _, rfl, by decide +kernel⟩,
   ⟨.modeRequestRun 2, ready, _, rfl, by decide +kernel, by decide, (fun _ _ _ h => Instr.noConfusion h), by decide, by decide⟩⟩
theorem witness_OnlyPowerLossLeavesHalt : ∃ (c : Instr) (s : State) (t : State), exec c s = .next t ∧ ModeInv s ∧ s.sys.mode = .halt ∧ c ≠ .linePowerLost :=
  ⟨.resetNRelease, s5, _, rfl, by decide +kernel⟩
theorem witness_TheLineComesUpWarnsAndGoes :
    (∃ (s : State) (st : Straps) (volts : Nat) (ma : Nat), s.sys.mode = .lineup ∧ s.sys.rails = true ∧ strapsOk st = true ∧ volts < 65536 ∧ ma < 65536) ∧
    (∃ (s : State), s.sys.mode = .lineup ∧ s.sys.rails = false) ∧
    (∃ (s : State) (volts : Nat) (ma : Nat) (p : _), AonOn s ∧ volts < 65536 ∧ ma < 65536 ∧ p ∈ [(Instr.lineRange volts ma, (8 : Nat)),
     (Instr.shutdownWarning volts ma, 16)]) :=
  ⟨⟨s2, { twaddr := 3, lineclass := 2, trunk := 1 }, 0, 0, by decide +kernel⟩,
   ⟨s6, by decide +kernel⟩,
   ⟨ready, 0, 0, (Instr.lineRange 0 0, (8 : Nat)), by decide +kernel⟩⟩
theorem witness_AllowedModeRequests :
    (∃ (s : State) (m : Fin 7), m = 2 ∧ s.sys.mode = .ready ∧ s.sys.drain = false ∧ TakesWrite s m .power 0 4 6#32) ∧
    (∃ (s : State) (m : Fin 7), m.val ≤ 2 ∧ s.sys.mode = .ready ∧ s.sys.drain = false ∧ TakesWrite s m .power 0 4 0xA#32) ∧
    (∃ (s : State) (m : Fin 7), m.val ≤ 2 ∧ serving s.sys.mode = true ∧ s.sys.drain = false ∧ TakesWrite s m .power 0 4 8#32) ∧
    (∃ (s : State) (m : Fin 7), m.val ≤ 2 ∧ s.sys.drain = true ∧ TakesWrite s m .power 0 4 0xF#32) ∧
    (∃ (s : State) (m : Fin 7), m.val ≤ 2 ∧ s.sys.mode = .idle ∧ s.sys.drain = false ∧ TakesWrite s m .power 0 4 0xF#32) ∧
    (∃ (s : State) (m : Fin 7), m.val ≤ 2 ∧ s.sys.mode = .idle ∧ s.sys.drain = false ∧ s.sys.straps.fallow = 1 ∧ TakesWrite s m .power 0 4 9#32 ∧
     s.dev.trunk.curs = []) :=
  ⟨⟨ready, 2, by decide +kernel⟩,
   ⟨ready, 0, by decide +kernel⟩,
   ⟨ready, 0, by decide +kernel⟩,
   ⟨s7, 0, by decide +kernel⟩,
   ⟨s8, 0, by decide +kernel⟩,
   ⟨s9, 0, by decide +kernel⟩⟩
theorem witness_RefusedModeRequests : ∃ (s : State) (m : Fin 7) (c : Instr) (code : Nat), (c, code) ∈ [(Instr.modeRequestRun m, 6), (.modeRequestIdle m, 8), (.modeRequestFallow m, 9),
    (.modeRequestDiag m, 10), (.modeRequestLeaveIdle m, 15)] ∧ TakesWrite s m .power 0 4 (BitVec.ofNat 32 code) ∧ requestAllowed s.sys m code = false :=
  ⟨ready, 0, Instr.modeRequestRun 0, 6, by decide +kernel⟩

end Sys2Proof.Tests.Modes

namespace Sys2Proof.Tests.Resets

set_option maxRecDepth 100000
set_option Elab.async false

open Sys2Proof.Machine

def s1 : State := mk .run (fun d => onGroup (onGroup d 0 (fun g => { g with state := .ready })) 1 (fun g => { g with state := .ready })) |> fun s =>
    { s with sys := { s.sys with drain := true } }
def s2 : State := mk .idle id
def s3 : State := { ready with sys := { ready.sys with drain := true } }
def s4 : State := { mk .idle id with sys := { (mk .idle id).sys with back := .degraded } }
def s5 : State := mk .fallow (fun d => { (put (put d .power 0 0x1C 0#32) .power 0 0x20 0x38001#32) with power := { d.power with retained := [3, 7, 33] } })
def s6 : State := { run with sys := { run.sys with straps := { role := 1, refclk := 1 }, crystal := true }, dev := onGroup run.dev 0 (fun g => { g with state := .ready }) }
def s7 : State := { run with sys := { run.sys with straps := { role := 1, refclk := 1 } }, clock := { run.clock with state := .tracking }, dev := onGroup run.dev 0 (fun g => { g with state := .training }) }
def s8 : State := { run with dev := { putF run.dev .glob 0 0x10 7 0 1 with onceTree := true } }
def s9 : State := { run with sys := { run.sys with resets := [4, 1], straps := { role := 1, refclk := 1 }, crystal := true, halt := false } , dev := { poke (poke run.dev 0x700010 [1,2,3]) 0x780010 [4] with otp := [(3, 4#8)] } }
def s10 : State := mk .run (fun d =>
    { d with staged := [(unitBase .glob 0 + 0x18, 2#32), (unitBase .toll 0 + 0x104, 5#32), (unitBase .time 0 + 0x404, 2000000#32), (unitBase .ctx 3 + 4, 0x01000100#32), (unitBase .time 0 + 0x654, 0x00010001#32)] })

theorem witness_IdleIsEnteredAndLeft :
    (∃ (s : State) (g : Fin 3), s.dev.acts = [] ∧ s.sys.drain = true ∧ noFrameOpen s.dev = true ∧ (∀ p : Fin 4, (vget s.dev.pipes p).row = none ∧
     inlineReady s.dev p = none) ∧ (vget s.dev.groups g).state = .ready) ∧
    (∃ (s : State) (p : Fin 4) (b : Bool) (c : _), s.dev.acts = [] ∧ s.sys.mode = .idle ∧
     c ∈ [Instr.inlineRowReady p b, .pipeRowDone p, .stripeDone p, .pipeTtPeriodStart p, .pipeSlotBoundary p, .slotSwapDone p, .waystationRestoreDone p, .waystationSaveDone p]) ∧
    (∃ (s : State) (c : Fin 16), s.dev.acts = [] ∧ s.sys.drain = true ∧ unitsRun s.sys = true ∧ openFrame s.dev c = none) ∧
    (∃ (s : State), s.dev.acts = [] ∧ s.sys.mode = .idle ∧ ¬ (s.sys.back = .degraded ∧ s.dev.flt.fences = [])) ∧
    (∃ (s : State), s.dev.acts = [] ∧ s.sys.mode = .idle ∧ s.sys.back = .degraded ∧ s.dev.flt.fences = []) ∧
    (∃ (s : State) (k : _), s.dev.acts = [] ∧ s.sys.mode = .fallow ∧ s.dev.flt.latched = [] ∧ k ∈ s.dev.power.retained ∧ switched s.dev k = false) ∧
    (∃ (s : State), s.dev.acts = [] ∧ s.sys.mode ≠ .idle ∧ s.sys.mode ≠ .fallow) :=
  ⟨⟨s1, 0, by decide +kernel⟩,
   ⟨s2, 0, false, Instr.inlineRowReady 0 false, by decide +kernel⟩,
   ⟨s3, 0, by decide +kernel⟩,
   ⟨s2, by decide +kernel⟩,
   ⟨s4, by decide +kernel⟩,
   ⟨s5, 3, by decide +kernel⟩,
   ⟨ready, by decide +kernel⟩⟩
theorem witness_DeviceResetsAndReferenceSwitches :
    (∃ (s : State) (p : _) (a : _), s.dev.flt.latched = [] ∧ p ∈ [(Instr.resetNAssert, true, 3),
     (.deviceReset, s.sys.resetLow, firstCause (dueResets s))] ∧ aonRuns s.sys = true ∧ (p.1 = .deviceReset → dueResets s ≠ []) ∧ panBase ≤ a) ∧
    (∃ (s : State) (p : _) (a : _), s.dev.flt.latched = [] ∧ p ∈ [(Instr.resetNAssert, true, 3),
     (.deviceReset, s.sys.resetLow, firstCause (dueResets s))] ∧ aonRuns s.sys = true ∧ (p.1 = .deviceReset → dueResets s ≠ []) ∧ (a < 0x720000 ∨
     (0x780000 ≤ a ∧ a < 0x790000))) ∧
    (∃ (s : State), s.sys.straps.role = 1 ∧ s.sys.straps.refclk = 1 ∧ s.sys.crystal = true ∧ (vget s.dev.groups 0).state = .ready) ∧
    (∃ (s : State), s.sys.straps.role = 1 ∧ s.sys.straps.refclk = 1 ∧ aonRuns s.sys = true ∧ s.sys.crystal = false ∧
     (vget s.dev.groups 0).state ∈ [.training, .listen, .off, .test]) :=
  ⟨⟨ready, (Instr.resetNAssert, true, 3), panBase, by decide +kernel⟩,
   ⟨ready, (Instr.resetNAssert, true, 3), 0, by decide +kernel⟩,
   ⟨s6, by decide +kernel⟩,
   ⟨s7, by decide +kernel⟩⟩
theorem witness_TreeIdIsWrittenOnce :
    (∃ (s : State) (m : Fin 7) (v : Word) (p : _) (g : Fin 3), p ∈ [(Instr.onceWrite m v, v), (.treeIdSet m (v.setWidth 8),
     (v.setWidth 8).setWidth 32)] ∧ TakesWrite s m .glob 0 0x10 p.2 ∧ s.sys.straps.role ≠ 1 ∧ s.dev.onceTree = false ∧
     (getF s.dev .glob 0 0x10 15 8 ≠ v.toNat % 256) ∧ g ≠ 0 ∧ (vget s.dev.groups g).state = .ready) ∧
    (∃ (s : State) (m : Fin 7) (v : Word) (p : _), p ∈ [(Instr.onceWrite m v, v), (.treeIdSet m (v.setWidth 8), (v.setWidth 8).setWidth 32)] ∧
     TakesWrite s m .glob 0 0x10 p.2 ∧ s.sys.straps.role ≠ 1 ∧ s.dev.onceTree = true ∧ getF s.dev .glob 0 0x10 7 0 = v.toNat % 256) ∧
    (∃ (s : State) (m : Fin 7) (v : Word) (p : _), p ∈ [(Instr.onceWrite m v, v), (.treeIdSet m (v.setWidth 8), (v.setWidth 8).setWidth 32)] ∧
     TakesWrite s m .glob 0 0x10 p.2 ∧ (s.sys.straps.role = 1 ∨ (s.dev.onceTree = true ∧ getF s.dev .glob 0 0x10 7 0 ≠ v.toNat % 256))) :=
  ⟨⟨s1, 0, 1#32, (Instr.onceWrite 0 1#32, 1#32), 1, by decide +kernel⟩,
   ⟨s8, 0, 1#32, (Instr.onceWrite 0 1#32, 1#32), by decide +kernel⟩,
   ⟨s9, 0, 0#32, (Instr.onceWrite 0 0#32, 0#32), by decide +kernel⟩⟩
theorem witness_IdleUnitsApplyTheirStagedWords :
    (∃ (s : State) (u : IdleUnit) (a : _), s.dev.acts = [] ∧ idleSetFits s u = true ∧ u ≠ .profile ∧ (idleRange u).1 ≤ a ∧
     a < (idleRange u).1 + (idleRange u).2 ∧ rwsMask a ≠ 0) ∧
    (∃ (s : State) (u : IdleUnit) (q : _), s.dev.acts = [] ∧ idleSetFits s u = true ∧ q ∈ s.dev.staged ∧ ¬ ((idleRange u).1 ≤ q.1 ∧
     q.1 < (idleRange u).1 + (idleRange u).2)) ∧
    (∃ (s : State) (u : IdleUnit), s.dev.acts = [] ∧ idleSetFits s u = true ∧ u = .profile) :=
  ⟨⟨ready, .toll, unitBase .toll 0 + 0x104, by decide +kernel⟩,
   ⟨s10, .toll, (unitBase .glob 0 + 0x18, 2#32), by decide +kernel⟩,
   ⟨s5, .profile, by decide +kernel⟩⟩

end Sys2Proof.Tests.Resets

namespace Sys2Proof.Tests.Registers

set_option maxRecDepth 100000
set_option Elab.async false

open Sys2Proof.Machine

def rep (n : Nat) : Report := { source := n, addr := sourceBase n }
def noted : State := match exec (.faultRegister 2 5) { run with dev := { run.dev with reports := [rep 7, rep 7] } } with
  | .next t => { t with dev := { t.dev with reports := [rep 7, rep 4] } }
  | _ => run
def s1 : State := { run with dev := { run.dev with guards := [(6, { addr := unitBase .customs 0 + 8, value := 0x9616#32 }), (2, { addr := unitBase .customs 0 + 0x880, value := 1#32 }), (1, { addr := unitBase .glob 0 + 8, value := 0x9616#32 })] } }
def s2 : State := { run with dev := { run.dev with guards := [(6, { addr := unitBase .customs 0 + 0x10, value := 5#32 })] } }
def s3 : State := { run with dev := { run.dev with guards := [(6, { addr := unitBase .customs 0 + 0x10, value := 1#32 })], flt := { run.dev.flt with unlocked := true } } }
def s4 : State := { run with dev := { run.dev with guards := [(6, { addr := unitBase .customs 0 + 0x10, value := 1#32 })], flt := { run.dev.flt with unlocked := false } } }
def s5 : State := { run with dev := { run.dev with guards := [(1, { addr := unitBase .time 0 + 0x18, value := 1#32 })] } }
def s6 : State := { run with dev := { run.dev with guards := [(2, { addr := unitBase .sec 0 + 0x58, value := 1#32 })] } }
def s7 : State := { run with dev := { run.dev with guards := [(2, { addr := unitBase .sec 0 + 0x50, value := 1#32 })] } }
def s8 : State := { run with dev := { run.dev with reports := [rep 120] } }
def s9 : State := { run with dev := { putF run.dev .customs 0 (0x800 + 8 * 1) 2 0 2 with reports := [rep 1] } }
def s10 : State := { run with dev := { putF run.dev .customs 0 (0x800 + 8 * 16) 2 0 4 with reports := [rep 16] } }
def s11 : State := { run with dev := { putF run.dev .customs 0 (0x800 + 8 * 16) 2 0 2 with reports := [rep 16] } }
def s12 : State := { ready with dev := { putF ready.dev .customs 0 (0x800 + 8 * 16) 2 0 2 with reports := [rep 16] } }
def s13 : State := { run with dev := { run.dev with flt := { run.dev.flt with unacked := [(5, { num := 0, cls := 1 }), (0, { num := 3, cls := 1 })], forced := true, fences := [(3, { source := 20 }), (4, { source := 21, wasReset := true })] } } }
def s14 : State := { run with dev := put (put run.dev .glob 0 0x30 0x12345678#32) .customs 0 0x38 1#32 }

theorem witness_WritesReachRegistersAndMemory :
    (∃ (s : State) (m : Fin 7) (u : UnitKind) (n : Nat) (o : Nat) (r : RegRow) (a : Word) (v : Word),
     u ∈ [UnitKind.glob, .pipe, .toll, .view, .harv, .tt] ∧ TakesWrite s m u n o v ∧ plainReg u n o = true ∧ rowAt u o = some r ∧
     a.toNat = unitBase u n + o ∧ r.sqc = 0 ∧ r.grd = 0 ∧ r.once = 0 ∧ r.pulse = 0 ∧ r.wo = 0 ∧ r.rw ≠ 0 ∧ r.rws = 0) ∧
    (∃ (s : State) (m : Fin 7) (u : UnitKind) (n : Nat) (o : Nat) (r : RegRow) (a : Word) (v : Word),
     u ∈ [UnitKind.glob, .pipe, .toll, .view, .harv, .tt] ∧ TakesWrite s m u n o v ∧ plainReg u n o = true ∧ rowAt u o = some r ∧
     a.toNat = unitBase u n + o ∧ r.sqc = 0 ∧ r.grd = 0 ∧ r.once = 0 ∧ r.pulse = 0 ∧ r.wo = 0 ∧ r.rw = 0 ∧ r.rws ≠ 0 ∧ u = .tt ∧ 0x400 ≤ o) ∧
    (∃ (s : State) (m : Fin 7) (u : UnitKind) (n : Nat) (o : Nat) (r : RegRow) (a : Word) (v : Word) (b : _),
     u ∈ [UnitKind.glob, .pipe, .toll, .view, .harv, .tt] ∧ TakesWrite s m u n o v ∧ plainReg u n o = true ∧ rowAt u o = some r ∧
     a.toNat = unitBase u n + o ∧ r.sqc = 0 ∧ r.grd = 0 ∧ r.once = 0 ∧ r.pulse = 0 ∧ r.wo = 0 ∧ r.rw = 0 ∧ r.rws ≠ 0 ∧ b ≠ a.toNat) ∧
    (∃ (s : State) (m : Fin 7) (w : Width) (a : Word) (i : _), s.dev.acts = [] ∧ modeAllows s.env m false a.toNat = true ∧ guardOf s.dev m = none ∧
     a.toNat % widthBytes w = 0 ∧ badAt s.dev a.toNat = false ∧ ((0x7C0000 ≤ a.toNat ∧ a.toNat < 0x800000) ∨ (inPan a.toNat = true ∧
     bankOn s.dev (panBank (a.toNat - panBase)) = true)) ∧ i < widthBytes w) ∧
    (∃ (s : State) (m : Fin 7) (w : Width) (a : Word) (b : _), s.dev.acts = [] ∧ modeAllows s.env m false a.toNat = true ∧ guardOf s.dev m = none ∧
     a.toNat % widthBytes w = 0 ∧ badAt s.dev a.toNat = false ∧ ((0x7C0000 ≤ a.toNat ∧ a.toNat < 0x800000) ∨ (inPan a.toNat = true ∧
     bankOn s.dev (panBank (a.toNat - panBase)) = true)) ∧ (b < a.toNat ∨ a.toNat + widthBytes w ≤ b)) ∧
    (∃ (s : State) (m : Fin 7) (w : Width) (a : Word), s.dev.acts = [] ∧ modeAllows s.env m false a.toNat = true ∧ guardOf s.dev m = none ∧
     a.toNat % widthBytes w = 0 ∧ badAt s.dev a.toNat = false ∧ ((0x7C0000 ≤ a.toNat ∧ a.toNat < 0x800000) ∨ (inPan a.toNat = true ∧
     bankOn s.dev (panBank (a.toNat - panBase)) = true)) ∧ memoryWf s.dev.mem = true) :=
  ⟨⟨run, 0, UnitKind.glob, 0, 0x30, (rowAt UnitKind.glob 0x30).get (by decide +kernel), BitVec.ofNat 32 (unitBase UnitKind.glob 0 + 0x30), 0#32,
   by decide +kernel⟩,
   ⟨run, 0, .tt, 0, 0x400, (rowAt (.tt) 0x400).get (by decide +kernel), BitVec.ofNat 32 (unitBase (.tt) 0 + 0x400), 0#32, by decide +kernel⟩,
   ⟨run, 0, UnitKind.glob, 0, 0x18, (rowAt UnitKind.glob 0x18).get (by decide +kernel), BitVec.ofNat 32 (unitBase UnitKind.glob 0 + 0x18), 0#32, 0,
   by decide +kernel⟩,
   ⟨run, 2, .half, 0x7C0002#32, 1, by decide +kernel⟩,
   ⟨run, 2, .half, 0x7C0002#32, 0x7C0004, by decide +kernel⟩,
   ⟨run, 1, .word, BitVec.ofNat 32 (panBase + 8), by decide +kernel⟩⟩
theorem witness_RejectedWritesAreLogged : ∃ (s : State) (m : Fin 7) (w : Width) (a : Word), s.dev.acts = [] ∧ guardOf s.dev m = none ∧ modeAllows s.env m false a.toNat = true ∧
    a.toNat < 0x700000 ∧ (a.toNat % widthBytes w ≠ 0 ∨ w ≠ .word ∨ unitAt a.toNat = none ∨ (∃ u n o, unitAt a.toNat = some (u, n, o) ∧ (0x2000 ≤ o ∨
    (isReservedWord u n o = false ∧ isPairWord u o = false ∧ (rowAt u o = none ∨ (∃ r, rowAt u o = some r ∧ (rowReadOnly r = true ∨
    blockOn s.dev u n = false ∨ (fenced s.dev u n = true ∧ u ≠ .drv)))))))) :=
  ⟨run, 1, .word, BitVec.ofNat 32 (unitBase .glob 0), ⟨by decide +kernel, by decide +kernel, by decide +kernel, by decide +kernel, Or.inr (Or.inr
  (Or.inr ⟨.glob, 0, 0, by decide +kernel, Or.inr ⟨by decide +kernel, by decide +kernel, Or.inr ⟨_, rfl, Or.inl (by decide +kernel)⟩⟩⟩))⟩⟩
theorem witness_SequenceClearStatus :
    (∃ (k : Nat) (i : _), k < 24 ∧ i < 24) ∧
    (∃ (s : State) (m : Fin 7) (u : UnitKind) (n : Nat) (o : Nat) (r : RegRow) (a : Word) (v : Word), TakesWrite s m u n o v ∧ plainReg u n o = true ∧
     rowAt u o = some r ∧ a.toNat = unitBase u n + o ∧ r.sqc ≠ 0 ∧ rowReadOnly r = false ∧ fld v 31 24 ≠ fld (rd s.dev a.toNat) 31 24) ∧
    (∃ (s : State) (m : Fin 7) (u : UnitKind) (n : Nat) (o : Nat) (r : RegRow) (a : Word) (v : Word) (i : _), TakesWrite s m u n o v ∧
     plainReg u n o = true ∧ rowAt u o = some r ∧ a.toNat = unitBase u n + o ∧ r.sqc ≠ 0 ∧ rowReadOnly r = false ∧
     fld v 31 24 = fld (rd s.dev a.toNat) 31 24 ∧ i < 32) :=
  ⟨⟨0, 0, by decide +kernel⟩,
   ⟨run, 0, .pipe, 0, 8, (rowAt (.pipe) 8).get (by decide +kernel), BitVec.ofNat 32 (unitBase (.pipe) 0 + 8), 0xFFFFFFFF#32, by decide +kernel⟩,
   ⟨run, 0, .pipe, 0, 8, (rowAt (.pipe) 8).get (by decide +kernel), BitVec.ofNat 32 (unitBase (.pipe) 0 + 8), 0#32, 0, by decide +kernel⟩⟩
theorem witness_GuardedPairsAndBitAliasWrites :
    (∃ (s : State) (m : Fin 7) (n : Nat) (o : Nat) (u : UnitKind) (r : RegRow) (a : Word) (v : Word) (k : _), plainReg u n o = true ∧
     rowAt u o = some r ∧ r.grd ≠ 0 ∧ a.toNat = unitBase u n + o ∧ TakesWrite s m u n o v ∧ k ≠ m.val) ∧
    (∃ (s : State) (m : Fin 7) (n : Nat) (o : Nat) (u : UnitKind) (r : RegRow) (a : Word), plainReg u n o = true ∧ rowAt u o = some r ∧ r.grd ≠ 0 ∧
     a.toNat = unitBase u n + o ∧ s.dev.acts = [] ∧ modeAllows s.env m false (a.toNat + 4) = true ∧ writeAllowed m u n (o + 4) = true ∧
     blockOn s.dev u n = true ∧ guardOf s.dev m = none) ∧
    (∃ (s : State) (m : Fin 7) (n : Nat) (o : Nat) (u : UnitKind) (r : RegRow) (a : Word) (v : Word) (x : Word), plainReg u n o = true ∧
     rowAt u o = some r ∧ r.grd ≠ 0 ∧ a.toNat = unitBase u n + o ∧ s.dev.acts = [] ∧ modeAllows s.env m false (a.toNat + 4) = true ∧
     writeAllowed m u n (o + 4) = true ∧ blockOn s.dev u n = true ∧ guardOf s.dev m = some { addr := a.toNat, value := x } ∧ v ≠ ~~~ x) ∧
    (∃ (s : State) (m : Fin 7) (n : Nat) (o : Nat) (u : UnitKind) (r : RegRow) (a : Word) (v : Word) (x : Word), plainReg u n o = true ∧
     rowAt u o = some r ∧ r.grd ≠ 0 ∧ a.toNat = unitBase u n + o ∧ s.dev.acts = [] ∧ modeAllows s.env m false (a.toNat + 4) = true ∧
     writeAllowed m u n (o + 4) = true ∧ blockOn s.dev u n = true ∧ guardOf s.dev m = some { addr := a.toNat, value := x } ∧ v = ~~~ x ∧
     u = .customs ∧ o = 8) ∧
    (∃ (s : State) (m : Fin 7) (n : Nat) (o : Nat) (u : UnitKind) (r : RegRow) (a : Word) (v : Word) (x : Word), plainReg u n o = true ∧
     rowAt u o = some r ∧ r.grd ≠ 0 ∧ a.toNat = unitBase u n + o ∧ s.dev.acts = [] ∧ modeAllows s.env m false (a.toNat + 4) = true ∧
     writeAllowed m u n (o + 4) = true ∧ blockOn s.dev u n = true ∧ guardOf s.dev m = some { addr := a.toNat, value := x } ∧ v = ~~~ x ∧
     u = .customs ∧ 0x800 ≤ o ∧ fld x 2 0 ≤ 4) ∧
    (∃ (s : State) (m : Fin 7) (n : Nat) (o : Nat) (u : UnitKind) (r : RegRow) (a : Word) (v : Word) (x : Word), plainReg u n o = true ∧
     rowAt u o = some r ∧ r.grd ≠ 0 ∧ a.toNat = unitBase u n + o ∧ s.dev.acts = [] ∧ modeAllows s.env m false (a.toNat + 4) = true ∧
     writeAllowed m u n (o + 4) = true ∧ blockOn s.dev u n = true ∧ guardOf s.dev m = some { addr := a.toNat, value := x } ∧ v = ~~~ x ∧
     u = .customs ∧ o = 16 ∧ x ≠ 1) ∧
    (∃ (s : State) (m : Fin 7) (n : Nat) (o : Nat) (u : UnitKind) (r : RegRow) (a : Word) (v : Word) (x : Word), plainReg u n o = true ∧
     rowAt u o = some r ∧ r.grd ≠ 0 ∧ a.toNat = unitBase u n + o ∧ s.dev.acts = [] ∧ modeAllows s.env m false (a.toNat + 4) = true ∧
     writeAllowed m u n (o + 4) = true ∧ blockOn s.dev u n = true ∧ guardOf s.dev m = some { addr := a.toNat, value := x } ∧ v = ~~~ x ∧
     u = .customs ∧ o = 16 ∧ x = 1 ∧ s.dev.flt.unlocked = true) ∧
    (∃ (s : State) (m : Fin 7) (n : Nat) (o : Nat) (u : UnitKind) (r : RegRow) (a : Word) (v : Word) (x : Word), plainReg u n o = true ∧
     rowAt u o = some r ∧ r.grd ≠ 0 ∧ a.toNat = unitBase u n + o ∧ s.dev.acts = [] ∧ modeAllows s.env m false (a.toNat + 4) = true ∧
     writeAllowed m u n (o + 4) = true ∧ blockOn s.dev u n = true ∧ guardOf s.dev m = some { addr := a.toNat, value := x } ∧ v = ~~~ x ∧
     u = .customs ∧ o = 16 ∧ x = 1 ∧ s.dev.flt.unlocked = false) ∧
    (∃ (s : State) (m : Fin 7) (n : Nat) (o : Nat) (u : UnitKind) (r : RegRow) (a : Word) (v : Word) (x : Word), plainReg u n o = true ∧
     rowAt u o = some r ∧ r.grd ≠ 0 ∧ a.toNat = unitBase u n + o ∧ s.dev.acts = [] ∧ modeAllows s.env m false (a.toNat + 4) = true ∧
     writeAllowed m u n (o + 4) = true ∧ blockOn s.dev u n = true ∧ guardOf s.dev m = some { addr := a.toNat, value := x } ∧ v = ~~~ x ∧ u = .time ∧
     flag x 0 = true ∧ stepOk (stepArgs s.dev) s.clock.now = true) ∧
    (∃ (s : State) (m : Fin 7) (n : Nat) (o : Nat) (u : UnitKind) (r : RegRow) (a : Word) (v : Word) (x : Word), plainReg u n o = true ∧
     rowAt u o = some r ∧ r.grd ≠ 0 ∧ a.toNat = unitBase u n + o ∧ s.dev.acts = [] ∧ modeAllows s.env m false (a.toNat + 4) = true ∧
     writeAllowed m u n (o + 4) = true ∧ blockOn s.dev u n = true ∧ guardOf s.dev m = some { addr := a.toNat, value := x } ∧ v = ~~~ x ∧ u = .sec ∧
     o = 0x58) ∧
    (∃ (s : State) (m : Fin 7) (n : Nat) (o : Nat) (u : UnitKind) (r : RegRow) (a : Word) (v : Word) (x : Word), plainReg u n o = true ∧
     rowAt u o = some r ∧ r.grd ≠ 0 ∧ a.toNat = unitBase u n + o ∧ s.dev.acts = [] ∧ modeAllows s.env m false (a.toNat + 4) = true ∧
     writeAllowed m u n (o + 4) = true ∧ blockOn s.dev u n = true ∧ guardOf s.dev m = some { addr := a.toNat, value := x } ∧ v = ~~~ x ∧ u = .sec ∧
     o = 0x50) ∧
    (∃ (s : State) (m : Fin 7) (n : Nat) (o : Nat) (u : UnitKind) (r : RegRow) (a : Word) (v : Word) (x : Word), plainReg u n o = true ∧
     rowAt u o = some r ∧ r.grd ≠ 0 ∧ a.toNat = unitBase u n + o ∧ s.dev.acts = [] ∧ modeAllows s.env m false (a.toNat + 4) = true ∧
     writeAllowed m u n (o + 4) = true ∧ blockOn s.dev u n = true ∧ guardOf s.dev m = some { addr := a.toNat, value := x } ∧ v = ~~~ x ∧ u = .glob ∧
     x = 0x9616 ∧ s.sys.mode ≠ .halt ∧ ¬ (2 ∈ s.sys.resets)) ∧
    (∃ (s : State) (m : Fin 7) (n : Nat) (o : Nat) (u : UnitKind) (r : RegRow) (a : Word), plainReg u n o = true ∧ rowAt u o = some r ∧ r.grd ≠ 0 ∧
     a.toNat = unitBase u n + o ∧ aonRuns s.sys = true ∧ s.dev.acts = [] ∧ guardOf s.dev m = none) ∧
    (∃ (s : State) (m : Fin 7) (n : Nat) (o : Nat) (u : UnitKind) (r : RegRow) (a : Word) (g : _), plainReg u n o = true ∧ rowAt u o = some r ∧
     r.grd ≠ 0 ∧ a.toNat = unitBase u n + o ∧ aonRuns s.sys = true ∧ s.dev.acts = [] ∧ guardOf s.dev m = some g) ∧
    (∃ (s : State) (m : Fin 7) (u : UnitKind) (n o : Nat) (r : RegRow) (a x : Word) (b : Fin 32) (i : Nat),
     writeFits s.env s.dev u n o = (fun _ => true) ∧ plainReg u n o = true ∧ rowAt u o = some r ∧ a.toNat = unitBase u n + o ∧
     guardOf s.dev m = none ∧ s.dev.acts = [] ∧ modeAllows s.env m false a.toNat = true ∧ flag (aliasBits r) b = true ∧
     u ∈ [UnitKind.glob, .pipe, .toll, .view, .harv, .tt] ∧ TakesWrite s m u n o x ∧ r.rw.testBit b = true ∧ r.rws = 0 ∧ r.sqc = 0 ∧ r.grd = 0 ∧
     r.once = 0 ∧ stagedAt s.dev a.toNat = rd s.dev a.toNat ∧ i < 32) ∧
    (∃ (s : State) (m : Fin 7) (u : UnitKind) (n : Nat) (o : Nat) (r : RegRow) (a : Word) (b : Fin 32), plainReg u n o = true ∧ rowAt u o = some r ∧
     a.toNat = unitBase u n + o ∧ guardOf s.dev m = none ∧ s.dev.acts = [] ∧ modeAllows s.env m false a.toNat = true ∧ flag (aliasBits r) b = false) :=
  ⟨⟨run, 0, 0, 8, .glob, (rowAt (.glob) 8).get (by decide +kernel), BitVec.ofNat 32 (unitBase (.glob) 0 + 8), 0#32, 1, by decide +kernel⟩,
   ⟨run, 0, 0, 8, .glob, (rowAt (.glob) 8).get (by decide +kernel), BitVec.ofNat 32 (unitBase (.glob) 0 + 8), by decide +kernel⟩,
   ⟨s1, 6, 0, 8, .customs, (rowAt .customs 8).get (by decide +kernel), BitVec.ofNat 32 (unitBase .customs 0 + 8), 0xFFFF69E8#32, 0x9616#32,
   by decide +kernel⟩,
   ⟨s1, 6, 0, 8, .customs, (rowAt .customs 8).get (by decide +kernel), BitVec.ofNat 32 (unitBase .customs 0 + 8), 0xFFFF69E9#32, 0x9616#32,
   by decide +kernel⟩,
   ⟨s1, 2, 0, 0x880, .customs, (rowAt .customs 0x880).get (by decide +kernel), BitVec.ofNat 32 (unitBase .customs 0 + 0x880), 0xFFFFFFFE#32, 1#32,
   by decide +kernel⟩,
   ⟨s2, 6, 0, 0x10, .customs, (rowAt .customs 0x10).get (by decide +kernel), BitVec.ofNat 32 (unitBase .customs 0 + 0x10), ~~~ (5#32), 5#32,
   by decide +kernel⟩,
   ⟨s3, 6, 0, 0x10, .customs, (rowAt .customs 0x10).get (by decide +kernel), BitVec.ofNat 32 (unitBase .customs 0 + 0x10), ~~~ (1#32), 1#32,
   by decide +kernel⟩,
   ⟨s4, 6, 0, 0x10, .customs, (rowAt .customs 0x10).get (by decide +kernel), BitVec.ofNat 32 (unitBase .customs 0 + 0x10), ~~~ (1#32), 1#32,
   by decide +kernel⟩,
   ⟨s5, 1, 0, 0x18, .time, (rowAt .time 0x18).get (by decide +kernel), BitVec.ofNat 32 (unitBase .time 0 + 0x18), ~~~ (1#32), 1#32, by decide +kernel⟩,
   ⟨s6, 2, 0, 0x58, .sec, (rowAt .sec 0x58).get (by decide +kernel), BitVec.ofNat 32 (unitBase .sec 0 + 0x58), ~~~ (1#32), 1#32, by decide +kernel⟩,
   ⟨s7, 2, 0, 0x50, .sec, (rowAt .sec 0x50).get (by decide +kernel), BitVec.ofNat 32 (unitBase .sec 0 + 0x50), ~~~ (1#32), 1#32, by decide +kernel⟩,
   ⟨s1, 1, 0, 8, .glob, (rowAt (.glob) 8).get (by decide +kernel), BitVec.ofNat 32 (unitBase (.glob) 0 + 8), ~~~ 0x9616, 0x9616, by decide +kernel⟩,
   ⟨run, 0, 0, 8, .glob, (rowAt (.glob) 8).get (by decide +kernel), BitVec.ofNat 32 (unitBase (.glob) 0 + 8), by decide +kernel⟩,
   ⟨s1, 1, 0, 8, .glob, (rowAt (.glob) 8).get (by decide +kernel), BitVec.ofNat 32 (unitBase (.glob) 0 + 8), (guardOf s1.dev 1).get
   (by decide +kernel), by decide +kernel⟩,
   ⟨run, 0, .glob, 0, 0x30, (rowAt .glob 0x30).get (by decide +kernel), BitVec.ofNat 32 (unitBase .glob 0 + 0x30), 0#32, 31, 31, rfl,
   by decide +kernel⟩,
   ⟨run, 0, .glob, 0, 0, (rowAt (.glob) 0).get (by decide +kernel), BitVec.ofNat 32 (unitBase (.glob) 0 + 0), 0, by decide +kernel⟩⟩
theorem witness_FaultsAreRegisteredOrJoinTheirLedgerEntry :
    (∃ (s : State) (r : Report) (l : List Report) (acted : Nat), AonOn s ∧ s.sys.mode ≠ .fallow ∧ s.dev.reports = r :: l ∧ r.forced = false ∧
     acted = (let k := classOf s.dev r; let e := if 1 ≤ k ∧ k ≤ 3 ∧ classOpen s.dev k = true then k + 1 else k; if e = 2 ∧
     sourceUnit r.source = none then 3 else e) ∧ (acted = 0 → noteEntry s.dev r.source = none) ∧ acted ≠ 4 ∧ (acted ≠ 2 ∨ (s.dev.trunk.curs = [] ∧
     s.dev.tapQueue = []))) ∧
    (∃ (s : State) (r : Report) (l : List Report) (acted : Nat), AonOn s ∧ s.sys.mode ≠ .fallow ∧ s.dev.reports = r :: l ∧ r.forced = false ∧
     acted = (let k := classOf s.dev r; let e := if 1 ≤ k ∧ k ≤ 3 ∧ classOpen s.dev k = true then k + 1 else k; if e = 2 ∧
     sourceUnit r.source = none then 3 else e) ∧ (acted = 0 → noteEntry s.dev r.source = none) ∧ (acted ≤ 1 ∨ 5 ≤ acted)) ∧
    (∃ (s : State) (r : Report) (l : List Report) (acted : Nat), AonOn s ∧ s.sys.mode ≠ .fallow ∧ s.dev.reports = r :: l ∧ r.forced = false ∧
     acted = (let k := classOf s.dev r; let e := if 1 ≤ k ∧ k ≤ 3 ∧ classOpen s.dev k = true then k + 1 else k; if e = 2 ∧
     sourceUnit r.source = none then 3 else e) ∧ (acted = 0 → noteEntry s.dev r.source = none) ∧ acted = 3 ∧ s.sys.mode ≠ .halt) ∧
    (∃ (s : State) (r : Report) (l : List Report) (acted : Nat), AonOn s ∧ s.sys.mode ≠ .fallow ∧ s.dev.reports = r :: l ∧ r.forced = false ∧
     acted = (let k := classOf s.dev r; let e := if 1 ≤ k ∧ k ≤ 3 ∧ classOpen s.dev k = true then k + 1 else k; if e = 2 ∧
     sourceUnit r.source = none then 3 else e) ∧ (acted = 0 → noteEntry s.dev r.source = none) ∧ acted = 4) ∧
    (∃ (s : State) (r : Report) (l : List Report) (acted : Nat) (c : _), AonOn s ∧ s.sys.mode ≠ .fallow ∧ s.dev.reports = r :: l ∧ r.forced = false ∧
     acted = (let k := classOf s.dev r; let e := if 1 ≤ k ∧ k ≤ 3 ∧ classOpen s.dev k = true then k + 1 else k; if e = 2 ∧
     sourceUnit r.source = none then 3 else e) ∧ (acted = 0 → noteEntry s.dev r.source = none) ∧ acted = 2 ∧ sourceUnit r.source = some c ∧
     codeUnit c ≠ none ∧ codeFenced s.dev c = false ∧ s.sys.mode = .run) ∧
    (∃ (s : State) (r : Report) (l : List Report) (acted : Nat) (c : _), AonOn s ∧ s.sys.mode ≠ .fallow ∧ s.dev.reports = r :: l ∧ r.forced = false ∧
     acted = (let k := classOf s.dev r; let e := if 1 ≤ k ∧ k ≤ 3 ∧ classOpen s.dev k = true then k + 1 else k; if e = 2 ∧
     sourceUnit r.source = none then 3 else e) ∧ (acted = 0 → noteEntry s.dev r.source = none) ∧ acted = 2 ∧ sourceUnit r.source = some c ∧
     codeUnit c ≠ none ∧ codeFenced s.dev c = false ∧ s.sys.mode ≠ .run) ∧
    (∃ (s : State) (r : Report) (l : List Report) (i : Nat), AonOn s ∧ s.sys.mode ≠ .fallow ∧ s.dev.reports = r :: l ∧ r.forced = false ∧
     classOf s.dev r = 0 ∧ noteEntry s.dev r.source = some i ∧ r.source ≠ 142) :=
  ⟨⟨s8, (s8.dev.reports).head (by decide +kernel), (s8.dev.reports).tail, 0, by decide +kernel⟩,
   ⟨s8, (s8.dev.reports).head (by decide +kernel), (s8.dev.reports).tail, 0, by decide +kernel⟩,
   ⟨s9, (s9.dev.reports).head (by decide +kernel), (s9.dev.reports).tail, 3, by decide +kernel⟩,
   ⟨s10, (s10.dev.reports).head (by decide +kernel), (s10.dev.reports).tail, 4, by decide +kernel⟩,
   ⟨s11, (s11.dev.reports).head (by decide +kernel), (s11.dev.reports).tail, 2, (sourceUnit ((s11.dev.reports).head (by decide +kernel)).source).get
   (by decide +kernel), by decide +kernel⟩,
   ⟨s12, (s12.dev.reports).head (by decide +kernel), (s12.dev.reports).tail, 2, (sourceUnit ((s12.dev.reports).head (by decide +kernel)).source).get
   (by decide +kernel), by decide +kernel⟩,
   ⟨noted, (noted.dev.reports).head (by decide +kernel), (noted.dev.reports).tail, (noteEntry noted.dev ((noted.dev.reports).head
   (by decide +kernel)).source).get (by decide +kernel), by decide +kernel⟩⟩
theorem witness_CollectorControlsAndHeartbeat :
    (∃ (s : State) (m : Fin 7) (v : Word) (i : Fin 6), TakesWrite s m .customs 0 (0x80 + 4 * i) v) ∧
    (∃ (s : State) (m : Fin 7) (v : Word), TakesWrite s m .customs 0 0x40 v ∧ heldBy s.dev (fld v 7 0) = none) ∧
    (∃ (s : State) (m : Fin 7) (v : Word) (h : _), TakesWrite s m .customs 0 0x40 v ∧ heldBy s.dev (fld v 7 0) = some h ∧ (h.num = fld v 31 24 ∨
     flag v 8 = true)) ∧
    (∃ (s : State) (m : Fin 7) (v : Word) (h : _), TakesWrite s m .customs 0 0x40 v ∧ heldBy s.dev (fld v 7 0) = some h ∧ h.num ≠ fld v 31 24 ∧
     flag v 8 = false) ∧
    (∃ (s : State) (m : Fin 7), TakesWrite s m .customs 0 4 2#32) ∧
    (∃ (s : State) (m : Fin 7), TakesWrite s m .customs 0 4 1#32) ∧
    (∃ (s : State) (m : Fin 7) (i : Fin 64), TakesWrite s m .customs 0 0x48 (BitVec.ofNat 32 i) ∧
     (getF s.dev .customs 0 0x48 13 8 + 64 - i.val) % 64 ≤ 32) ∧
    (∃ (s : State) (m : Fin 7) (i : Fin 64), TakesWrite s m .customs 0 0x48 (BitVec.ofNat 32 i) ∧
     32 < (getF s.dev .customs 0 0x48 13 8 + 64 - i.val) % 64) ∧
    (∃ (s : State) (m : Fin 7) (v : Word), TakesWrite s m .customs 0 0x3C v) ∧
    (∃ (s : State) (dt : Nat), s.dev.acts = [] ∧ aonRuns s.sys = true ∧ s.sys.mode ≠ .fallow ∧ getF s.dev .customs 0 0x38 15 0 ≠ 0 ∧
     s.dev.flt.beatAt + getF s.dev .customs 0 0x38 15 0 * 500000 ≤ s.clock.cycles + dt) ∧
    (∃ (s : State) (dt : Nat), s.dev.acts = [] ∧ (s.sys.mode = .fallow ∨ getF s.dev .customs 0 0x38 15 0 = 0 ∨
     s.clock.cycles + dt < s.dev.flt.beatAt + getF s.dev .customs 0 0x38 15 0 * 500000)) :=
  ⟨⟨run, 2, 0#32, 0, by decide +kernel⟩,
   ⟨run, 2, 0#32, by decide +kernel⟩,
   ⟨s13, 2, 0x00000105#32, (heldBy s13.dev (fld 0x00000105#32 7 0)).get (by decide +kernel), by decide +kernel⟩,
   ⟨s13, 2, 0#32, (heldBy s13.dev (fld 0#32 7 0)).get (by decide +kernel), by decide +kernel⟩,
   ⟨run, 2, by decide +kernel⟩,
   ⟨run, 2, by decide +kernel⟩,
   ⟨run, 2, 0, by decide +kernel⟩,
   ⟨run, 2, 1, by decide +kernel⟩,
   ⟨run, 2, 0#32, by decide +kernel⟩,
   ⟨s14, 0x7C0000, by decide +kernel⟩,
   ⟨run, 0, by decide +kernel⟩⟩
theorem witness_UnitResetAndReturn :
    (∃ (s : State) (m : Fin 7) (c : Fin 256), TakesWrite s m .customs 0 0x44 (BitVec.ofNat 32 (0x100 + c)) ∧ (codeUnit c = none ∨
     fenceOf s.dev c = none)) ∧
    (∃ (s : State) (m : Fin 7) (c : Fin 256) (u : _) (n : _) (f : _) (o : _), TakesWrite s m .customs 0 0x44 (BitVec.ofNat 32 (0x100 + c)) ∧
     codeUnit c = some (u, n) ∧ fenceOf s.dev c = some f ∧ u ≠ .feeder ∧ o < 0x2000) ∧
    (∃ (s : State) (m : Fin 7) (c : Fin 256) (u : _) (n : _) (f : _) (a : _), TakesWrite s m .customs 0 0x44 (BitVec.ofNat 32 (0x100 + c)) ∧
     codeUnit c = some (u, n) ∧ fenceOf s.dev c = some f ∧ 0x4000 ≤ a ∧ a < 0x6000) ∧
    (∃ (s : State) (m : Fin 7) (c : Fin 256), TakesWrite s m .customs 0 0x44 (BitVec.ofNat 32 (0x200 + c)) ∧ (codeUnit c = none ∨
     fenceOf s.dev c = none ∨ (∃ f, fenceOf s.dev c = some f ∧ (f.wasReset = false ∨ heldBy s.dev f.source ≠ none)))) ∧
    (∃ (s : State) (m : Fin 7) (c : Fin 256) (f : _), TakesWrite s m .customs 0 0x44 (BitVec.ofNat 32 (0x200 + c)) ∧ codeUnit c ≠ none ∧
     fenceOf s.dev c = some f ∧ f.wasReset = true ∧ heldBy s.dev f.source = none) :=
  ⟨⟨run, 2, 0, by decide +kernel⟩,
   ⟨s13, 2, 3, ((codeUnit 3).get (by decide +kernel)).1, ((codeUnit 3).get (by decide +kernel)).2, (fenceOf s13.dev 3).get (by decide +kernel), 0,
   by decide +kernel⟩,
   ⟨s13, 2, 3, ((codeUnit 3).get (by decide +kernel)).1, ((codeUnit 3).get (by decide +kernel)).2, (fenceOf s13.dev 3).get (by decide +kernel),
   0x4800, by decide +kernel⟩,
   ⟨run, 2, 0, by decide +kernel⟩,
   ⟨s13, 2, 4, (fenceOf s13.dev 4).get (by decide +kernel), by decide +kernel⟩⟩

end Sys2Proof.Tests.Registers

namespace Sys2Proof.Tests.Power

set_option maxRecDepth 100000
set_option Elab.async false

open Sys2Proof.Machine

def feedS (st : FeedState) (w : Bool) : Dev → Dev := fun d => { d with power := { d.power with feeds := vmod d.power.feeds 1 (fun _ => { state := st, cls := 2, wait := w }) } }
def lvl (k : Nat) : Dev → Dev := fun d => put d .power 0 0x48 (BitVec.ofNat 32 (k * 2 ^ 24))
def cm (l : List Nat) (g : Option Nat) (r : List Nat) (tree : Nat) : State := mk .run (fun d => put { (poke (put (put d .power 0 0x1C 0#32) .power 0 0x20 0x38000#32) panBase [5,6]) with power := { d.power with coming := l, granted := g, retained := r } } .glob 0 0x10 (BitVec.ofNat 32 (2^31 + tree * 65536)))
def s1 : State := mk .run (fun d => put (put d .power 0 0x14 0xFFFFFFFE#32) .power 0 0x18 0x3FFFF#32)
def s2 : State := cm [33, 34, 3, 3, 20] none [] 0
def s3 : State := cm [20, 14] (some 1) [] 9
def s4 : State := cm [33, 39] none [] 0
def s5 : State := cm [39] (some 2) [39] 0
def s6 : State := mk .run (lvl 3 ∘ feedS .detect false)
def s7 : State := mk .run (lvl 3 ∘ feedS .detect true)
def s8 : State := mk .run (feedS .ramp false)
def s9 : State := mk .run (fun d => onGroup (feedS .hold false d) 2 (fun g => { g with state := .waitLine }))
def s10 : State := mk .run (feedS .hold false)
def s11 : State := mk .run (feedS .backoff false)
def s12 : State := mk .run (fun d => putF d .power 0 0x20 17 17 0)
def s13 : State := mk .fallow id

theorem witness_DomainsAreJudgedSwitchedAndGoverned :
    (∃ (s : State) (m : Fin 7), TakesWrite s m .power 0 0x24 1#32 ∧ (dependOk (wanted s.dev) = false ∨
     judgeBudget s.dev < chargeSet s.dev (feederCharged s.dev) (profileReq s.dev) (wanted s.dev))) ∧
    (∃ (s : State) (m : Fin 7), TakesWrite s m .power 0 0x24 1#32 ∧ dependOk (wanted s.dev) = true ∧
     chargeSet s.dev (feederCharged s.dev) (profileReq s.dev) (wanted s.dev) ≤ judgeBudget s.dev ∧ (∀ k : Fin 4, switched s.dev (39 + k) = true →
     wanted s.dev (39 + k) = true) ∧ s.dev.power.retained = [] ∧ s.dev.trunk.curs = [] ∧ s.dev.tapQueue = []) ∧
    (∃ (s : State), UnitsOn s ∧ s.dev.power.coming = [] ∧ s.dev.power.granted = none) ∧
    (∃ (s : State) (a : _) (k : _) (l : _) (j : Fin 50), UnitsOn s ∧ s.dev.power.coming = a ++ k :: l ∧ (∀ j ∈ a, 32 ≤ j ∧ j ≤ 39) ∧ 1 ≤ k ∧ k ≤ 50 ∧
     ¬ (32 ≤ k ∧ k ≤ 39) ∧ j.val + 1 ≠ k) ∧
    (∃ (s : State) (a : _) (k : _) (l : _) (c : _), UnitsOn s ∧ s.dev.power.coming = a ++ k :: l ∧ (∀ j ∈ a, 32 ≤ j ∧ j ≤ 39) ∧ 1 ≤ k ∧ k ≤ 50 ∧
     ¬ (32 ≤ k ∧ k ≤ 39) ∧ s.dev.power.granted = some c) ∧
    (∃ (s : State) (a : _), UnitsOn s ∧ s.dev.power.coming ≠ [] ∧ (∀ k ∈ s.dev.power.coming, 32 ≤ k ∧ k ≤ 39) ∧ 39 ∈ s.dev.power.coming ∧
     39 ∉ s.dev.power.retained ∧ inPan a = true) ∧
    (∃ (s : State), UnitsOn s ∧ s.dev.power.coming ≠ [] ∧ (∀ k ∈ s.dev.power.coming, 32 ≤ k ∧ k ≤ 39) ∧ (39 ∉ s.dev.power.coming ∨
     39 ∈ s.dev.power.retained)) ∧
    (∃ (s : State) (a : _), UnitsOn s ∧ s.dev.power.coming ≠ [] ∧ (∀ k ∈ s.dev.power.coming, 32 ≤ k ∧ k ≤ 39) ∧ inPan a = false) ∧
    (∃ (s : State), AonOn s ∧ s.dev.power.granted = none) ∧
    (∃ (s : State) (c : _), AonOn s ∧ s.dev.power.granted = some c ∧ chargeNow s.dev ≤ classBudget c) :=
  ⟨⟨s1, 0, by decide +kernel⟩,
   ⟨s2, 0, by decide +kernel⟩,
   ⟨run, by decide +kernel⟩,
   ⟨s2, [33, 34], 3, [3, 20], 0, by decide +kernel⟩,
   ⟨s3, [], 20, [14], 1, by decide +kernel⟩,
   ⟨s4, panBase, by decide +kernel⟩,
   ⟨s5, by decide +kernel⟩,
   ⟨s4, 0, by decide +kernel⟩,
   ⟨run, by decide +kernel⟩,
   ⟨s5, (s5.dev.power.granted).get (by decide +kernel), by decide +kernel⟩⟩
theorem witness_FeederLinesFollowTheirStates :
    (∃ (s : State) (f : Fin 2) (ma : Nat), UnitsOn s ∧ (feedOf s.dev f).state = .detect ∧ (feedOf s.dev f).wait = false ∧ 1 ≤ signatureClass ma ∧
     signatureClass ma ≤ getF s.dev .power 0 (0x40 + 8 * f) 26 24) ∧
    (∃ (s : State) (f : Fin 2) (ma : Nat), UnitsOn s ∧ (feedOf s.dev f).state = .detect ∧ (feedOf s.dev f).wait = false ∧ (signatureClass ma = 0 ∨
     getF s.dev .power 0 (0x40 + 8 * f) 26 24 < signatureClass ma)) ∧
    (∃ (s : State) (f : Fin 2), UnitsOn s ∧ (feedOf s.dev f).state = .detect ∧ (feedOf s.dev f).wait = true) ∧
    (∃ (s : State) (f : Fin 2), UnitsOn s ∧ (feedOf s.dev f).state = .ramp) ∧
    (∃ (s : State) (f : Fin 2), UnitsOn s ∧ (feedOf s.dev f).state = .hold ∧ (vget s.dev.groups (f + 1)).state = .waitLine ∧ s.dev.power.pllUp = true) ∧
    (∃ (s : State) (f : Fin 2), UnitsOn s ∧ (feedOf s.dev f).state = .hold ∧ ((vget s.dev.groups (f + 1)).state ≠ .waitLine ∨
     s.dev.power.pllUp = false)) ∧
    (∃ (s : State) (f : Fin 2), UnitsOn s ∧ (feedOf s.dev f).state ∈ [.ramp, .hold, .on] ∧ (vget s.dev.groups (f + 1)).opens = []) ∧
    (∃ (s : State) (f : Fin 2), UnitsOn s ∧ (feedOf s.dev f).state = .backoff) :=
  ⟨⟨s6, 1, 30, by decide +kernel⟩,
   ⟨s6, 1, 0, by decide +kernel⟩,
   ⟨s7, 1, by decide +kernel⟩,
   ⟨s8, 1, by decide +kernel⟩,
   ⟨s9, 1, by decide +kernel⟩,
   ⟨s10, 1, by decide +kernel⟩,
   ⟨s8, 1, by decide +kernel⟩,
   ⟨s11, 1, by decide +kernel⟩⟩
theorem witness_HeatIsMonitored :
    (∃ (s : State), AonOn s ∧ domainOn s.dev 50 = false) ∧
    (∃ (s : State) (temps : Vector Int 14) (tj : Int) (k : Fin 14), AonOn s ∧ domainOn s.dev 50 = true ∧ (∃ k : Fin 13, tj = temps[k.val]) ∧
     (∀ k : Fin 13, temps[k.val] ≤ tj)) ∧
    (∃ (s : State) (temps : Vector Int 14) (tj : Int), AonOn s ∧ domainOn s.dev 50 = true ∧ (∃ k : Fin 13, tj = temps[k.val]) ∧
     (∀ k : Fin 13, temps[k.val] ≤ tj) ∧ s.dev.power.cool = false ∧ 2160 ≤ tj) ∧
    (∃ (s : State), AonOn s ∧ s.sys.mode ≠ .fallow) ∧
    (∃ (s : State), AonOn s ∧ s.sys.mode = .fallow) ∧
    (∃ (s : State) (m : Fin 7), AonOn s ∧ TakesWrite s m .thermal 0 0xC 0x80000000#32) :=
  ⟨⟨s12, by decide +kernel⟩,
   ⟨run, (Vector.replicate 14 (400 : Int)).set 12 2400, 2400, 13, ⟨by decide +kernel, by decide +kernel, ⟨12, by decide +kernel⟩, by decide +kernel⟩⟩,
   ⟨run, (Vector.replicate 14 (400 : Int)).set 12 2400, 2400, by decide +kernel⟩,
   ⟨run, by decide +kernel⟩,
   ⟨s13, by decide +kernel⟩,
   ⟨run, 0, by decide +kernel⟩⟩

end Sys2Proof.Tests.Power

namespace Sys2Proof.Tests.Jorran

set_option maxRecDepth 100000
set_option Elab.async false

open Sys2Proof.Machine

def RR (op a b c : Nat) : Nat := op + a * 64 + b * 1024 + c * 16384
def EV (op a b c s i : Nat) : Nat := op + a * 64 + b * 1024 + c * 16384 + s * 2 ^ 18 + i * 2 ^ 21
def RI (op a b : Nat) (i : Int) : Nat := op + a * 64 + b * 1024 + (i % 2 ^ 18).toNat * 2 ^ 14
def drvRegs (n : Nat) : List (Nat × Word) := [(1, 0x80000007#32), (2, 0x00000023#32), (4, 0x102#32), (13, 0x300#32), (5, BitVec.ofNat 32 (0x780000 + n * 0x10000)), (6, 0x7C0010#32), (7, BitVec.ofNat 32 (unitBase .glob 0 + 0x30)), (8, BitVec.ofNat 32 (panBase + 0x40)), (9, 0x12340001#32), (10, 3#32), (11, 0x80000000#32), (12, 31#32 + 16#32)]
def baseD (d : Dev) : Dev := { (putF d .drv 0 0x44 11 0 0o4110 |> fun d => put (put (put d .drv 0 0x20 0xFFFFFFFF#32) .drv 0 0x24 0xFFFFFFFF#32) .drv 1 0x20 3#32) with boxes := vmod (vmod d.boxes 1 (fun b => { b with inbox := [[1#8, 2#8, 3#8], [4#8]] })) 0 (fun b => { b with outbox := List.replicate 8 [1#8] }) }
def jor (n pc w : Nat) (f : Dev → Dev) (g : Drover → Drover) : State :=
  mk .run (fun d => f (baseD (onDrv (memWrite d (imBase n + pc) (leBytes 4 w)) n (fun v => g { v with state := .running, pc := pc, regs := drvRegs n }))))
def s1 : State := jor 1 0x100 (RI 0x11 3 0 0x3FFFF) id id
def s2 : State := jor 1 0x100 (RI 0x20 1 2 3) id id
def s3 : State := jor 1 0x100 (RI 0x21 1 2 3) id id
def s4 : State := jor 1 0x100 (RI 0x21 1 2 (-0x100)) id id
def s5 : State := jor 1 0x100 (RI 0x25 0 0 3) id id
def s6 : State := jor 1 0x100 (RI 0x25 0 0 (-100)) id id
def s7 : State := jor 1 0x100 (RR 0xB 3 13 0) id id
def s8 : State := jor 1 0x100 (RR 0xB 3 4 0) id id
def s9 : State := jor 1 0x100 (RI 0x13 3 5 1) id id
def s10 : State := jor 1 0x100 (RI 0x12 3 5 0) id id
def s11 : State := jor 0 0x100 (RI 0x14 3 5 0) (fun d => { d with badLines := [0x780000, 0x7C0000] }) id
def s12 : State := jor 1 0x100 (RI 0x12 3 7 0) id id
def s13 : State := jor 1 0x100 (RI 0x12 3 8 4) id id
def s14 : State := jor 1 0x100 (RI 0x16 3 5 1) id id
def s15 : State := jor 1 0x100 (RI 0x15 3 5 0) id id
def s16 : State := jor 1 0x100 (RI 0x15 3 7 0) id id
def s17 : State := jor 1 0x100 (RI 0x15 3 8 4) id id
def s18 : State := jor 1 0x100 (RI 0x15 3 7 0) id (fun v =>
    { v with pend := 0x8000000F, stores := List.replicate 8 { addr := 0x100, data := 0, width := 4, pc := 0 }, openSet := some { ctx := 3, epoch := 0 } })
def s19 : State := jor 1 0x100 (RI 0x15 3 5 0) id (fun v =>
    { v with pend := 0x8000000F, stores := List.replicate 8 { addr := 0x100, data := 0, width := 4, pc := 0 }, openSet := some { ctx := 3, epoch := 0 } })
def s20 : State := jor 1 0x100 (EV 0x38 0 0 0 0 0) id id
def s21 : State := jor 1 0x100 (EV 0x38 0 0 0 0 0) id (fun v =>
    { v with pend := 0x8000000F, stores := List.replicate 8 { addr := 0x100, data := 0, width := 4, pc := 0 }, openSet := some { ctx := 3, epoch := 0 } })
def s22 : State := jor 1 0x100 (EV 0x30 3 1 2 0 0) id (fun v =>
    { v with pend := 0x8000000F, stores := List.replicate 8 { addr := 0x100, data := 0, width := 4, pc := 0 }, openSet := some { ctx := 3, epoch := 0 } })
def s23 : State := jor 1 0x100 (EV 0x30 3 10 11 1 0) id (fun v =>
    { v with pend := 0x8000000F, stores := List.replicate 8 { addr := 0x100, data := 0, width := 4, pc := 0 }, openSet := some { ctx := 3, epoch := 0 } })
def s24 : State := jor 1 0x100 (EV 0x30 3 0 0 0 0) id id
def s25 : State := jor 1 0x100 (EV 0x30 3 1 2 0 0) id id
def s26 : State := jor 1 0x100 (EV 0x30 3 10 11 1 0) id id
def s27 : State := jor 0 0x100 0 id id |> fun s =>
    { s with dev := onDrv s.dev 0 (fun v => { v with state := .waiting, pend := 3, sleep := some { mask := 3, rd := 3 } }) }
def s28 : State := jor 0 0x100 0 id id |> fun s =>
    { s with dev := onDrv s.dev 0 (fun v => { v with state := .waiting, pend := 4, sleep := some { mask := 3, rd := 3 } }) }
def s29 : State := jor 1 0x100 (RR 1 3 1 2) id id
def s30 : State := jor 1 0x100 (EV 0x33 0 1 0 0 0) id (fun v =>
    { v with pend := 0x8000000F, stores := List.replicate 8 { addr := 0x100, data := 0, width := 4, pc := 0 }, openSet := some { ctx := 3, epoch := 0 } })
def s31 : State := jor 1 0x100 (EV 0x33 0 1 0 0 0) id id
def s32 : State := jor 1 0x100 (EV 0x33 0 12 0 0 0) id id
def s33 : State := jor 1 0x100 (EV 0x34 3 5 4 0 0) id id
def s34 : State := jor 1 0x100 (EV 0x35 3 1 0 0 1) id id
def s35 : State := jor 1 0x100 (EV 0x35 3 7 0 0 1) id id
def s36 : State := jor 1 0x100 (EV 0x34 3 5 4 0 1) id id
def s37 : State := jor 1 0x100 (EV 0x34 3 5 9 0 2) id (fun v => wSet v 9 2#32)
def s38 : State := jor 0 0x100 (EV 0x34 3 5 10 0 0) id id
def s39 : State := jor 1 0x100 (EV 0x34 3 5 10 0 1) id id
def s40 : State := jor 0 0x100 (EV 0x35 3 5 0 0 0) id id
def s41 : State := jor 1 0x100 (EV 0x35 3 5 0 0 1) id id
def s42 : State := jor 1 0x100 (EV 0x37 3 0 0 0 0) id id
def s43 : State := jor 1 0x100 (EV 0x37 3 0 0 0 1) id id
def s44 : State := jor 1 0x100 (EV 0x36 3 1 2 0 2) id id
def s45 : State := jor 1 0x100 (EV 0x36 3 0 0 0 6) id id
def s46 : State := jor 1 0x100 (EV 0x31 0 1 2 1 0) id id
def s47 : State := jor 1 0x100 (EV 0x31 0 9 1 0 0) id id
def s48 : State := jor 1 0x100 (EV 0x31 0 9 1 0 0) id (fun v =>
    { v with pend := 0x8000000F, stores := List.replicate 8 { addr := 0x100, data := 0, width := 4, pc := 0 }, openSet := some { ctx := 3, epoch := 0 } })
def s49 : State := jor 1 0x100 (EV 0x31 0 9 1 0 0) (fun d => putF d .ctx 3 0 0 0 1) (fun v =>
    { v with openSet := some { ctx := 3, epoch := 5, overflow := true, entries := List.replicate 64 (0, 0) } })
def s50 : State := jor 1 0x100 (EV 0x32 3 0 0 0 0) id id
def s51 : State := jor 1 0x100 (EV 0x32 3 0 0 0 0) (fun d => putF d .ctx 3 0 0 0 1) (fun v =>
    { v with pend := 2, openSet := some { ctx := 3, epoch := 0 }, armed := [{ ctx := 3, epoch := 1, handle := 0 }, { ctx := 3, epoch := 1, handle := 2 }] })
def s52 : State := jor 1 0x100 (EV 0x39 0 0 0 0 7) id id
def s53 : State := jor 1 0x100 (EV 0x3A 0 0 0 0 0) id id
def s54 : State := jor 0 0x100 (EV 0x3A 0 0 0 0 0) id id
def s55 : State := jor 1 0x100 (0x3F) id id
def s56 : State := jor 1 0x100 (RR 11 3 1 2) id id
def s57 : State := jor 2 0x1FFFC (RR 10 3 1 2) id id
def s58 : State := jor 2 0x1FFFC (RI 0x20 1 2 3) id id

theorem witness_ArithmeticBranchesAndJumps :
    (∃ (r : Nat), r ≠ 0) ∧
    (∃ (s : State) (n : Fin 4) (w : Word) (c : Instr) (row : JRow) (x : Word), (((c, row) ∈ [(Instr.add n, JRow.add), (.sub n, .sub), (.and n, .and),
     (.or n, .or), (.xor n, .xor), (.shl n, .shl), (.shr n, .shr), (.sra n, .sra), (.mul n, .mul), (.mulh n, .mulh)] ∧
     rrResult row (wReg (drvOf s.dev n) (fieldB w)) (wReg (drvOf s.dev n) (fieldC w)) = some x) ∨ (c = .addi n ∧ row = .addi ∧
     x = wReg (drvOf s.dev n) (fieldB w) + BitVec.ofInt 32 (sInt 18 (fld w 31 14))) ∨ (c = .lui n ∧ row = .lui ∧
     x = BitVec.ofNat 32 (fld w 31 14 * 2 ^ 14))) ∧ Fetched s n row w ∧ (drvOf s.dev n).pc + 4 < imSize) ∧
    (∃ (s : State) (n : Fin 4) (w : Word) (a : Word) (b : Word) (t : Int) (c : _) (row : _) (cond : _), a = wReg (drvOf s.dev n) (fieldA w) ∧
     b = wReg (drvOf s.dev n) (fieldB w) ∧ t = (drvOf s.dev n).pc + 4 * sInt 18 (fld w 31 14) ∧
     (c, row, cond) ∈ [(Instr.beq n, JRow.beq, decide (a = b)), (.bne n, .bne, decide (a ≠ b)), (.blt n, .blt, decide (a.toInt < b.toInt)),
     (.bge n, .bge, decide (a.toInt ≥ b.toInt)), (.bltu n, .bltu, decide (a.toNat < b.toNat))] ∧ Fetched s n row w ∧ cond = false ∧
     (drvOf s.dev n).pc + 4 < imSize) ∧
    (∃ (s : State) (n : Fin 4) (w : Word) (a : Word) (b : Word) (t : Int) (c : _) (row : _) (cond : _), a = wReg (drvOf s.dev n) (fieldA w) ∧
     b = wReg (drvOf s.dev n) (fieldB w) ∧ t = (drvOf s.dev n).pc + 4 * sInt 18 (fld w 31 14) ∧
     (c, row, cond) ∈ [(Instr.beq n, JRow.beq, decide (a = b)), (.bne n, .bne, decide (a ≠ b)), (.blt n, .blt, decide (a.toInt < b.toInt)),
     (.bge n, .bge, decide (a.toInt ≥ b.toInt)), (.bltu n, .bltu, decide (a.toNat < b.toNat))] ∧ Fetched s n row w ∧ cond = true ∧ 0 ≤ t ∧
     t < 0x20000 ∧ t % 4 = 0) ∧
    (∃ (s : State) (n : Fin 4) (w : Word) (a : Word) (b : Word) (t : Int) (c : _) (row : _) (cond : _), a = wReg (drvOf s.dev n) (fieldA w) ∧
     b = wReg (drvOf s.dev n) (fieldB w) ∧ t = (drvOf s.dev n).pc + 4 * sInt 18 (fld w 31 14) ∧
     (c, row, cond) ∈ [(Instr.beq n, JRow.beq, decide (a = b)), (.bne n, .bne, decide (a ≠ b)), (.blt n, .blt, decide (a.toInt < b.toInt)),
     (.bge n, .bge, decide (a.toInt ≥ b.toInt)), (.bltu n, .bltu, decide (a.toNat < b.toNat))] ∧ Fetched s n row w ∧ cond = true ∧ ¬ (0 ≤ t ∧
     t < 0x20000 ∧ t % 4 = 0)) ∧
    (∃ (s : State) (n : Fin 4) (w : Word) (a : Word) (b : Word) (t : Int), a = wReg (drvOf s.dev n) (fieldA w) ∧ b = wReg (drvOf s.dev n) (fieldB w) ∧
     t = (drvOf s.dev n).pc + 4 * sInt 18 (fld w 31 14) ∧ Fetched s n .jal w ∧ 0 ≤ t ∧ t < 0x20000 ∧ t % 4 = 0) ∧
    (∃ (s : State) (n : Fin 4) (w : Word) (a : Word) (b : Word) (t : Int), a = wReg (drvOf s.dev n) (fieldA w) ∧ b = wReg (drvOf s.dev n) (fieldB w) ∧
     t = (drvOf s.dev n).pc + 4 * sInt 18 (fld w 31 14) ∧ Fetched s n .jal w ∧ ¬ (0 ≤ t ∧ t < 0x20000 ∧ t % 4 = 0)) ∧
    (∃ (s : State) (n : Fin 4) (w : Word) (a : Word) (b : Word) (t : Int), a = wReg (drvOf s.dev n) (fieldA w) ∧ b = wReg (drvOf s.dev n) (fieldB w) ∧
     t = (drvOf s.dev n).pc + 4 * sInt 18 (fld w 31 14) ∧ Fetched s n .jr w ∧ b.toNat < 0x20000 ∧ b.toNat % 4 = 0) ∧
    (∃ (s : State) (n : Fin 4) (w : Word) (a : Word) (b : Word) (t : Int), a = wReg (drvOf s.dev n) (fieldA w) ∧ b = wReg (drvOf s.dev n) (fieldB w) ∧
     t = (drvOf s.dev n).pc + 4 * sInt 18 (fld w 31 14) ∧ Fetched s n .jr w ∧ ¬ (b.toNat < 0x20000 ∧ b.toNat % 4 = 0)) :=
  ⟨⟨1, by decide +kernel⟩,
   ⟨s1, 1, 0xFFFFC0D1#32, .lui 1, .lui, 0xFFFFC000#32, by decide +kernel⟩,
   ⟨s2, 1, (fetchWord s2.dev 1), wReg (drvOf s2.dev 1) (fieldA (fetchWord s2.dev 1)), wReg (drvOf s2.dev 1) (fieldB (fetchWord s2.dev 1)), 268, .beq
   1, .beq, false, by decide +kernel⟩,
   ⟨s3, 1, (fetchWord s3.dev 1), wReg (drvOf s3.dev 1) (fieldA (fetchWord s3.dev 1)), wReg (drvOf s3.dev 1) (fieldB (fetchWord s3.dev 1)), 268, .bne
   1, .bne, true, by decide +kernel⟩,
   ⟨s4, 1, (fetchWord s4.dev 1), wReg (drvOf s4.dev 1) (fieldA (fetchWord s4.dev 1)), wReg (drvOf s4.dev 1) (fieldB (fetchWord s4.dev 1)), -768, .bne
   1, .bne, true, by decide +kernel⟩,
   ⟨s5, 1, (fetchWord s5.dev 1), wReg (drvOf s5.dev 1) (fieldA (fetchWord s5.dev 1)), wReg (drvOf s5.dev 1) (fieldB (fetchWord s5.dev 1)), 268,
   by decide +kernel⟩,
   ⟨s6, 1, (fetchWord s6.dev 1), wReg (drvOf s6.dev 1) (fieldA (fetchWord s6.dev 1)), wReg (drvOf s6.dev 1) (fieldB (fetchWord s6.dev 1)), -144,
   by decide +kernel⟩,
   ⟨s7, 1, fetchWord s7.dev 1, wReg (drvOf s7.dev 1) (fieldA (fetchWord s7.dev 1)), wReg (drvOf s7.dev 1) (fieldB (fetchWord s7.dev 1)), (drvOf s7.dev
   1).pc + 4 * sInt 18 (fld (fetchWord s7.dev 1) 31 14), by decide +kernel⟩,
   ⟨s8, 1, fetchWord s8.dev 1, wReg (drvOf s8.dev 1) (fieldA (fetchWord s8.dev 1)), wReg (drvOf s8.dev 1) (fieldB (fetchWord s8.dev 1)), (drvOf s8.dev
   1).pc + 4 * sInt 18 (fld (fetchWord s8.dev 1) 31 14), by decide +kernel⟩⟩
theorem witness_LoadsAndStores :
    (∃ (s : State) (n : Fin 4) (w : Word) (a : Nat) (c : _) (row : _) (k : _),
     a = (wReg (drvOf s.dev n) (fieldB w) + BitVec.ofInt 32 (sInt 18 (fld w 31 14))).toNat ∧ (c, row, k) ∈ [(Instr.ldB n, JRow.ldB, 1),
     (.ldH n, .ldH, 2), (.ldW n, .ldW, 4)] ∧ Fetched s n row w ∧ a % k ≠ 0) ∧
    (∃ (s : State) (n : Fin 4) (w : Word) (a : Nat) (c : _) (row : _) (k : _),
     a = (wReg (drvOf s.dev n) (fieldB w) + BitVec.ofInt 32 (sInt 18 (fld w 31 14))).toNat ∧ (c, row, k) ∈ [(Instr.ldB n, JRow.ldB, 1),
     (.ldH n, .ldH, 2), (.ldW n, .ldW, 4)] ∧ Fetched s n row w ∧ a % k = 0 ∧ pathOf n a ∈ [.own, .shared] ∧ badAt s.dev a = false ∧
     (drvOf s.dev n).pc + 4 < imSize) ∧
    (∃ (s : State) (n : Fin 4) (w : Word) (a : Nat) (c : _) (row : _) (k : _),
     a = (wReg (drvOf s.dev n) (fieldB w) + BitVec.ofInt 32 (sInt 18 (fld w 31 14))).toNat ∧ (c, row, k) ∈ [(Instr.ldB n, JRow.ldB, 1),
     (.ldH n, .ldH, 2), (.ldW n, .ldW, 4)] ∧ Fetched s n row w ∧ a % k = 0 ∧ pathOf n a = .own ∧ badAt s.dev a = true) ∧
    (∃ (s : State) (n : Fin 4) (w : Word) (a : Nat) (c : _) (row : _) (k : _),
     a = (wReg (drvOf s.dev n) (fieldB w) + BitVec.ofInt 32 (sInt 18 (fld w 31 14))).toNat ∧ (c, row, k) ∈ [(Instr.ldB n, JRow.ldB, 1),
     (.ldH n, .ldH, 2), (.ldW n, .ldW, 4)] ∧ Fetched s n row w ∧ a % k = 0 ∧ pathOf n a = .bus) ∧
    (∃ (s : State) (n : Fin 4) (w : Word) (a : Nat) (c : _) (row : _) (k : _),
     a = (wReg (drvOf s.dev n) (fieldB w) + BitVec.ofInt 32 (sInt 18 (fld w 31 14))).toNat ∧ (c, row, k) ∈ [(Instr.ldB n, JRow.ldB, 1),
     (.ldH n, .ldH, 2), (.ldW n, .ldW, 4)] ∧ Fetched s n row w ∧ a % k = 0 ∧ pathOf n a = .pan ∧ bankOn s.dev (panBank (a - panBase)) = true) ∧
    (∃ (s : State) (n : Fin 4) (w : Word) (a : Nat) (c : _) (row : _) (k : _),
     a = (wReg (drvOf s.dev n) (fieldB w) + BitVec.ofInt 32 (sInt 18 (fld w 31 14))).toNat ∧ (c, row, k) ∈ [(Instr.stB n, JRow.stB, 1),
     (.stH n, .stH, 2), (.stW n, .stW, 4)] ∧ Fetched s n row w ∧ a % k ≠ 0) ∧
    (∃ (s : State) (n : Fin 4) (w : Word) (a : Nat) (c : _) (row : _) (k : _) (i : _),
     a = (wReg (drvOf s.dev n) (fieldB w) + BitVec.ofInt 32 (sInt 18 (fld w 31 14))).toNat ∧ (c, row, k) ∈ [(Instr.stB n, JRow.stB, 1),
     (.stH n, .stH, 2), (.stW n, .stW, 4)] ∧ Fetched s n row w ∧ a % k = 0 ∧ pathOf n a ∈ [.own, .shared] ∧ badAt s.dev a = false ∧
     (drvOf s.dev n).pc + 4 < imSize ∧ i < k) ∧
    (∃ (s : State) (n : Fin 4) (w : Word) (a : Nat) (c : _) (row : _) (k : _) (q : _),
     a = (wReg (drvOf s.dev n) (fieldB w) + BitVec.ofInt 32 (sInt 18 (fld w 31 14))).toNat ∧ (c, row, k) ∈ [(Instr.stB n, JRow.stB, 1),
     (.stH n, .stH, 2), (.stW n, .stW, 4)] ∧ Fetched s n row w ∧ a % k = 0 ∧ pathOf n a ∈ [.own, .shared] ∧ badAt s.dev a = false ∧
     (drvOf s.dev n).pc + 4 < imSize ∧ (q < a ∨ a + k ≤ q)) ∧
    (∃ (s : State) (n : Fin 4) (w : Word) (a : Nat) (c : _) (row : _) (k : _),
     a = (wReg (drvOf s.dev n) (fieldB w) + BitVec.ofInt 32 (sInt 18 (fld w 31 14))).toNat ∧ (c, row, k) ∈ [(Instr.stB n, JRow.stB, 1),
     (.stH n, .stH, 2), (.stW n, .stW, 4)] ∧ Fetched s n row w ∧ a % k = 0 ∧ pathOf n a ∈ [.own, .shared] ∧ badAt s.dev a = false ∧
     (drvOf s.dev n).pc + 4 < imSize ∧ memoryWf s.dev.mem = true) ∧
    (∃ (s : State) (n : Fin 4) (w : Word) (a : Nat) (c : _) (row : _) (k : _),
     a = (wReg (drvOf s.dev n) (fieldB w) + BitVec.ofInt 32 (sInt 18 (fld w 31 14))).toNat ∧ (c, row, k) ∈ [(Instr.stB n, JRow.stB, 1),
     (.stH n, .stH, 2), (.stW n, .stW, 4)] ∧ Fetched s n row w ∧ a % k = 0 ∧ pathOf n a = .bus ∧ (drvOf s.dev n).stores.length < 8 ∧
     (drvOf s.dev n).pc + 4 < imSize) ∧
    (∃ (s : State) (n : Fin 4) (w : Word) (a : Nat) (c : _) (row : _) (k : _),
     a = (wReg (drvOf s.dev n) (fieldB w) + BitVec.ofInt 32 (sInt 18 (fld w 31 14))).toNat ∧ (c, row, k) ∈ [(Instr.stB n, JRow.stB, 1),
     (.stH n, .stH, 2), (.stW n, .stW, 4)] ∧ Fetched s n row w ∧ a % k = 0 ∧ pathOf n a = .pan ∧ bankOn s.dev (panBank (a - panBase)) = true ∧
     (drvOf s.dev n).stores.length < 8 ∧ (drvOf s.dev n).pc + 4 < imSize) ∧
    (∃ (s : State) (n : Fin 4) (w : Word) (a : Nat) (c : _) (row : _) (k : _),
     a = (wReg (drvOf s.dev n) (fieldB w) + BitVec.ofInt 32 (sInt 18 (fld w 31 14))).toNat ∧ (c, row, k) ∈ [(Instr.stB n, JRow.stB, 1),
     (.stH n, .stH, 2), (.stW n, .stW, 4)] ∧ Fetched s n row w ∧ a % k = 0 ∧ pathOf n a ∈ [.bus, .pan] ∧ 8 ≤ (drvOf s.dev n).stores.length) :=
  ⟨⟨s9, 1, fetchWord s9.dev 1, (wReg (drvOf s9.dev 1) (fieldB (fetchWord s9.dev 1)) + BitVec.ofInt 32 (sInt 18 (fld (fetchWord s9.dev 1) 31
   14))).toNat, .ldH 1, .ldH, 2, by decide +kernel⟩,
   ⟨s10, 1, fetchWord s10.dev 1, (wReg (drvOf s10.dev 1) (fieldB (fetchWord s10.dev 1)) + BitVec.ofInt 32 (sInt 18 (fld (fetchWord s10.dev 1) 31
   14))).toNat, Instr.ldB 1, JRow.ldB, 1, by decide +kernel⟩,
   ⟨s11, 0, fetchWord s11.dev 0, (wReg (drvOf s11.dev 0) (fieldB (fetchWord s11.dev 0)) + BitVec.ofInt 32 (sInt 18 (fld (fetchWord s11.dev 0) 31
   14))).toNat, .ldW 0, .ldW, 4, by decide +kernel⟩,
   ⟨s12, 1, fetchWord s12.dev 1, (wReg (drvOf s12.dev 1) (fieldB (fetchWord s12.dev 1)) + BitVec.ofInt 32 (sInt 18 (fld (fetchWord s12.dev 1) 31
   14))).toNat, Instr.ldB 1, JRow.ldB, 1, by decide +kernel⟩,
   ⟨s13, 1, fetchWord s13.dev 1, (wReg (drvOf s13.dev 1) (fieldB (fetchWord s13.dev 1)) + BitVec.ofInt 32 (sInt 18 (fld (fetchWord s13.dev 1) 31
   14))).toNat, Instr.ldB 1, JRow.ldB, 1, by decide +kernel⟩,
   ⟨s14, 1, fetchWord s14.dev 1, (wReg (drvOf s14.dev 1) (fieldB (fetchWord s14.dev 1)) + BitVec.ofInt 32 (sInt 18 (fld (fetchWord s14.dev 1) 31
   14))).toNat, .stH 1, .stH, 2, by decide +kernel⟩,
   ⟨s15, 1, fetchWord s15.dev 1, (wReg (drvOf s15.dev 1) (fieldB (fetchWord s15.dev 1)) + BitVec.ofInt 32 (sInt 18 (fld (fetchWord s15.dev 1) 31
   14))).toNat, Instr.stB 1, JRow.stB, 1, 0, by decide +kernel⟩,
   ⟨s15, 1, fetchWord s15.dev 1, (wReg (drvOf s15.dev 1) (fieldB (fetchWord s15.dev 1)) + BitVec.ofInt 32 (sInt 18 (fld (fetchWord s15.dev 1) 31
   14))).toNat, Instr.stB 1, JRow.stB, 1, 0, by decide +kernel⟩,
   ⟨s15, 1, fetchWord s15.dev 1, (wReg (drvOf s15.dev 1) (fieldB (fetchWord s15.dev 1)) + BitVec.ofInt 32 (sInt 18 (fld (fetchWord s15.dev 1) 31
   14))).toNat, Instr.stB 1, JRow.stB, 1, by decide +kernel⟩,
   ⟨s16, 1, fetchWord s16.dev 1, (wReg (drvOf s16.dev 1) (fieldB (fetchWord s16.dev 1)) + BitVec.ofInt 32 (sInt 18 (fld (fetchWord s16.dev 1) 31
   14))).toNat, Instr.stB 1, JRow.stB, 1, by decide +kernel⟩,
   ⟨s17, 1, fetchWord s17.dev 1, (wReg (drvOf s17.dev 1) (fieldB (fetchWord s17.dev 1)) + BitVec.ofInt 32 (sInt 18 (fld (fetchWord s17.dev 1) 31
   14))).toNat, Instr.stB 1, JRow.stB, 1, by decide +kernel⟩,
   ⟨s18, 1, fetchWord s18.dev 1, (wReg (drvOf s18.dev 1) (fieldB (fetchWord s18.dev 1)) + BitVec.ofInt 32 (sInt 18 (fld (fetchWord s18.dev 1) 31
   14))).toNat, Instr.stB 1, JRow.stB, 1, by decide +kernel⟩⟩
theorem witness_LoadAndStoreResponses :
    (∃ (s : State) (n : Fin 4) (i : Nat) (p : PostedStore) (gone : Dev), UnitsOn s ∧ (drvOf s.dev n).stores[i]? = some p ∧
     gone = onDrv s.dev n (fun v => { v with stores := v.stores.eraseIdx i }) ∧ inPan p.addr = false ∧
     ((drvOf s.dev n).stores.take i).any (fun q => !(inPan q.addr)) = true) ∧
    (∃ (s : State) (n : Fin 4) (w : _), UnitsOn s ∧ Fetched s n .fence w ∧ (drvOf s.dev n).stores = [] ∧ (drvOf s.dev n).pc + 4 < imSize) ∧
    (∃ (s : State) (n : Fin 4) (w : _), UnitsOn s ∧ Fetched s n .fence w ∧ (drvOf s.dev n).stores ≠ []) :=
  ⟨⟨s19, 1, 1, ((drvOf s19.dev 1).stores[1]?).get (by decide +kernel), onDrv s19.dev 1 (fun v => { v with stores := v.stores.eraseIdx 1 }),
   by decide +kernel⟩,
   ⟨s20, 1, fetchWord s20.dev 1, by decide +kernel⟩,
   ⟨s21, 1, fetchWord s21.dev 1, by decide +kernel⟩⟩
theorem witness_EventsReachTheDroversAndWaitConsumesThem :
    (∃ (s : State) (n : Fin 4) (w : Word) (m : Nat) (ev : Fin 64),
     m = (wReg (drvOf s.dev n) (fieldC w)).toNat * 2 ^ 32 + (wReg (drvOf s.dev n) (fieldB w)).toNat ∧ (drvOf s.dev n).pc + 4 < imSize ∧
     ((drvOf s.dev n).pend &&& m).testBit ev = true ∧ (∀ j, j < ev.val → ((drvOf s.dev n).pend &&& m).testBit j = false) ∧ Fetched s n .wait w ∧
     m &&& eventsOn s.dev n ≠ 0) ∧
    (∃ (s : State) (n : Fin 4) (w : Word) (m : Nat) (ev : Fin 64),
     m = (wReg (drvOf s.dev n) (fieldC w)).toNat * 2 ^ 32 + (wReg (drvOf s.dev n) (fieldB w)).toNat ∧ (drvOf s.dev n).pc + 4 < imSize ∧
     ((drvOf s.dev n).pend &&& m).testBit ev = true ∧ (∀ j, j < ev.val → ((drvOf s.dev n).pend &&& m).testBit j = false) ∧ Fetched s n .waitPoll w) ∧
    (∃ (s : State) (n : Fin 4) (w : Word) (m : Nat), m = (wReg (drvOf s.dev n) (fieldC w)).toNat * 2 ^ 32 + (wReg (drvOf s.dev n) (fieldB w)).toNat ∧
     (drvOf s.dev n).pc + 4 < imSize ∧ Fetched s n .wait w ∧ m &&& eventsOn s.dev n = 0) ∧
    (∃ (s : State) (n : Fin 4) (w : Word) (m : Nat), m = (wReg (drvOf s.dev n) (fieldC w)).toNat * 2 ^ 32 + (wReg (drvOf s.dev n) (fieldB w)).toNat ∧
     (drvOf s.dev n).pc + 4 < imSize ∧ Fetched s n .wait w ∧ m &&& eventsOn s.dev n ≠ 0 ∧ (drvOf s.dev n).pend &&& m = 0) ∧
    (∃ (s : State) (n : Fin 4) (w : Word) (m : Nat), m = (wReg (drvOf s.dev n) (fieldC w)).toNat * 2 ^ 32 + (wReg (drvOf s.dev n) (fieldB w)).toNat ∧
     (drvOf s.dev n).pc + 4 < imSize ∧ Fetched s n .waitPoll w ∧ (drvOf s.dev n).pend &&& m = 0) ∧
    (∃ (s : State) (n : Fin 4) (w : Word) (m : Nat) (z : _) (ev : Fin 64),
     m = (wReg (drvOf s.dev n) (fieldC w)).toNat * 2 ^ 32 + (wReg (drvOf s.dev n) (fieldB w)).toNat ∧ (drvOf s.dev n).pc + 4 < imSize ∧ UnitsOn s ∧
     (drvOf s.dev n).state = .waiting ∧ (drvOf s.dev n).sleep = some z ∧ (drvOf s.dev n).failed = none ∧ (drvOf s.dev n).haltDue = false ∧
     ((drvOf s.dev n).pend &&& z.mask).testBit ev = true ∧ (∀ j, j < ev.val → ((drvOf s.dev n).pend &&& z.mask).testBit j = false)) ∧
    (∃ (s : State) (n : Fin 4) (w : Word) (m : Nat) (z : _),
     m = (wReg (drvOf s.dev n) (fieldC w)).toNat * 2 ^ 32 + (wReg (drvOf s.dev n) (fieldB w)).toNat ∧ (drvOf s.dev n).pc + 4 < imSize ∧ UnitsOn s ∧
     (drvOf s.dev n).state = .waiting ∧ (drvOf s.dev n).sleep = some z ∧ (drvOf s.dev n).failed = none ∧ (drvOf s.dev n).haltDue = false ∧
     (drvOf s.dev n).pend &&& z.mask = 0) ∧
    (∃ (s : State) (m : Fin 7) (n : Fin 4), modeAllows s.env m true (unitBase .drv n + 0x30) = true ∧ guardOf s.dev m = none ∧ s.dev.acts = [] ∧
     blockOn s.dev .drv n = true) :=
  ⟨⟨s22, 1, fetchWord s22.dev 1, (wReg (drvOf s22.dev 1) (fieldC (fetchWord s22.dev 1))).toNat * 2 ^ 32 + (wReg (drvOf s22.dev 1) (fieldB (fetchWord
   s22.dev 1))).toNat, 0, by decide +kernel⟩,
   ⟨s23, 1, fetchWord s23.dev 1, (wReg (drvOf s23.dev 1) (fieldC (fetchWord s23.dev 1))).toNat * 2 ^ 32 + (wReg (drvOf s23.dev 1) (fieldB (fetchWord
   s23.dev 1))).toNat, 0, by decide +kernel⟩,
   ⟨s24, 1, fetchWord s24.dev 1, (wReg (drvOf s24.dev 1) (fieldC (fetchWord s24.dev 1))).toNat * 2 ^ 32 + (wReg (drvOf s24.dev 1) (fieldB (fetchWord
   s24.dev 1))).toNat, by decide +kernel⟩,
   ⟨s25, 1, fetchWord s25.dev 1, (wReg (drvOf s25.dev 1) (fieldC (fetchWord s25.dev 1))).toNat * 2 ^ 32 + (wReg (drvOf s25.dev 1) (fieldB (fetchWord
   s25.dev 1))).toNat, by decide +kernel⟩,
   ⟨s26, 1, fetchWord s26.dev 1, (wReg (drvOf s26.dev 1) (fieldC (fetchWord s26.dev 1))).toNat * 2 ^ 32 + (wReg (drvOf s26.dev 1) (fieldB (fetchWord
   s26.dev 1))).toNat, by decide +kernel⟩,
   ⟨s27, 0, 0, (wReg (drvOf s27.dev 0) (fieldC 0)).toNat * 2 ^ 32 + (wReg (drvOf s27.dev 0) (fieldB 0)).toNat, ((drvOf s27.dev 0).sleep).get
   (by decide +kernel), 0, by decide +kernel⟩,
   ⟨s28, 0, 0, (wReg (drvOf s28.dev 0) (fieldC 0)).toNat * 2 ^ 32 + (wReg (drvOf s28.dev 0) (fieldB 0)).toNat, ((drvOf s28.dev 0).sleep).get
   (by decide +kernel), by decide +kernel⟩,
   ⟨s29, 0, 0, by decide +kernel⟩⟩
theorem witness_DoorbellsMessagesAndTimes :
    (∃ (s : State) (n : Fin 4) (w : Word) (x : Word) (y : Word) (d' : Word → Dev),
     d' = (fun r => onDrv s.dev n (fun v => { wSet v (fieldA w) r with pc := v.pc + 4 })) ∧ x = wReg (drvOf s.dev n) (fieldB w) ∧
     y = wReg (drvOf s.dev n) (fieldC w) ∧ (drvOf s.dev n).pc + 4 < imSize ∧ Fetched s n .post w ∧ (drvOf s.dev n).stores ≠ []) ∧
    (∃ (s : State) (n : Fin 4) (w : Word) (x : Word) (y : Word) (d' : Word → Dev),
     d' = (fun r => onDrv s.dev n (fun v => { wSet v (fieldA w) r with pc := v.pc + 4 })) ∧ x = wReg (drvOf s.dev n) (fieldB w) ∧
     y = wReg (drvOf s.dev n) (fieldC w) ∧ (drvOf s.dev n).pc + 4 < imSize ∧ Fetched s n .post w ∧ (drvOf s.dev n).stores = [] ∧ fld x 5 0 < 47) ∧
    (∃ (s : State) (n : Fin 4) (w : Word) (x : Word) (y : Word) (d' : Word → Dev),
     d' = (fun r => onDrv s.dev n (fun v => { wSet v (fieldA w) r with pc := v.pc + 4 })) ∧ x = wReg (drvOf s.dev n) (fieldB w) ∧
     y = wReg (drvOf s.dev n) (fieldC w) ∧ (drvOf s.dev n).pc + 4 < imSize ∧ Fetched s n .post w ∧ (drvOf s.dev n).stores = [] ∧ 47 ≤ fld x 5 0) ∧
    (∃ (s : State) (n : Fin 4) (w : Word) (x : Word) (y : Word) (d' : Word → Dev) (c : _) (row : _),
     d' = (fun r => onDrv s.dev n (fun v => { wSet v (fieldA w) r with pc := v.pc + 4 })) ∧ x = wReg (drvOf s.dev n) (fieldB w) ∧
     y = wReg (drvOf s.dev n) (fieldC w) ∧ (drvOf s.dev n).pc + 4 < imSize ∧ (c, row) ∈ [(Instr.send n, JRow.send), (.recv n, .recv)] ∧
     Fetched s n row w ∧ portOwner s.dev (imm11 w) ≠ some n.val) ∧
    (∃ (s : State) (n : Fin 4) (w : Word) (x : Word) (y : Word) (d' : Word → Dev) (c : _) (row : _),
     d' = (fun r => onDrv s.dev n (fun v => { wSet v (fieldA w) r with pc := v.pc + 4 })) ∧ x = wReg (drvOf s.dev n) (fieldB w) ∧
     y = wReg (drvOf s.dev n) (fieldC w) ∧ (drvOf s.dev n).pc + 4 < imSize ∧ (c, row) ∈ [(Instr.send n, JRow.send), (.recv n, .recv)] ∧
     Fetched s n row w ∧ portOwner s.dev (imm11 w) = some n.val ∧ x.toNat % 4 ≠ 0) ∧
    (∃ (s : State) (n : Fin 4) (w : Word) (x : Word) (y : Word) (d' : Word → Dev) (c : _) (row : _),
     d' = (fun r => onDrv s.dev n (fun v => { wSet v (fieldA w) r with pc := v.pc + 4 })) ∧ x = wReg (drvOf s.dev n) (fieldB w) ∧
     y = wReg (drvOf s.dev n) (fieldC w) ∧ (drvOf s.dev n).pc + 4 < imSize ∧ (c, row) ∈ [(Instr.send n, JRow.send), (.recv n, .recv)] ∧
     Fetched s n row w ∧ portOwner s.dev (imm11 w) = some n.val ∧ x.toNat % 4 = 0 ∧ pathOf n x.toNat ∉ [.own, .shared]) ∧
    (∃ (s : State) (n : Fin 4) (w : Word) (x : Word) (y : Word) (d' : Word → Dev),
     d' = (fun r => onDrv s.dev n (fun v => { wSet v (fieldA w) r with pc := v.pc + 4 })) ∧ x = wReg (drvOf s.dev n) (fieldB w) ∧
     y = wReg (drvOf s.dev n) (fieldC w) ∧ (drvOf s.dev n).pc + 4 < imSize ∧ Fetched s n .send w ∧ portOwner s.dev (imm11 w) = some n.val ∧
     x.toNat % 4 = 0 ∧ pathOf n x.toNat ∈ [.own, .shared] ∧ (y.toNat = 0 ∨ 32 < y.toNat)) ∧
    (∃ (s : State) (n : Fin 4) (w : Word) (x : Word) (y : Word) (d' : Word → Dev),
     d' = (fun r => onDrv s.dev n (fun v => { wSet v (fieldA w) r with pc := v.pc + 4 })) ∧ x = wReg (drvOf s.dev n) (fieldB w) ∧
     y = wReg (drvOf s.dev n) (fieldC w) ∧ (drvOf s.dev n).pc + 4 < imSize ∧ Fetched s n .send w ∧ portOwner s.dev (imm11 w) = some n.val ∧
     x.toNat % 4 = 0 ∧ pathOf n x.toNat ∈ [.own, .shared] ∧ 1 ≤ y.toNat ∧ y.toNat ≤ 32 ∧ bufferOk n x.toNat y.toNat = true ∧
     badRange s.dev x.toNat y.toNat = none ∧ 2 ≤ imm11 w ∧ memByte s.dev x.toNat ∉ [0x48#8, 0x4B#8]) ∧
    (∃ (s : State) (n : Fin 4) (w : Word) (x : Word) (y : Word) (d' : Word → Dev),
     d' = (fun r => onDrv s.dev n (fun v => { wSet v (fieldA w) r with pc := v.pc + 4 })) ∧ x = wReg (drvOf s.dev n) (fieldB w) ∧
     y = wReg (drvOf s.dev n) (fieldC w) ∧ (drvOf s.dev n).pc + 4 < imSize ∧ Fetched s n .send w ∧ portOwner s.dev (imm11 w) = some n.val ∧
     x.toNat % 4 = 0 ∧ pathOf n x.toNat ∈ [.own, .shared] ∧ 1 ≤ y.toNat ∧ y.toNat ≤ 32 ∧ bufferOk n x.toNat y.toNat = true ∧
     badRange s.dev x.toNat y.toNat = none ∧ (imm11 w < 2 ∨ memByte s.dev x.toNat ∈ [0x48#8, 0x4B#8]) ∧ 8 ≤ (vget s.dev.boxes (imm11 w)).outbox.length) ∧
    (∃ (s : State) (n : Fin 4) (w : Word) (x : Word) (y : Word) (d' : Word → Dev),
     d' = (fun r => onDrv s.dev n (fun v => { wSet v (fieldA w) r with pc := v.pc + 4 })) ∧ x = wReg (drvOf s.dev n) (fieldB w) ∧
     y = wReg (drvOf s.dev n) (fieldC w) ∧ (drvOf s.dev n).pc + 4 < imSize ∧ Fetched s n .send w ∧ portOwner s.dev (imm11 w) = some n.val ∧
     x.toNat % 4 = 0 ∧ pathOf n x.toNat ∈ [.own, .shared] ∧ 1 ≤ y.toNat ∧ y.toNat ≤ 32 ∧ bufferOk n x.toNat y.toNat = true ∧
     badRange s.dev x.toNat y.toNat = none ∧ (imm11 w < 2 ∨ memByte s.dev x.toNat ∈ [0x48#8, 0x4B#8]) ∧ (vget s.dev.boxes (imm11 w)).outbox.length < 8) ∧
    (∃ (s : State) (n : Fin 4) (w : Word) (x : Word) (y : Word) (d' : Word → Dev),
     d' = (fun r => onDrv s.dev n (fun v => { wSet v (fieldA w) r with pc := v.pc + 4 })) ∧ x = wReg (drvOf s.dev n) (fieldB w) ∧
     y = wReg (drvOf s.dev n) (fieldC w) ∧ (drvOf s.dev n).pc + 4 < imSize ∧ Fetched s n .recv w ∧ portOwner s.dev (imm11 w) = some n.val ∧
     x.toNat % 4 = 0 ∧ bufferOk n x.toNat 32 = true ∧ (vget s.dev.boxes (imm11 w)).inbox = []) ∧
    (∃ (s : State) (n : Fin 4) (w : Word) (x : Word) (y : Word) (d' : Word → Dev) (m : _) (rest : _),
     d' = (fun r => onDrv s.dev n (fun v => { wSet v (fieldA w) r with pc := v.pc + 4 })) ∧ x = wReg (drvOf s.dev n) (fieldB w) ∧
     y = wReg (drvOf s.dev n) (fieldC w) ∧ (drvOf s.dev n).pc + 4 < imSize ∧ Fetched s n .recv w ∧ portOwner s.dev (imm11 w) = some n.val ∧
     x.toNat % 4 = 0 ∧ bufferOk n x.toNat 32 = true ∧ (vget s.dev.boxes (imm11 w)).inbox = m :: rest ∧ m.length ≤ 32) ∧
    (∃ (s : State) (n : Fin 4) (w : Word) (d' : Word → Dev), d' = (fun r => onDrv s.dev n (fun v => { wSet v (fieldA w) r with pc := v.pc + 4 })) ∧
     (drvOf s.dev n).pc + 4 < imSize ∧ Fetched s n .timeSnapshot w) ∧
    (∃ (s : State) (n : Fin 4) (w : Word) (d' : Word → Dev), d' = (fun r => onDrv s.dev n (fun v => { wSet v (fieldA w) r with pc := v.pc + 4 })) ∧
     (drvOf s.dev n).pc + 4 < imSize ∧ Fetched s n .timeRead w) ∧
    (∃ (s : State) (n : Fin 4) (w : Word) (d' : Word → Dev), d' = (fun r => onDrv s.dev n (fun v => { wSet v (fieldA w) r with pc := v.pc + 4 })) ∧
     (drvOf s.dev n).pc + 4 < imSize ∧ Fetched s n .arm w ∧ cycleOn s.dev (imm11 w) = false) ∧
    (∃ (s : State) (n : Fin 4) (w : Word) (d' : Word → Dev), d' = (fun r => onDrv s.dev n (fun v => { wSet v (fieldA w) r with pc := v.pc + 4 })) ∧
     (drvOf s.dev n).pc + 4 < imSize ∧ Fetched s n .disarm w) :=
  ⟨⟨s30, 1, fetchWord s30.dev 1, wReg (drvOf s30.dev 1) (fieldB (fetchWord s30.dev 1)), wReg (drvOf s30.dev 1) (fieldC (fetchWord s30.dev 1)), (fun r
   => onDrv s30.dev 1 (fun v => { wSet v (fieldA (fetchWord s30.dev 1)) r with pc := v.pc + 4 })), rfl, by decide +kernel⟩,
   ⟨s31, 1, fetchWord s31.dev 1, wReg (drvOf s31.dev 1) (fieldB (fetchWord s31.dev 1)), wReg (drvOf s31.dev 1) (fieldC (fetchWord s31.dev 1)), (fun r
   => onDrv s31.dev 1 (fun v => { wSet v (fieldA (fetchWord s31.dev 1)) r with pc := v.pc + 4 })), rfl, by decide +kernel⟩,
   ⟨s32, 1, fetchWord s32.dev 1, wReg (drvOf s32.dev 1) (fieldB (fetchWord s32.dev 1)), wReg (drvOf s32.dev 1) (fieldC (fetchWord s32.dev 1)), (fun r
   => onDrv s32.dev 1 (fun v => { wSet v (fieldA (fetchWord s32.dev 1)) r with pc := v.pc + 4 })), rfl, by decide +kernel⟩,
   ⟨s33, 1, fetchWord s33.dev 1, wReg (drvOf s33.dev 1) (fieldB (fetchWord s33.dev 1)), wReg (drvOf s33.dev 1) (fieldC (fetchWord s33.dev 1)), (fun r
   => onDrv s33.dev 1 (fun v => { wSet v (fieldA (fetchWord s33.dev 1)) r with pc := v.pc + 4 })), Instr.send 1, JRow.send, rfl, by decide +kernel⟩,
   ⟨s34, 1, (fetchWord s34.dev 1), wReg (drvOf s34.dev 1) (fieldB (fetchWord s34.dev 1)), wReg (drvOf s34.dev 1) (fieldC (fetchWord s34.dev 1)), fun r
   => onDrv s34.dev 1 (fun v => { wSet v (fieldA (fetchWord s34.dev 1)) r with pc := v.pc + 4 }), .recv 1, .recv, rfl, by decide +kernel⟩,
   ⟨s35, 1, (fetchWord s35.dev 1), wReg (drvOf s35.dev 1) (fieldB (fetchWord s35.dev 1)), wReg (drvOf s35.dev 1) (fieldC (fetchWord s35.dev 1)), fun r
   => onDrv s35.dev 1 (fun v => { wSet v (fieldA (fetchWord s35.dev 1)) r with pc := v.pc + 4 }), .recv 1, .recv, rfl, by decide +kernel⟩,
   ⟨s36, 1, fetchWord s36.dev 1, wReg (drvOf s36.dev 1) (fieldB (fetchWord s36.dev 1)), wReg (drvOf s36.dev 1) (fieldC (fetchWord s36.dev 1)), (fun r
   => onDrv s36.dev 1 (fun v => { wSet v (fieldA (fetchWord s36.dev 1)) r with pc := v.pc + 4 })), rfl, by decide +kernel⟩,
   ⟨s37, 1, (fetchWord s37.dev 1), wReg (drvOf s37.dev 1) (fieldB (fetchWord s37.dev 1)), wReg (drvOf s37.dev 1) (fieldC (fetchWord s37.dev 1)), fun r
   => onDrv s37.dev 1 (fun v => { wSet v (fieldA (fetchWord s37.dev 1)) r with pc := v.pc + 4 }), rfl, by decide +kernel⟩,
   ⟨s38, 0, fetchWord s38.dev 0, wReg (drvOf s38.dev 0) (fieldB (fetchWord s38.dev 0)), wReg (drvOf s38.dev 0) (fieldC (fetchWord s38.dev 0)), (fun r
   => onDrv s38.dev 0 (fun v => { wSet v (fieldA (fetchWord s38.dev 0)) r with pc := v.pc + 4 })), rfl, by decide +kernel⟩,
   ⟨s39, 1, fetchWord s39.dev 1, wReg (drvOf s39.dev 1) (fieldB (fetchWord s39.dev 1)), wReg (drvOf s39.dev 1) (fieldC (fetchWord s39.dev 1)), (fun r
   => onDrv s39.dev 1 (fun v => { wSet v (fieldA (fetchWord s39.dev 1)) r with pc := v.pc + 4 })), rfl, by decide +kernel⟩,
   ⟨s40, 0, fetchWord s40.dev 0, wReg (drvOf s40.dev 0) (fieldB (fetchWord s40.dev 0)), wReg (drvOf s40.dev 0) (fieldC (fetchWord s40.dev 0)), (fun r
   => onDrv s40.dev 0 (fun v => { wSet v (fieldA (fetchWord s40.dev 0)) r with pc := v.pc + 4 })), rfl, by decide +kernel⟩,
   ⟨s41, 1, fetchWord s41.dev 1, wReg (drvOf s41.dev 1) (fieldB (fetchWord s41.dev 1)), wReg (drvOf s41.dev 1) (fieldC (fetchWord s41.dev 1)), (fun r
   => onDrv s41.dev 1 (fun v => { wSet v (fieldA (fetchWord s41.dev 1)) r with pc := v.pc + 4 })), ((vget s41.dev.boxes (imm11 (fetchWord s41.dev
   1))).inbox).head (by decide +kernel), ((vget s41.dev.boxes (imm11 (fetchWord s41.dev 1))).inbox).tail, rfl, by decide +kernel⟩,
   ⟨s42, 1, fetchWord s42.dev 1, (fun r => onDrv s42.dev 1 (fun v => { wSet v (fieldA (fetchWord s42.dev 1)) r with pc := v.pc + 4 })), rfl,
   by decide +kernel⟩,
   ⟨s43, 1, fetchWord s43.dev 1, (fun r => onDrv s43.dev 1 (fun v => { wSet v (fieldA (fetchWord s43.dev 1)) r with pc := v.pc + 4 })), rfl,
   by decide +kernel⟩,
   ⟨s44, 1, fetchWord s44.dev 1, (fun r => onDrv s44.dev 1 (fun v => { wSet v (fieldA (fetchWord s44.dev 1)) r with pc := v.pc + 4 })), rfl,
   by decide +kernel⟩,
   ⟨s45, 1, fetchWord s45.dev 1, (fun r => onDrv s45.dev 1 (fun v => { wSet v (fieldA (fetchWord s45.dev 1)) r with pc := v.pc + 4 })), rfl,
   by decide +kernel⟩⟩
theorem witness_StagedSetsAndTheirDrovers :
    (∃ (s : State) (n : Fin 4) (w : Word) (d' : Option StagedSet → Dev),
     d' = (fun o => onDrv s.dev n (fun v => { v with pc := v.pc + 4, openSet := o })) ∧ (drvOf s.dev n).pc + 4 < imSize ∧ Fetched s n .stageT w) ∧
    (∃ (s : State) (n : Fin 4) (w : Word) (d' : Option StagedSet → Dev),
     d' = (fun o => onDrv s.dev n (fun v => { v with pc := v.pc + 4, openSet := o })) ∧ (drvOf s.dev n).pc + 4 < imSize ∧ Fetched s n .stage w ∧
     (drvOf s.dev n).openSet = none) ∧
    (∃ (s : State) (n : Fin 4) (w : Word) (d' : Option StagedSet → Dev) (o : _),
     d' = (fun o => onDrv s.dev n (fun v => { v with pc := v.pc + 4, openSet := o })) ∧ (drvOf s.dev n).pc + 4 < imSize ∧ Fetched s n .stage w ∧
     (drvOf s.dev n).openSet = some o ∧ o.entries.length < 64 ∧ entriesHeld (drvOf s.dev n) < 256) ∧
    (∃ (s : State) (n : Fin 4) (w : Word) (d' : Option StagedSet → Dev) (o : _),
     d' = (fun o => onDrv s.dev n (fun v => { v with pc := v.pc + 4, openSet := o })) ∧ (drvOf s.dev n).pc + 4 < imSize ∧ Fetched s n .stage w ∧
     (drvOf s.dev n).openSet = some o ∧ (64 ≤ o.entries.length ∨ 256 ≤ entriesHeld (drvOf s.dev n))) ∧
    (∃ (s : State) (n : Fin 4) (w : Word) (d' : Option StagedSet → Dev) (code : Word),
     d' = (fun o => onDrv s.dev n (fun v => { v with pc := v.pc + 4, openSet := o })) ∧ (drvOf s.dev n).pc + 4 < imSize ∧ Fetched s n .commit w ∧
     (((drvOf s.dev n).openSet = none ∧ code = 0xFFFFFFFF#32) ∨ ∃ o, (drvOf s.dev n).openSet = some o ∧ ((o.overflow = true ∧ code = 0xFFFFFFFC#32) ∨
     (o.overflow = false ∧ getB s.dev .ctx o.ctx 0 0 = false ∧ code = 0xFFFFFFFB#32) ∨ (o.overflow = false ∧ getB s.dev .ctx o.ctx 0 0 = true ∧
     (∃ x ∈ o.entries, entryOk s.dev o x = false) ∧ code = 0xFFFFFFFE#32) ∨ (o.overflow = false ∧ getB s.dev .ctx o.ctx 0 0 = true ∧
     (∀ x ∈ o.entries, entryOk s.dev o x = true) ∧ 8 ≤ (drvOf s.dev n).armed.length ∧ code = 0xFFFFFFFD#32)))) ∧
    (∃ (s : State) (n : Fin 4) (w : Word) (d' : Option StagedSet → Dev) (o : StagedSet) (h : Nat),
     d' = (fun o => onDrv s.dev n (fun v => { v with pc := v.pc + 4, openSet := o })) ∧ (drvOf s.dev n).pc + 4 < imSize ∧ Fetched s n .commit w ∧
     (drvOf s.dev n).openSet = some o ∧ o.overflow = false ∧ getB s.dev .ctx o.ctx 0 0 = true ∧ (∀ x ∈ o.entries, entryOk s.dev o x = true) ∧
     (drvOf s.dev n).armed.length < 8 ∧ h < 8 ∧ (∀ z ∈ (drvOf s.dev n).armed, z.handle ≠ h) ∧ (∀ j, j < h → ∃ z ∈ (drvOf s.dev n).armed, z.handle = j)) ∧
    (∃ (s : State) (n : Fin 4) (w : Word) (k : Fin 4), Fetched s n .trap w ∧ k ≠ n) ∧
    (∃ (s : State) (n : Fin 4) (w : Word), Fetched s n .halt w ∧ n ≠ 0) ∧
    (∃ (s : State) (n : Fin 4) (w : Word), Fetched s n .halt w ∧ n = 0) ∧
    (∃ (s : State) (n : Fin 4), UnitsOn s ∧ canRun s.dev n = true ∧ fetchOk s.dev n = true ∧ rowOf (fetchWord s.dev n) = .illegal) ∧
    (∃ (s : State) (n : Fin 4) (c : _) (row : _), UnitsOn s ∧ canRun s.dev n = true ∧ (c, row) ∈ [(Instr.add n, JRow.add), (.sub n, .sub),
     (.and n, .and), (.or n, .or), (.xor n, .xor), (.shl n, .shl), (.shr n, .shr), (.sra n, .sra), (.mul n, .mul), (.mulh n, .mulh), (.jr n, .jr),
     (.lui n, .lui), (.jal n, .jal), (.wait n, .wait), (.waitPoll n, .waitPoll), (.stageT n, .stageT), (.stage n, .stage), (.commit n, .commit),
     (.post n, .post), (.send n, .send), (.recv n, .recv), (.arm n, .arm), (.disarm n, .disarm), (.timeRead n, .timeRead), (.fence n, .fence),
     (.trap n, .trap), (.halt n, .halt)] ∧ fetchOk s.dev n = true ∧ rowOf (fetchWord s.dev n) = row ∧ legalWord (fetchWord s.dev n) = false) ∧
    (∃ (s : State) (n : Fin 4) (m : Fin 7) (k : Fin 4), fenceOf s.dev (0x28 + n) = none ∧ TakesWrite s m .drv n 0 4#32 ∧ k ≠ n) ∧
    (∃ (s : State) (n : Fin 4) (m : Fin 7), fenceOf s.dev (0x28 + n) = none ∧ TakesWrite s m .drv n 0 2#32 ∧ ((drvOf s.dev n).state = .waiting ∨
     ((drvOf s.dev n).state = .running ∧ (drvOf s.dev n).load = none))) ∧
    (∃ (s : State) (n : Fin 4) (m : Fin 7), fenceOf s.dev (0x28 + n) = none ∧ TakesWrite s m .drv n 0 2#32 ∧
     (drvOf s.dev n).state ∉ [.running, .waiting]) ∧
    (∃ (s : State) (n : Fin 4) (m : Fin 7), fenceOf s.dev (0x28 + n) = none ∧ TakesWrite s m .drv n 0 1#32 ∧ (drvOf s.dev n).state = .reset ∧ (n = 0 ∨
     domainOn s.dev (39 + n) = true)) ∧
    (∃ (s : State) (n : Fin 4) (m : Fin 7), fenceOf s.dev (0x28 + n) = none ∧ TakesWrite s m .drv n 0 1#32 ∧
     (drvOf s.dev n).state ∈ [.running, .waiting]) ∧
    (∃ (s : State) (n : Fin 4) (w : Word) (c : Instr) (row : JRow) (x : Word), (((c, row) ∈ [(Instr.add n, JRow.add), (.sub n, .sub), (.and n, .and),
     (.or n, .or), (.xor n, .xor), (.shl n, .shl), (.shr n, .shr), (.sra n, .sra), (.mul n, .mul), (.mulh n, .mulh)] ∧
     rrResult row (wReg (drvOf s.dev n) (fieldB w)) (wReg (drvOf s.dev n) (fieldC w)) = some x) ∨ (c = .addi n ∧ row = .addi ∧
     x = wReg (drvOf s.dev n) (fieldB w) + BitVec.ofInt 32 (sInt 18 (fld w 31 14))) ∨ (c = .lui n ∧ row = .lui ∧
     x = BitVec.ofNat 32 (fld w 31 14 * 2 ^ 14))) ∧ Fetched s n row w ∧ (drvOf s.dev n).pc + 4 = imSize) ∧
    (∃ (s : State) (n : Fin 4) (w : Word) (a : Word) (b : Word) (c : _) (row : _) (cond : _), a = wReg (drvOf s.dev n) (fieldA w) ∧
     b = wReg (drvOf s.dev n) (fieldB w) ∧ (c, row, cond) ∈ [(Instr.beq n, JRow.beq, decide (a = b)), (.bne n, .bne, decide (a ≠ b)),
     (.blt n, .blt, decide (a.toInt < b.toInt)), (.bge n, .bge, decide (a.toInt ≥ b.toInt)), (.bltu n, .bltu, decide (a.toNat < b.toNat))] ∧
     Fetched s n row w ∧ cond = false ∧ (drvOf s.dev n).pc + 4 = imSize) :=
  ⟨⟨s46, 1, fetchWord s46.dev 1, (fun o => onDrv s46.dev 1 (fun v => { v with pc := v.pc + 4, openSet := o })), rfl, by decide +kernel⟩,
   ⟨s47, 1, fetchWord s47.dev 1, (fun o => onDrv s47.dev 1 (fun v => { v with pc := v.pc + 4, openSet := o })), rfl, by decide +kernel⟩,
   ⟨s48, 1, fetchWord s48.dev 1, (fun o₀ => onDrv s48.dev 1 (fun v => { v with pc := v.pc + 4, openSet := o₀ })), ((drvOf s48.dev 1).openSet).get
   (by decide +kernel), rfl, by decide +kernel⟩,
   ⟨s49, 1, fetchWord s49.dev 1, (fun o₀ => onDrv s49.dev 1 (fun v => { v with pc := v.pc + 4, openSet := o₀ })), ((drvOf s49.dev 1).openSet).get
   (by decide +kernel), rfl, by decide +kernel⟩,
   ⟨s50, 1, fetchWord s50.dev 1, (fun o => onDrv s50.dev 1 (fun v => { v with pc := v.pc + 4, openSet := o })), 0xFFFFFFFF, rfl, by decide +kernel⟩,
   ⟨s51, 1, fetchWord s51.dev 1, (fun o₀ => onDrv s51.dev 1 (fun v => { v with pc := v.pc + 4, openSet := o₀ })), ((drvOf s51.dev 1).openSet).get
   (by decide +kernel), 1, rfl, by decide +kernel⟩,
   ⟨s52, 1, fetchWord s52.dev 1, 0, by decide +kernel⟩,
   ⟨s53, 1, fetchWord s53.dev 1, by decide +kernel⟩,
   ⟨s54, 0, fetchWord s54.dev 0, by decide +kernel⟩,
   ⟨s55, 1, by decide +kernel⟩,
   ⟨s56, 1, .jr 1, .jr, by decide +kernel⟩,
   ⟨s29, 0, 6, 1, by decide +kernel⟩,
   ⟨s29, 1, 2, by decide +kernel⟩,
   ⟨s29, 0, 6, by decide +kernel⟩,
   ⟨s29, 0, 6, by decide +kernel⟩,
   ⟨s29, 1, 2, by decide +kernel⟩,
   ⟨s57, 2, fetchWord s57.dev 2, .mulh 2, .mulh, 0xFFFFFFEE#32, by decide +kernel⟩,
   ⟨s58, 2, (fetchWord s58.dev 2), wReg (drvOf s58.dev 2) (fieldA (fetchWord s58.dev 2)), wReg (drvOf s58.dev 2) (fieldB (fetchWord s58.dev 2)), .beq
   2, .beq, false, by decide +kernel⟩⟩

end Sys2Proof.Tests.Jorran

namespace Sys2Proof.Tests.Drovers

set_option maxRecDepth 100000
set_option Elab.async false

open Sys2Proof.Machine

def EV (op a b c s i : Nat) : Nat := op + a * 64 + b * 1024 + c * 16384 + s * 2 ^ 18 + i * 2 ^ 21
def drvRegs (n : Nat) : List (Nat × Word) := [(1, 0x80000007#32), (2, 0x00000023#32), (4, 0x102#32), (13, 0x300#32), (5, BitVec.ofNat 32 (0x780000 + n * 0x10000)), (6, 0x7C0010#32), (7, BitVec.ofNat 32 (unitBase .glob 0 + 0x30)), (8, BitVec.ofNat 32 (panBase + 0x40)), (9, 0x12340001#32), (10, 3#32), (11, 0x80000000#32), (12, 31#32 + 16#32)]
def baseD (d : Dev) : Dev := { (putF d .drv 0 0x44 11 0 0o4110 |> fun d => put (put (put d .drv 0 0x20 0xFFFFFFFF#32) .drv 0 0x24 0xFFFFFFFF#32) .drv 1 0x20 3#32) with boxes := vmod (vmod d.boxes 1 (fun b => { b with inbox := [[1#8, 2#8, 3#8], [4#8]] })) 0 (fun b => { b with outbox := List.replicate 8 [1#8] }) }
def jor (n pc w : Nat) (f : Dev → Dev) (g : Drover → Drover) : State :=
  mk .run (fun d => f (baseD (onDrv (memWrite d (imBase n + pc) (leBytes 4 w)) n (fun v => g { v with state := .running, pc := pc, regs := drvRegs n }))))
def ld (a : Nat) (r : Option (Option Word)) : Drover → Drover := fun v => { v with load := some { addr := a, width := 4, rd := 3, pc := 0x100, reply := r } }
def sto (l : List PostedStore) : Drover → Drover := fun v => { v with stores := l }
def ps (a : Nat) (r : Option Bool) (w : Nat := 4) : PostedStore := { addr := a, data := 0x77#32, width := w, pc := 0x104, reply := r }
def s1 : State := jor 1 0x100 0 id (ld (unitBase .glob 0 + 0x30) none)
def s2 : State := jor 1 0x100 0 id (fun v => { ld panBase (some (some 5#32)) v with haltDue := true })
def s3 : State := jor 1 0x100 0 id (ld panBase (some none))
def s4 : State := jor 1 0x100 0 (fun d => { d with badLines := [imBase 1 + 0x200] }) (ld (imBase 1 + 0x200) none)
def s5 : State := jor 1 0x100 0 id (ld 0x6FFFFC none)
def s6 : State := jor 1 0x100 0 id (fun v => sto [ps (unitBase .glob 0 + 0x30) none] (ld (unitBase .glob 0 + 0x30) none v))
def s7 : State := jor 1 0x100 0 id (sto [ps panBase (some true), ps panBase (some false)])
def s8 : State := jor 1 0x100 0 id (sto [ps (unitBase .glob 0 + 0x30) none, ps (unitBase .glob 0 + 0x30) none])
def s9 : State := jor 1 0x100 0 id (sto [ps 0x6FFFFC none, ps 0x6FFFFC none])
def s10 : State := jor 1 0x100 0 (fun d => { d with events := [{ num := 3 }, { num := 1 }, { num := 42, drover := some 1 }] }) id
def s11 : State := jor 1 0x100 0 (fun d => { (put d .drv 1 0x30 0xFFFF0000#32) with events := [{ num := 1, drover := some 1 }, { num := 2 }] }) (fun v =>
    { v with pend := 3 })
def s12 : State := jor 1 0x100 (EV 0x36 3 1 2 0 2) (fun d => putF (putF d .time 0 0x110 0 0 1) .time 0 0x120 0 0 1) id
def s13 : State := { run with dev := { run.dev with compares := vmod run.dev.compares 1 (fun c => { c with armed := true, target := 5 }) } }
def s14 : State := jor 1 0x20000 0 id id
def s15 : State := jor 1 0x100 0 (fun d => put d .drv 1 0x40 5#32) id
def s16 : State := jor 1 0x100 0 id (ld panBase (some (some 5#32)))
def s17 : State := jor 1 0x100 0 (fun d => putF d .power 0 0x20 9 7 0) (fun v => { v with state := .halted })
def s18 : State := jor 1 0x100 0 (fun d => put d .drv 1 4 0x200#32) (fun v => { v with snap := 3, pend := 4 }) |> fun s =>
    { s with dev := onDrv s.dev 1 (fun v => { v with state := .halted }) }
def s19 : State := jor 1 0x100 0 (fun d => put d .drv 1 4 0x200#32) (fun v => { v with snap := 3, pend := 4 }) |> fun s =>
    { s with dev := onDrv s.dev 1 (fun v => { v with state := .trapped }) }

theorem witness_LoadAndStoreResponses :
    (∃ (s : State) (n : Fin 4) (l : _) (x : _), UnitsOn s ∧ (drvOf s.dev n).load = some l ∧ ((inPan l.addr = true ∧ l.reply = some (some x)) ∨
     (inPan l.addr = false ∧ (drvOf s.dev n).stores.any (fun q => !(inPan q.addr)) = false ∧ (ownInstr n l.addr && badAt s.dev l.addr) = false ∧
     busRead s.env s.dev (2 + n) l.width l.addr = (some x, s.dev))) ∧ (drvOf s.dev n).failed = none ∧ (drvOf s.dev n).pc + 4 < imSize ∧
     (drvOf s.dev n).haltDue = false) ∧
    (∃ (s : State) (n : Fin 4) (l : _) (x : _), UnitsOn s ∧ (drvOf s.dev n).load = some l ∧ ((inPan l.addr = true ∧ l.reply = some (some x)) ∨
     (inPan l.addr = false ∧ (drvOf s.dev n).stores.any (fun q => !(inPan q.addr)) = false ∧ (ownInstr n l.addr && badAt s.dev l.addr) = false ∧
     busRead s.env s.dev (2 + n) l.width l.addr = (some x, s.dev))) ∧ (drvOf s.dev n).failed = none ∧ (drvOf s.dev n).pc + 4 < imSize ∧
     (drvOf s.dev n).haltDue = true ∧ (drvOf s.dev n).state = .running) ∧
    (∃ (s : State) (n : Fin 4) (l : _), UnitsOn s ∧ (drvOf s.dev n).load = some l ∧ inPan l.addr = true ∧ l.reply = some none) ∧
    (∃ (s : State) (n : Fin 4) (l : _), UnitsOn s ∧ (drvOf s.dev n).load = some l ∧ inPan l.addr = false ∧
     (drvOf s.dev n).stores.any (fun q => !(inPan q.addr)) = false ∧ ownInstr n l.addr = true ∧ badAt s.dev l.addr = true ∧
     guardOf s.dev (2 + n) = none) ∧
    (∃ (s : State) (n : Fin 4) (l : _) (d : _), UnitsOn s ∧ (drvOf s.dev n).load = some l ∧ inPan l.addr = false ∧
     (drvOf s.dev n).stores.any (fun q => !(inPan q.addr)) = false ∧ (ownInstr n l.addr && badAt s.dev l.addr) = false ∧ d.acts = [] ∧
     busRead s.env s.dev (2 + n) l.width l.addr = (none, d)) ∧
    (∃ (s : State) (n : Fin 4) (l : _), UnitsOn s ∧ (drvOf s.dev n).load = some l ∧ inPan l.addr = false ∧
     (drvOf s.dev n).stores.any (fun q => !(inPan q.addr)) = true) ∧
    (∃ (s : State) (n : Fin 4) (i : Nat) (p : PostedStore) (gone : Dev), UnitsOn s ∧ (drvOf s.dev n).stores[i]? = some p ∧
     gone = onDrv s.dev n (fun v => { v with stores := v.stores.eraseIdx i }) ∧ inPan p.addr = true ∧ p.reply = some true) ∧
    (∃ (s : State) (n : Fin 4) (i : Nat) (p : PostedStore) (gone : Dev), UnitsOn s ∧ (drvOf s.dev n).stores[i]? = some p ∧
     gone = onDrv s.dev n (fun v => { v with stores := v.stores.eraseIdx i }) ∧ inPan p.addr = true ∧ p.reply = some false ∧
     (drvOf s.dev n).state = .running ∧ (drvOf s.dev n).load = none) ∧
    (∃ (s : State) (n : Fin 4) (i : Nat) (p : PostedStore) (gone : Dev) (d : _), UnitsOn s ∧ (drvOf s.dev n).stores[i]? = some p ∧
     gone = onDrv s.dev n (fun v => { v with stores := v.stores.eraseIdx i }) ∧ inPan p.addr = false ∧
     ((drvOf s.dev n).stores.take i).any (fun q => !(inPan q.addr)) = false ∧ d.acts = [] ∧
     busWrite s.env gone (2 + n) p.width p.addr p.data = (true, d)) ∧
    (∃ (s : State) (n : Fin 4) (i : Nat) (p : PostedStore) (gone : Dev) (d : _), UnitsOn s ∧ (drvOf s.dev n).stores[i]? = some p ∧
     gone = onDrv s.dev n (fun v => { v with stores := v.stores.eraseIdx i }) ∧ inPan p.addr = false ∧
     ((drvOf s.dev n).stores.take i).any (fun q => !(inPan q.addr)) = false ∧ d.acts = [] ∧
     busWrite s.env gone (2 + n) p.width p.addr p.data = (false, d) ∧ (drvOf d n).state = .running ∧ (drvOf d n).load = none) :=
  ⟨⟨s1, 1, ((drvOf s1.dev 1).load).get (by decide +kernel), 0, by decide +kernel⟩,
   ⟨s2, 1, ((drvOf s2.dev 1).load).get (by decide +kernel), 5#32, by decide +kernel⟩,
   ⟨s3, 1, ((drvOf s3.dev 1).load).get (by decide +kernel), by decide +kernel⟩,
   ⟨s4, 1, ((drvOf s4.dev 1).load).get (by decide +kernel), by decide +kernel⟩,
   ⟨s5, 1, ((drvOf s5.dev 1).load).get (by decide +kernel), (busRead s5.env s5.dev 3 4 0x6FFFFC).2, by decide +kernel⟩,
   ⟨s6, 1, ((drvOf s6.dev 1).load).get (by decide +kernel), by decide +kernel⟩,
   ⟨s7, 1, 0, ((drvOf s7.dev 1).stores[0]?).get (by decide +kernel), onDrv s7.dev 1 (fun v => { v with stores := v.stores.eraseIdx 0 }),
   by decide +kernel⟩,
   ⟨s7, 1, 1, ((drvOf s7.dev 1).stores[1]?).get (by decide +kernel), onDrv s7.dev 1 (fun v => { v with stores := v.stores.eraseIdx 1 }),
   by decide +kernel⟩,
   ⟨s8, 1, 0, ps (unitBase .glob 0 + 0x30) none, onDrv s8.dev 1 (fun v => { v with stores := v.stores.eraseIdx 0 }), (busWrite s8.env (onDrv s8.dev 1
   (fun v => { v with stores := v.stores.eraseIdx 0 })) 3 4 (unitBase .glob 0 + 0x30) 0x77#32).2, by decide +kernel⟩,
   ⟨s9, 1, 0, ps 0x6FFFFC none, onDrv s9.dev 1 (fun v => { v with stores := v.stores.eraseIdx 0 }), (busWrite s9.env (onDrv s9.dev 1 (fun v =>
   { v with stores := v.stores.eraseIdx 0 })) 3 4 0x6FFFFC 0x77#32).2, by decide +kernel⟩⟩
theorem witness_EventsReachTheDroversAndWaitConsumesThem :
    (∃ (s : State) (ev : Fin 64) (q : Option Nat) (a : List Ev) (l : List Ev) (n : Fin 4), UnitsOn s ∧
     s.dev.events = a ++ { num := ev, drover := q } :: l ∧ (∀ x ∈ a, x.num ≠ ev.val) ∧ ((q ≠ none ∧ q ≠ some n.val) ∨
     (eventsOn s.dev n).testBit ev = false)) ∧
    (∃ (s : State) (ev : Fin 64) (q : Option Nat) (a : List Ev) (l : List Ev) (n : Fin 4), UnitsOn s ∧
     s.dev.events = a ++ { num := ev, drover := q } :: l ∧ (∀ x ∈ a, x.num ≠ ev.val) ∧ (q = none ∨ q = some n.val) ∧
     (eventsOn s.dev n).testBit ev = true ∧ (drvOf s.dev n).pend.testBit ev = false) ∧
    (∃ (s : State) (ev : Fin 64) (q : Option Nat) (a : List Ev) (l : List Ev) (n : Fin 4), UnitsOn s ∧
     s.dev.events = a ++ { num := ev, drover := q } :: l ∧ (∀ x ∈ a, x.num ≠ ev.val) ∧ (q = none ∨ q = some n.val) ∧
     (eventsOn s.dev n).testBit ev = true ∧ (drvOf s.dev n).pend.testBit ev = true ∧ (drvOf s.dev n).ovrArm = true) :=
  ⟨⟨s10, 42, some 1, [{ num := 3 }, { num := 1 }], [], 0, by decide +kernel⟩,
   ⟨s10, 1, none, [{ num := 3 }], [{ num := 42, drover := some 1 }], 0, by decide +kernel⟩,
   ⟨s11, 1, some 1, [], [{ num := 2 }], 1, by decide +kernel⟩⟩
theorem witness_DoorbellsMessagesAndTimes :
    (∃ (s : State) (n : Fin 4) (w : Word) (d' : Word → Dev), d' = (fun r => onDrv s.dev n (fun v => { wSet v (fieldA w) r with pc := v.pc + 4 })) ∧
     (drvOf s.dev n).pc + 4 < imSize ∧ Fetched s n .arm w ∧ cycleOn s.dev (imm11 w) = true) ∧
    (∃ (s : State) (n : Fin 4) (w : Word) (d' : Word → Dev) (u : Fin 4) (dt : Nat),
     d' = (fun r => onDrv s.dev n (fun v => { wSet v (fieldA w) r with pc := v.pc + 4 })) ∧ AonOn s ∧ cycleOn s.dev u = false ∧
     (vget s.dev.compares u).armed = true ∧ (((passTime s dt).clock.now / 2 ^ 30 : Int) - (vget s.dev.compares u).target) % 2 ^ 40 < 2 ^ 39) ∧
    (∃ (s : State) (n : Fin 4) (w : Word) (d' : Word → Dev) (u : Fin 4) (dt : Nat),
     d' = (fun r => onDrv s.dev n (fun v => { wSet v (fieldA w) r with pc := v.pc + 4 })) ∧ AonOn s ∧ cycleOn s.dev u = false ∧
     (vget s.dev.compares u).armed = true ∧ 2 ^ 39 ≤ (((passTime s dt).clock.now / 2 ^ 30 : Int) - (vget s.dev.compares u).target) % 2 ^ 40) :=
  ⟨⟨s12, 1, fetchWord s12.dev 1, (fun r => onDrv s12.dev 1 (fun v => { wSet v (fieldA (fetchWord s12.dev 1)) r with pc := v.pc + 4 })), rfl,
   by decide +kernel⟩,
   ⟨s13, 0, 0, (fun r => onDrv s13.dev 0 (fun v => { wSet v (fieldA 0) r with pc := v.pc + 4 })), 1, 3, rfl, by decide +kernel⟩,
   ⟨s13, 0, 0, (fun r => onDrv s13.dev 0 (fun v => { wSet v (fieldA 0) r with pc := v.pc + 4 })), 1, 0, rfl, by decide +kernel⟩⟩
theorem witness_StagedSetsAndTheirDrovers :
    (∃ (s : State) (n : Fin 4) (c : _), UnitsOn s ∧ canRun s.dev n = true ∧
     c ∈ [Instr.add n, .addi n, .ldW n, .beq n, .halt n, .illegalInstruction n] ∧ (drvOf s.dev n).failed = none ∧ (drvOf s.dev n).pc = imSize) ∧
    (∃ (s : State) (n : Fin 4) (us : _), UnitsOn s ∧ (drvOf s.dev n).state = .running ∧ getF s.dev .drv n 0x40 15 0 ≠ 0 ∧
     getF s.dev .drv n 0x40 15 0 ≤ (drvOf s.dev n).wdog + us) ∧
    (∃ (s : State) (n : Fin 4) (us : _), UnitsOn s ∧ (drvOf s.dev n).state = .running ∧ getF s.dev .drv n 0x40 15 0 ≠ 0 ∧
     (drvOf s.dev n).wdog + us < getF s.dev .drv n 0x40 15 0) ∧
    (∃ (s : State) (n : Fin 4) (m : Fin 7), fenceOf s.dev (0x28 + n) = none ∧ TakesWrite s m .drv n 0 2#32 ∧ (drvOf s.dev n).state = .running ∧
     (drvOf s.dev n).load ≠ none) ∧
    (∃ (s : State) (n : Fin 4) (m : Fin 7), fenceOf s.dev (0x28 + n) = none ∧ TakesWrite s m .drv n 0 1#32 ∧ n ≠ 0 ∧ domainOn s.dev (39 + n) = false ∧
     (drvOf s.dev n).state ≠ .trapped) ∧
    (∃ (s : State) (n : Fin 4) (m : Fin 7), fenceOf s.dev (0x28 + n) = none ∧ TakesWrite s m .drv n 0 1#32 ∧ (drvOf s.dev n).state = .halted ∧
     (n = 0 ∨ domainOn s.dev (39 + n) = true)) ∧
    (∃ (s : State) (n : Fin 4) (m : Fin 7), fenceOf s.dev (0x28 + n) = none ∧ TakesWrite s m .drv n 0 1#32 ∧ (drvOf s.dev n).state = .trapped) :=
  ⟨⟨s14, 1, Instr.add 1, by decide +kernel⟩,
   ⟨s15, 1, 0x7C0010, by decide +kernel⟩,
   ⟨s15, 1, 0, by decide +kernel⟩,
   ⟨s16, 1, 2, by decide +kernel⟩,
   ⟨s17, 1, 2, by decide +kernel⟩,
   ⟨s18, 1, 2, by decide +kernel⟩,
   ⟨s19, 1, 2, by decide +kernel⟩⟩

end Sys2Proof.Tests.Drovers

namespace Sys2Proof.Tests.Link

set_option maxRecDepth 100000
set_option Elab.async false

open Sys2Proof.Machine

def B (l : List Nat) : List Byte := l.map (BitVec.ofNat 8)
def pad30 (l : List Nat) : List Byte := B (l ++ List.replicate (30 - l.length) 0)
def sb (l : List Nat) : List Byte := sealBlock (pad30 l)
def bad (b : List Byte) : List Byte := b.set 5 0xEE
def hd47 : List Byte := pad30 [0x47, 0, 0, 0, 0, 0, 0, 0, 0, 0, 1, 0, 0, 0, 0, 0, 5]
def dat : List Byte := B (List.range 32)
def endOf (h : List Byte) (ds : List (List Byte)) : List Byte := sealBlock (B [0x3F] ++ (h.drop 1).take 3 ++ leBytes 4 (crc32c (h ++ ds.flatten)))
def hd60 : List Byte := pad30 [0x60, 0, 0xFF, 9, 0x14, 0, 0, 0, 0, 0, 0, 0]
def hd40 : List Byte := pad30 [0x40, 0, 0x10, 7, 0, 0, 0, 0, 0, 0, 1, 0]
def hd40x : List Byte := pad30 [0x40, 0, 0x20, 7, 0, 0, 0, 0, 0, 0, 1, 0]
def rdy (g : Nat) (f : Group → Group) (h : Dev → Dev := id) : State := mk .run (fun d => h (onGroup d g (fun x => f { x with state := .ready, tx := .blocks, rxStream := false })))
def role (r : Nat) (s : State) : State := { s with sys := { s.sys with straps := { s.sys.straps with role := r } } }
def tid (d : Dev) : Dev := put d .glob 0 0x10 0x80000100#32
def fbuf (d : Dev) : Dev := put (put d .feeder 0 4 0x01000008#32) .feeder 1 4 0x02000008#32
def s1 : State := rdy 0 id
def s2 : State := rdy 1 id
def s3 : State := rdy 1 (fun g => { g with map := some (4, List.replicate 1024 1), opens := [(1, { head := hd40, data := [dat] })] }) (fbuf ∘ tid)
def s4 : State := role 1 (rdy 0 id)
def s5 : State := rdy 0 (fun g => { g with opens := [(0, { head := hd47, data := [dat] })] }) tid
def s6 : State := rdy 0 (fun g => { g with rxStream := true }) tid
def s7 : State := rdy 0 (fun g => { g with opens := [(0, { head := hd47, data := [dat.set 3 9] })] }) tid
def s8 : State := rdy 0 (fun g => { g with opens := [(0, { head := hd60.set 20 9 })] }) tid
def s9 : State := rdy 0 (fun g => { g with opens := [(0, { head := hd60 })] }) tid
def s10 : State := rdy 0 (fun g => { g with opens := [(0, { head := hd60 })] }) (fun d => onTrunk (tid d) (fun t =>
    { t with requests := List.replicate 64 { head := hd60 } }))
def s11 : State := rdy 1 (fun g => { g with map := some (4, List.replicate 1024 1), opens := [(1, { head := hd40x, data := [dat] })] }) (fbuf ∘ tid)
def s12 : State := rdy 2 (fun g => { g with map := some (4, List.replicate 1024 0) }) (fbuf ∘ tid)

theorem witness_LinkBlocksAreTaken :
    (∃ (s : State) (g : Fin 3) (h : Fin 3), UnitsOn s ∧ (vget s.dev.groups g).tx ∈ [.training, .blocks] ∧ h ≠ g) ∧
    (∃ (s : State) (g : Fin 3) (n : Fin 15), UnitsOn s ∧ (vget s.dev.groups g).tx ∈ [.training, .blocks] ∧ n.val ∉ txLanes s.dev g) ∧
    (∃ (s : State) (g : Fin 3) (n : Fin 15), UnitsOn s ∧ (vget s.dev.groups g).tx ∈ [.training, .blocks] ∧ n.val ∈ txLanes s.dev g) ∧
    (∃ (s : State) (g : Fin 3), UnitsOn s ∧ (vget s.dev.groups g).tx ∈ [.training, .blocks] ∧ g = 0) ∧
    (∃ (s : State) (g : Fin 3), UnitsOn s ∧ (vget s.dev.groups g).tx ∈ [.training, .blocks] ∧ g ≠ 0 ∧ hasChildren s.dev = true) ∧
    (∃ (s : State) (g : Fin 3) (d : Dev) (bl : List (Arrival × List Byte)) (ms : List (List Byte)) (skew : Nat),
     milestonesOf s.dev ((rxLanes s.dev g).zip bl) = (ms.map some, d) ∧ UnitsOn s ∧ linkLive s.dev g = true ∧ bl.length = (rxLanes s.dev g).length ∧
     d.acts = [] ∧ (vget d.groups g).state = .ready ∧ (∀ b ∈ ms, sealOk b = true) ∧
     (∀ b ∈ ms, ∀ c ∈ ms, leVal ((b.drop 4).take 4) = leVal ((c.drop 4).take 4)) ∧ skew ≤ 32) ∧
    (∃ (s : State) (g : Fin 3) (d : Dev) (bl : List (Arrival × List Byte)) (ms : List (List Byte)) (skew : Nat),
     milestonesOf s.dev ((rxLanes s.dev g).zip bl) = (ms.map some, d) ∧ UnitsOn s ∧ linkLive s.dev g = true ∧ bl.length = (rxLanes s.dev g).length ∧
     d.acts = [] ∧ (vget d.groups g).state = .ready ∧ (∀ b ∈ ms, sealOk b = true) ∧ (32 < skew ∨
     (∃ b ∈ ms, ∃ c ∈ ms, leVal ((b.drop 4).take 4) ≠ leVal ((c.drop 4).take 4)))) ∧
    (∃ (s : State) (block : List Byte) (bs : List Byte) (a : Arrival) (d : Dev) (c : _), Brings s.dev 0 true block a false bs d ∧ UnitsOn s ∧
     sealOk bs = false ∧
     c ∈ [Instr.idleBlockReceived 0 block a, .identityReceived block a, .mapFragmentReceived 0 block a, .packetHeadReceived 0 block a 0, .packetEndReceived 0 block a]) ∧
    (∃ (s : State) (g : Fin 3) (block : List Byte) (bs : List Byte) (a : Arrival) (d : Dev), Brings s.dev g true block a false bs d ∧ UnitsOn s ∧
     (vget d.groups g).state = .ready ∧ sealOk bs = true ∧ (bs.getD 0 0).toNat = 1 ∧ g = 0) ∧
    (∃ (s : State) (g : Fin 3) (block : List Byte) (bs : List Byte) (a : Arrival) (d : Dev) (o : _), Brings s.dev g true block a false bs d ∧
     UnitsOn s ∧ (vget d.groups g).state = .ready ∧ sealOk bs = true ∧ (bs.getD 0 0).toNat = 1 ∧ g ≠ 0 ∧ rxOwner d g = some o) ∧
    (∃ (s : State) (g : Fin 3) (block : List Byte) (bs : List Byte) (a : Arrival) (d : Dev), Brings s.dev g true block a false bs d ∧ UnitsOn s ∧
     (vget d.groups g).state = .ready ∧ g = 0 ∧ sealOk bs = true ∧ (bs.getD 0 0).toNat = 6) ∧
    (∃ (s : State) (g : Fin 3) (block : List Byte) (bs : List Byte) (a : Arrival) (d : Dev), Brings s.dev g true block a false bs d ∧ UnitsOn s ∧
     (vget d.groups g).state = .ready ∧ g ≠ 0 ∧ sealOk bs = true ∧ (bs.getD 0 0).toNat = 6 ∧ (vget d.groups g).slot < 1023) ∧
    (∃ (s : State) (g : Fin 3) (block : List Byte) (bs : List Byte) (a : Arrival) (d : Dev), Brings s.dev g true block a false bs d ∧ UnitsOn s ∧
     (vget d.groups g).state = .ready ∧ g = 0 ∧ sealOk bs = true ∧ (bs.getD 0 0).toNat = 5 ∧ s.sys.straps.role = 1 ∧ 1 ≤ (bs.getD 2 0).toNat ∧
     (bs.getD 2 0).toNat ≤ 14 ∧ (bs.getD 4 0).toNat = levelOf (bs.getD 2 0).toNat ∧ 7 ≤ (bs.getD 2 0).toNat) ∧
    (∃ (s : State) (g : Fin 3) (block : List Byte) (bs : List Byte) (a : Arrival) (d : Dev), Brings s.dev g true block a false bs d ∧ UnitsOn s ∧
     (vget d.groups g).state = .ready ∧ g = 0 ∧ sealOk bs = true ∧ (bs.getD 0 0).toNat = 5 ∧ s.sys.straps.role = 1 ∧ ¬ (1 ≤ (bs.getD 2 0).toNat ∧
     (bs.getD 2 0).toNat ≤ 14 ∧ (bs.getD 4 0).toNat = levelOf (bs.getD 2 0).toNat)) ∧
    (∃ (s : State) (g : Fin 3) (block : List Byte) (bs : List Byte) (a : Arrival) (d : Dev), Brings s.dev g true block a false bs d ∧ UnitsOn s ∧
     (vget d.groups g).state = .ready ∧ g = 0 ∧ sealOk bs = true ∧ (bs.getD 0 0).toNat = 5 ∧ s.sys.straps.role = 0) :=
  ⟨⟨s1, 0, 1, by decide +kernel⟩,
   ⟨s1, 0, 1, by decide +kernel⟩,
   ⟨s1, 0, 0, by decide +kernel⟩,
   ⟨s1, 0, by decide +kernel⟩,
   ⟨s2, 1, by decide +kernel⟩,
   ⟨s1, 0, (milestonesOf s1.dev ((rxLanes s1.dev 0).zip (List.replicate 1 (Arrival.clean, sb [2, 0, 0, 5, 1, 0, 0, 0])))).2, List.replicate 1
   (Arrival.clean, sb [2, 0, 0, 5, 1, 0, 0, 0]), (List.replicate 1 (Arrival.clean, sb [2, 0, 0, 5, 1, 0, 0, 0])).map Prod.snd, 0, Prod.ext
   (by decide +kernel) rfl, by decide +kernel⟩,
   ⟨s1, 0, (milestonesOf s1.dev ((rxLanes s1.dev 0).zip (List.replicate 1 (Arrival.clean, sb [2, 0, 0, 5, 1, 0, 0, 0])))).2, List.replicate 1
   (Arrival.clean, sb [2, 0, 0, 5, 1, 0, 0, 0]), (List.replicate 1 (Arrival.clean, sb [2, 0, 0, 5, 1, 0, 0, 0])).map Prod.snd, 33, Prod.ext
   (by decide +kernel) rfl, by decide +kernel⟩,
   ⟨s1, bad (sb [1, 1]), (bad (sb [1, 1])), .clean, (arrive s1.dev (rxLaneNow s1.dev 0) true (bad (sb [1, 1])) (.clean)).2, Instr.idleBlockReceived 0
   (bad (sb [1, 1])) (.clean), ⟨by decide +kernel, Prod.ext (by decide +kernel) rfl, by decide +kernel⟩, by decide +kernel⟩,
   ⟨s1, 0, sb [1, 3], (sb [1, 3]), .clean, (arrive s1.dev (rxLaneNow s1.dev 0) true (sb [1, 3]) (.clean)).2, ⟨by decide +kernel, Prod.ext
   (by decide +kernel) rfl, by decide +kernel⟩, by decide +kernel⟩,
   ⟨s3, 1, sb [1, 3], (sb [1, 3]), .clean, (arrive s3.dev (rxLaneNow s3.dev 1) true (sb [1, 3]) (.clean)).2, (rxOwner ((arrive s3.dev (rxLaneNow
   s3.dev 1) true (sb [1, 3]) (.clean)).2) 1).get (by decide +kernel), ⟨by decide +kernel, Prod.ext (by decide +kernel) rfl, by decide +kernel⟩,
   by decide +kernel⟩,
   ⟨s1, 0, sb [6, 0, 4, 0x27, 1, 2, 3], (sb [6, 0, 4, 0x27, 1, 2, 3]), .clean, (arrive s1.dev (rxLaneNow s1.dev 0) true (sb [6, 0, 4, 0x27, 1, 2, 3])
   (.clean)).2, ⟨by decide +kernel, Prod.ext (by decide +kernel) rfl, by decide +kernel⟩, by decide +kernel⟩,
   ⟨s2, 1, sb [6, 0, 4, 0x27, 1, 2, 3], (sb [6, 0, 4, 0x27, 1, 2, 3]), .clean, (arrive s2.dev (rxLaneNow s2.dev 1) true (sb [6, 0, 4, 0x27, 1, 2, 3])
   (.clean)).2, ⟨by decide +kernel, Prod.ext (by decide +kernel) rfl, by decide +kernel⟩, by decide +kernel⟩,
   ⟨s4, 0, sb [5, 0, 9, 5, 3], (sb [5, 0, 9, 5, 3]), .clean, (arrive s4.dev (rxLaneNow s4.dev 0) true (sb [5, 0, 9, 5, 3]) (.clean)).2,
   ⟨by decide +kernel, Prod.ext (by decide +kernel) rfl, by decide +kernel⟩, by decide +kernel⟩,
   ⟨s4, 0, sb [5, 0, 14, 5, 1], (sb [5, 0, 14, 5, 1]), .clean, (arrive s4.dev (rxLaneNow s4.dev 0) true (sb [5, 0, 14, 5, 1]) (.clean)).2,
   ⟨by decide +kernel, Prod.ext (by decide +kernel) rfl, by decide +kernel⟩, by decide +kernel⟩,
   ⟨s1, 0, sb [5, 0, 3, 0x77, 2], (sb [5, 0, 3, 0x77, 2]), .clean, (arrive s1.dev (rxLaneNow s1.dev 0) true (sb [5, 0, 3, 0x77, 2]) (.clean)).2,
   ⟨by decide +kernel, Prod.ext (by decide +kernel) rfl, by decide +kernel⟩, by decide +kernel⟩⟩
theorem witness_PacketsAreFramedDeliveredAndPassedThrough :
    (∃ (s : State) (block : List Byte) (bs : List Byte) (a : Arrival) (d : Dev) (x : Dev), Brings s.dev 0 true block a false bs d ∧ UnitsOn s ∧
     (vget d.groups 0).state = .ready ∧ x = onGroup d 0 (fun q => { q with rxStream := false }) ∧ sealOk bs = true ∧
     headAllowed 0 (bs.getD 0 0).toNat = true ∧ openOf d 0 0 = none) ∧
    (∃ (s : State) (block : List Byte) (bs : List Byte) (a : Arrival) (d : Dev) (x : Dev) (o : _), Brings s.dev 0 true block a false bs d ∧
     UnitsOn s ∧ (vget d.groups 0).state = .ready ∧ x = onGroup d 0 (fun q => { q with rxStream := false }) ∧ sealOk bs = true ∧
     headAllowed 0 (bs.getD 0 0).toNat = true ∧ openOf d 0 0 = some o ∧ o.drop = false) ∧
    (∃ (s : State) (block : List Byte) (bs : List Byte) (a : Arrival) (d : Dev) (x : Dev), Brings s.dev 0 true block a false bs d ∧ UnitsOn s ∧
     (vget d.groups 0).state = .ready ∧ x = onGroup d 0 (fun q => { q with rxStream := false }) ∧ sealOk bs = true ∧
     headAllowed 0 (bs.getD 0 0).toNat = false ∧ headType 0 (bs.getD 0 0).toNat = true) ∧
    (∃ (s : State) (block : List Byte) (bs : List Byte) (a : Arrival) (d : Dev) (x : Dev) (errored : _), Brings s.dev 0 false block a errored bs d ∧
     UnitsOn s ∧ (vget d.groups 0).state = .ready ∧ x = onGroup d 0 (fun q => { q with rxStream := false }) ∧ (vget d.groups 0).rxStream = true) ∧
    (∃ (s : State) (block : List Byte) (bs : List Byte) (a : Arrival) (d : Dev) (x : Dev) (errored : _), Brings s.dev 0 false block a errored bs d ∧
     UnitsOn s ∧ (vget d.groups 0).state = .ready ∧ x = onGroup d 0 (fun q => { q with rxStream := false }) ∧ (vget d.groups 0).rxStream = false ∧
     openOf d 0 0 = none) ∧
    (∃ (s : State) (block : List Byte) (bs : List Byte) (a : Arrival) (d : Dev) (x : Dev) (errored : _) (o : _),
     Brings s.dev 0 false block a errored bs d ∧ UnitsOn s ∧ (vget d.groups 0).state = .ready ∧
     x = onGroup d 0 (fun q => { q with rxStream := false }) ∧ (vget d.groups 0).rxStream = false ∧ openOf d 0 0 = some o ∧ o.drop = false) ∧
    (∃ (s : State) (block : List Byte) (bs : List Byte) (a : Arrival) (d : Dev) (x : Dev), Brings s.dev 0 true block a false bs d ∧ UnitsOn s ∧
     (vget d.groups 0).state = .ready ∧ x = onGroup d 0 (fun q => { q with rxStream := false }) ∧ sealOk bs = true ∧ (bs.getD 0 0).toNat = 0x3F ∧
     openOf d 0 0 = none) ∧
    (∃ (s : State) (block : List Byte) (bs : List Byte) (a : Arrival) (d : Dev) (x : Dev) (o : _), Brings s.dev 0 true block a false bs d ∧
     UnitsOn s ∧ (vget d.groups 0).state = .ready ∧ x = onGroup d 0 (fun q => { q with rxStream := false }) ∧ sealOk bs = true ∧
     (bs.getD 0 0).toNat = 0x3F ∧ openOf d 0 0 = some o ∧ o.drop = false ∧ (o.bad = true ∨ o.data.length ≠ leVal ((o.head.drop 10).take 2) ∨
     (bs.drop 1).take 3 ≠ (o.head.drop 1).take 3)) ∧
    (∃ (s : State) (block : List Byte) (bs : List Byte) (a : Arrival) (d : Dev) (x : Dev) (o : _), Brings s.dev 0 true block a false bs d ∧
     UnitsOn s ∧ (vget d.groups 0).state = .ready ∧ x = onGroup d 0 (fun q => { q with rxStream := false }) ∧ sealOk bs = true ∧
     (bs.getD 0 0).toNat = 0x3F ∧ openOf d 0 0 = some o ∧ o.drop = false ∧ o.bad = false ∧ o.data.length = leVal ((o.head.drop 10).take 2) ∧
     (bs.drop 1).take 3 = (o.head.drop 1).take 3 ∧ leVal ((bs.drop 4).take 4) ≠ crc32c (o.head ++ o.data.flatten) ∧ (o.head.getD 0 0).toNat < 0x60) ∧
    (∃ (s : State) (block : List Byte) (bs : List Byte) (a : Arrival) (d : Dev) (x : Dev) (o : _), Brings s.dev 0 true block a false bs d ∧
     UnitsOn s ∧ (vget d.groups 0).state = .ready ∧ x = onGroup d 0 (fun q => { q with rxStream := false }) ∧ sealOk bs = true ∧
     (bs.getD 0 0).toNat = 0x3F ∧ openOf d 0 0 = some o ∧ o.drop = false ∧ o.bad = false ∧ o.data.length = leVal ((o.head.drop 10).take 2) ∧
     (bs.drop 1).take 3 = (o.head.drop 1).take 3 ∧ leVal ((bs.drop 4).take 4) ≠ crc32c (o.head ++ o.data.flatten) ∧ 0x60 ≤ (o.head.getD 0 0).toNat ∧
     deviceId d = some ((o.head.getD 1 0).toNat % 16) ∧ (o.head.getD 2 0).toNat ∈ [0xFF, treeId d] ∧ answersBad o.head = true ∧
     d.trunk.requests.length < 64) ∧
    (∃ (s : State) (block : List Byte) (bs : List Byte) (a : Arrival) (d : Dev) (x : Dev) (o : _), Brings s.dev 0 true block a false bs d ∧
     UnitsOn s ∧ (vget d.groups 0).state = .ready ∧ x = onGroup d 0 (fun q => { q with rxStream := false }) ∧ sealOk bs = true ∧
     (bs.getD 0 0).toNat = 0x3F ∧ openOf d 0 0 = some o ∧ o.drop = false ∧ o.bad = false ∧ o.data.length = leVal ((o.head.drop 10).take 2) ∧
     (bs.drop 1).take 3 = (o.head.drop 1).take 3 ∧ leVal ((bs.drop 4).take 4) = crc32c (o.head ++ o.data.flatten) ∧ (o.head.getD 0 0).toNat = 0x47 ∧
     (vget d.boxes 0).inbox.length < 8) ∧
    (∃ (s : State) (block : List Byte) (bs : List Byte) (a : Arrival) (d : Dev) (x : Dev) (o : _), Brings s.dev 0 true block a false bs d ∧
     UnitsOn s ∧ (vget d.groups 0).state = .ready ∧ x = onGroup d 0 (fun q => { q with rxStream := false }) ∧ sealOk bs = true ∧
     (bs.getD 0 0).toNat = 0x3F ∧ openOf d 0 0 = some o ∧ o.drop = false ∧ o.bad = false ∧ o.data.length = leVal ((o.head.drop 10).take 2) ∧
     (bs.drop 1).take 3 = (o.head.drop 1).take 3 ∧ leVal ((bs.drop 4).take 4) = crc32c (o.head ++ o.data.flatten) ∧ 0x60 ≤ (o.head.getD 0 0).toNat ∧
     deviceId d = some ((o.head.getD 1 0).toNat % 16) ∧ (o.head.getD 1 0).toNat % 16 ≠ 15 ∧ (o.head.getD 2 0).toNat ∈ [0xFF, treeId d] ∧
     d.trunk.requests.length < 64) ∧
    (∃ (s : State) (block : List Byte) (bs : List Byte) (a : Arrival) (d : Dev) (x : Dev) (o : _), Brings s.dev 0 true block a false bs d ∧
     UnitsOn s ∧ (vget d.groups 0).state = .ready ∧ x = onGroup d 0 (fun q => { q with rxStream := false }) ∧ sealOk bs = true ∧
     (bs.getD 0 0).toNat = 0x3F ∧ openOf d 0 0 = some o ∧ o.drop = false ∧ o.bad = false ∧ o.data.length = leVal ((o.head.drop 10).take 2) ∧
     (bs.drop 1).take 3 = (o.head.drop 1).take 3 ∧ leVal ((bs.drop 4).take 4) = crc32c (o.head ++ o.data.flatten) ∧ 0x60 ≤ (o.head.getD 0 0).toNat ∧
     deviceId d = some ((o.head.getD 1 0).toNat % 16) ∧ (o.head.getD 1 0).toNat % 16 ≠ 15 ∧ (o.head.getD 2 0).toNat ∈ [0xFF, treeId d] ∧
     64 ≤ d.trunk.requests.length) ∧
    (∃ (s : State) (f : Fin 2) (block : List Byte) (bs : List Byte) (a : Arrival) (d : Dev) (k : Nat) (codes : List Nat) (o : _),
     Brings s.dev (f + 1) true block a false bs d ∧ UnitsOn s ∧ (vget d.groups (f + 1)).state = .ready ∧
     (vget d.groups (f + 1)).map = some (k, codes) ∧ (vget d.groups (f + 1)).slot < 1023 ∧ sealOk bs = true ∧ s.sys.mode ≠ .idle ∧
     (bs.getD 0 0).toNat = 0x3F ∧ openOf d (f + 1) (codes.getD (vget d.groups (f + 1)).slot 0) = some o ∧ o.drop = false ∧ o.bad = false ∧
     o.data.length = leVal ((o.head.drop 10).take 2) ∧ (bs.drop 1).take 3 = (o.head.drop 1).take 3 ∧
     leVal ((bs.drop 4).take 4) = crc32c (o.head ++ o.data.flatten) ∧ (o.head.getD 0 0).toNat ∈ [0x40, 0x41, 0x42, 0x43, 0x44, 0x45] ∧
     feederTo d ((o.head.getD 2 0).toNat / 16) = some f.val ∧ (o.head.getD 2 0).toNat / 16 ≠ 15) ∧
    (∃ (s : State) (f : Fin 2) (block : List Byte) (bs : List Byte) (a : Arrival) (d : Dev) (k : Nat) (codes : List Nat) (o : _),
     Brings s.dev (f + 1) true block a false bs d ∧ UnitsOn s ∧ (vget d.groups (f + 1)).state = .ready ∧
     (vget d.groups (f + 1)).map = some (k, codes) ∧ (vget d.groups (f + 1)).slot < 1023 ∧ sealOk bs = true ∧ s.sys.mode ≠ .idle ∧
     (bs.getD 0 0).toNat = 0x3F ∧ openOf d (f + 1) (codes.getD (vget d.groups (f + 1)).slot 0) = some o ∧ o.drop = false ∧ o.bad = false ∧
     o.data.length = leVal ((o.head.drop 10).take 2) ∧ (bs.drop 1).take 3 = (o.head.drop 1).take 3 ∧
     leVal ((bs.drop 4).take 4) = crc32c (o.head ++ o.data.flatten) ∧ (o.head.getD 0 0).toNat ∈ [0x40, 0x41, 0x42, 0x43, 0x44, 0x45] ∧
     (feederTo d ((o.head.getD 2 0).toNat / 16) ≠ some f.val ∨ (o.head.getD 2 0).toNat / 16 = 15)) ∧
    (∃ (s : State) (f : Fin 2) (block : List Byte) (bs : List Byte) (a : Arrival) (d : Dev) (k : Nat) (codes : List Nat),
     Brings s.dev (f + 1) true block a false bs d ∧ UnitsOn s ∧ (vget d.groups (f + 1)).state = .ready ∧
     (vget d.groups (f + 1)).map = some (k, codes) ∧ (vget d.groups (f + 1)).slot < 1023 ∧ sealOk bs = true ∧ fenced d .feeder f = false ∧
     headAllowed (f + 1) (bs.getD 0 0).toNat = true ∧ openOf d (f + 1) (codes.getD (vget d.groups (f + 1)).slot 0) = none ∧ (s.sys.mode = .idle ∨
     headOver d f bs = true)) :=
  ⟨⟨s1, sealBlock hd47, (sealBlock hd47), .clean, (arrive s1.dev (rxLaneNow s1.dev 0) true (sealBlock hd47) (.clean)).2, onGroup ((arrive s1.dev
   (rxLaneNow s1.dev 0) true (sealBlock hd47) (.clean)).2) 0 (fun q => { q with rxStream := false }), ⟨by decide +kernel, Prod.ext (by decide +kernel)
   rfl, by decide +kernel⟩, by decide +kernel⟩,
   ⟨s5, sealBlock hd47, (sealBlock hd47), .clean, (arrive s5.dev (rxLaneNow s5.dev 0) true (sealBlock hd47) (.clean)).2, onGroup ((arrive s5.dev
   (rxLaneNow s5.dev 0) true (sealBlock hd47) (.clean)).2) 0 (fun q => { q with rxStream := false }), (openOf ((arrive s5.dev (rxLaneNow s5.dev 0)
   true (sealBlock hd47) (.clean)).2) 0 0).get (by decide +kernel), ⟨by decide +kernel, Prod.ext (by decide +kernel) rfl, by decide +kernel⟩,
   by decide +kernel⟩,
   ⟨s1, sealBlock hd40, (sealBlock hd40), .clean, (arrive s1.dev (rxLaneNow s1.dev 0) true (sealBlock hd40) (.clean)).2, onGroup ((arrive s1.dev
   (rxLaneNow s1.dev 0) true (sealBlock hd40) (.clean)).2) 0 (fun q => { q with rxStream := false }), ⟨by decide +kernel, Prod.ext (by decide +kernel)
   rfl, by decide +kernel⟩, by decide +kernel⟩,
   ⟨s6, sb [1, 3], (sb [1, 3]), .clean, (arrive s6.dev (rxLaneNow s6.dev 0) false (sb [1, 3]) (.clean)).2, onGroup ((arrive s6.dev (rxLaneNow s6.dev
   0) false (sb [1, 3]) (.clean)).2) 0 (fun q => { q with rxStream := false }), decide ((.clean) = Arrival.errored), ⟨by decide +kernel, Prod.ext
   (by decide +kernel) rfl, by decide +kernel⟩, by decide +kernel⟩,
   ⟨s1, sb [1, 3], (sb [1, 3]), .clean, (arrive s1.dev (rxLaneNow s1.dev 0) false (sb [1, 3]) (.clean)).2, onGroup ((arrive s1.dev (rxLaneNow s1.dev
   0) false (sb [1, 3]) (.clean)).2) 0 (fun q => { q with rxStream := false }), decide ((.clean) = Arrival.errored), ⟨by decide +kernel, Prod.ext
   (by decide +kernel) rfl, by decide +kernel⟩, by decide +kernel⟩,
   ⟨s5, sb [1, 3], (sb [1, 3]), .clean, (arrive s5.dev (rxLaneNow s5.dev 0) false (sb [1, 3]) (.clean)).2, onGroup ((arrive s5.dev (rxLaneNow s5.dev
   0) false (sb [1, 3]) (.clean)).2) 0 (fun q => { q with rxStream := false }), decide ((.clean) = Arrival.errored), (openOf ((arrive s5.dev
   (rxLaneNow s5.dev 0) false (sb [1, 3]) (.clean)).2) 0 0).get (by decide +kernel), ⟨by decide +kernel, Prod.ext (by decide +kernel) rfl,
   by decide +kernel⟩, by decide +kernel⟩,
   ⟨s1, endOf hd47 [dat], (endOf hd47 [dat]), .clean, (arrive s1.dev (rxLaneNow s1.dev 0) true (endOf hd47 [dat]) (.clean)).2, onGroup ((arrive s1.dev
   (rxLaneNow s1.dev 0) true (endOf hd47 [dat]) (.clean)).2) 0 (fun q => { q with rxStream := false }), ⟨by decide +kernel, Prod.ext
   (by decide +kernel) rfl, by decide +kernel⟩, by decide +kernel⟩,
   ⟨s5, endOf hd60 [], (endOf hd60 []), .clean, (arrive s5.dev (rxLaneNow s5.dev 0) true (endOf hd60 []) (.clean)).2, onGroup ((arrive s5.dev
   (rxLaneNow s5.dev 0) true (endOf hd60 []) (.clean)).2) 0 (fun q => { q with rxStream := false }), (openOf ((arrive s5.dev (rxLaneNow s5.dev 0) true
   (endOf hd60 []) (.clean)).2) 0 0).get (by decide +kernel), ⟨by decide +kernel, Prod.ext (by decide +kernel) rfl, by decide +kernel⟩,
   by decide +kernel⟩,
   ⟨s7, endOf hd47 [dat], (endOf hd47 [dat]), .clean, (arrive s7.dev (rxLaneNow s7.dev 0) true (endOf hd47 [dat]) (.clean)).2, onGroup ((arrive s7.dev
   (rxLaneNow s7.dev 0) true (endOf hd47 [dat]) (.clean)).2) 0 (fun q => { q with rxStream := false }), (openOf ((arrive s7.dev (rxLaneNow s7.dev 0)
   true (endOf hd47 [dat]) (.clean)).2) 0 0).get (by decide +kernel), ⟨by decide +kernel, Prod.ext (by decide +kernel) rfl, by decide +kernel⟩,
   by decide +kernel⟩,
   ⟨s8, endOf hd60 [], (endOf hd60 []), .clean, (arrive s8.dev (rxLaneNow s8.dev 0) true (endOf hd60 []) (.clean)).2, onGroup ((arrive s8.dev
   (rxLaneNow s8.dev 0) true (endOf hd60 []) (.clean)).2) 0 (fun q => { q with rxStream := false }), (openOf ((arrive s8.dev (rxLaneNow s8.dev 0) true
   (endOf hd60 []) (.clean)).2) 0 0).get (by decide +kernel), ⟨by decide +kernel, Prod.ext (by decide +kernel) rfl, by decide +kernel⟩,
   by decide +kernel⟩,
   ⟨s5, endOf hd47 [dat], (endOf hd47 [dat]), .clean, (arrive s5.dev (rxLaneNow s5.dev 0) true (endOf hd47 [dat]) (.clean)).2, onGroup ((arrive s5.dev
   (rxLaneNow s5.dev 0) true (endOf hd47 [dat]) (.clean)).2) 0 (fun q => { q with rxStream := false }), (openOf ((arrive s5.dev (rxLaneNow s5.dev 0)
   true (endOf hd47 [dat]) (.clean)).2) 0 0).get (by decide +kernel), ⟨by decide +kernel, Prod.ext (by decide +kernel) rfl, by decide +kernel⟩,
   by decide +kernel⟩,
   ⟨s9, endOf hd60 [], (endOf hd60 []), .clean, (arrive s9.dev (rxLaneNow s9.dev 0) true (endOf hd60 []) (.clean)).2, onGroup ((arrive s9.dev
   (rxLaneNow s9.dev 0) true (endOf hd60 []) (.clean)).2) 0 (fun q => { q with rxStream := false }), (openOf ((arrive s9.dev (rxLaneNow s9.dev 0) true
   (endOf hd60 []) (.clean)).2) 0 0).get (by decide +kernel), ⟨by decide +kernel, Prod.ext (by decide +kernel) rfl, by decide +kernel⟩,
   by decide +kernel⟩,
   ⟨s10, endOf hd60 [], (endOf hd60 []), .clean, (arrive s10.dev (rxLaneNow s10.dev 0) true (endOf hd60 []) (.clean)).2, onGroup ((arrive s10.dev
   (rxLaneNow s10.dev 0) true (endOf hd60 []) (.clean)).2) 0 (fun q => { q with rxStream := false }), (openOf ((arrive s10.dev (rxLaneNow s10.dev 0)
   true (endOf hd60 []) (.clean)).2) 0 0).get (by decide +kernel), ⟨by decide +kernel, Prod.ext (by decide +kernel) rfl, by decide +kernel⟩,
   by decide +kernel⟩,
   ⟨s3, 0, endOf hd40 [dat], endOf hd40 [dat], .clean, (arrive s3.dev (rxLaneNow s3.dev 1) true (endOf hd40 [dat]) .clean).2, 4, List.replicate 1024
   1, (openOf ((arrive s3.dev (rxLaneNow s3.dev 1) true (endOf hd40 [dat]) .clean).2) 1 1).get (by decide +kernel), ⟨by decide +kernel, Prod.ext
   (by decide +kernel) rfl, by decide +kernel⟩, by decide +kernel⟩,
   ⟨s11, 0, endOf hd40x [dat], (endOf hd40x [dat]), .clean, (arrive s11.dev (rxLaneNow s11.dev (0 + 1)) true (endOf hd40x [dat]) (.clean)).2, (((vget
   ((arrive s11.dev (rxLaneNow s11.dev (0 + 1)) true (endOf hd40x [dat]) (.clean)).2).groups (0 + 1)).map).get (by decide +kernel)).1, (((vget
   ((arrive s11.dev (rxLaneNow s11.dev (0 + 1)) true (endOf hd40x [dat]) (.clean)).2).groups (0 + 1)).map).get (by decide +kernel)).2, (openOf
   ((arrive s11.dev (rxLaneNow s11.dev (0 + 1)) true (endOf hd40x [dat]) (.clean)).2) (0 + 1) (((((vget ((arrive s11.dev (rxLaneNow s11.dev (0 + 1))
   true (endOf hd40x [dat]) (.clean)).2).groups (0 + 1)).map).get (by decide +kernel)).2).getD (vget ((arrive s11.dev (rxLaneNow s11.dev (0 + 1)) true
   (endOf hd40x [dat]) (.clean)).2).groups (0 + 1)).slot 0)).get (by decide +kernel), ⟨by decide +kernel, Prod.ext (by decide +kernel) rfl,
   by decide +kernel⟩, by decide +kernel⟩,
   ⟨s12, 1, sealBlock (pad30 [0x40, 0, 0x10, 7, 0, 0, 0, 0, 0, 0, 0xFF, 0xFF]), (sealBlock (pad30 [0x40, 0, 0x10, 7, 0, 0, 0, 0, 0, 0, 0xFF, 0xFF])),
   .clean, (arrive s12.dev (rxLaneNow s12.dev (1 + 1)) true (sealBlock (pad30 [0x40, 0, 0x10, 7, 0, 0, 0, 0, 0, 0, 0xFF, 0xFF])) (.clean)).2, (((vget
   ((arrive s12.dev (rxLaneNow s12.dev (1 + 1)) true (sealBlock (pad30 [0x40, 0, 0x10, 7, 0, 0, 0, 0, 0, 0, 0xFF, 0xFF])) (.clean)).2).groups (1 +
   1)).map).get (by decide +kernel)).1, (((vget ((arrive s12.dev (rxLaneNow s12.dev (1 + 1)) true (sealBlock (pad30 [0x40, 0, 0x10, 7, 0, 0, 0, 0, 0,
   0, 0xFF, 0xFF])) (.clean)).2).groups (1 + 1)).map).get (by decide +kernel)).2, ⟨by decide +kernel, Prod.ext (by decide +kernel) rfl,
   by decide +kernel⟩, by decide +kernel⟩⟩
theorem witness_TrunkSlotsEpochsAndReturns :
    (∃ (s : State) (n : Fin 15), UnitsOn s ∧ (vget s.dev.groups 0).state = .ready ∧ (vget s.dev.groups 0).tx = .blocks ∧ s.dev.trunk.slot = 0 ∧
     n.val ≠ slotLane s.dev) ∧
    (∃ (s : State) (f : Fin 2) (n : Fin 15), UnitsOn s ∧ (vget s.dev.groups (f + 1)).state = .ready ∧ (vget s.dev.groups (f + 1)).tx = .blocks ∧
     (vget s.dev.boxes (3 + f)).outbox = [] ∧ (vget s.dev.groups (f + 1)).sending = none ∧ (vget s.dev.groups (f + 1)).entering = false ∧
     (vget s.dev.groups (f + 1)).idDue = false ∧ fenced s.dev .feeder f = false ∧ (vget s.dev.groups (f + 1)).retQueue = [] ∧ n.val ≠ 9 + 5 * f.val) :=
  ⟨⟨s1, 1, by decide +kernel⟩,
   ⟨s2, 0, 0, by decide +kernel⟩⟩

end Sys2Proof.Tests.Link

namespace Sys2Proof.Tests.Requests

set_option maxRecDepth 100000
set_option Elab.async false

open Sys2Proof.Machine

def B (l : List Nat) : List Byte := l.map (BitVec.ofNat 8)
def rq (ty addr count len value fl : Nat) (data : List Byte) : Request :=
  { head := B [ty, 0, 0xFF, 9] ++ leBytes 4 addr ++ leBytes 2 count ++ leBytes 2 len ++ leBytes 4 value ++ leBytes 4 (if ty = 0x68 then 0xFFFF69E9 else 5) ++ leBytes 8 0 ++ leBytes 1 fl ++ [0], data := data }
def gs : Nat := unitBase .glob 0 + 0x30
def rdyR (m : Mode) (r : Request) (h : Dev → Dev := id) : State := mk m (fun d => h (onTrunk (onGroup d 0 (fun x => { x with state := .ready, tx := .blocks })) (fun t => { t with requests := [r, rq 0x67 0 0 2 0 0 (B [3, 0])] })))
def low (d : Dev) : Dev := putF (put (put d .power 0 0x1C 0x80000000#32) .power 0 0x20 0x3807F#32) .power 0 0xC 6 4 1 |> fun d => putF d .power 0 0xC 2 0 4
def s1 : State := rdyR .run (rq 0x60 (gs + 1) 0 0 0 0 [])
def s2 : State := rdyR .run (rq 0x60 gs 0 0 0 0 [])
def s3 : State := rdyR .run (rq 0x60 0x6FFFFC 0 0 0 0 [])
def s4 : State := rdyR .run (rq 0x61 (gs + 2) 0 0 7 1 [])
def s5 : State := rdyR .run (rq 0x61 0x6FFFFC 0 0 7 1 [])
def s6 : State := rdyR .run (rq 0x61 gs 0 0 7 0 [])
def s7 : State := rdyR .run (rq 0x61 (unitBase .glob 0 + 8) 0 0 0x9615 3 [])
def s8 : State := rdyR .run (rq 0x62 gs 0 0 0 0 [])
def s9 : State := rdyR .run (rq 0x62 gs 1 0 0 0 [])
def s10 : State := rdyR .run (rq 0x62 0x6FFFFC 2 0 0 0 [])
def s11 : State := rdyR .run (rq 0x63 gs 1 2 0 0 (leBytes 4 5))
def s12 : State := rdyR .run (rq 0x63 gs 1 1 0 0 (leBytes 4 5))
def s13 : State := rdyR .run (rq 0x63 0x6FFFFC 2 1 0 0 (leBytes 4 5))
def s14 : State := rdyR .train (rq 0x64 0 0 1 0 0 (B (List.range 32)))
def s15 : State := rdyR .run (rq 0x64 0 0 1 0 0 (B (List.range 32)))
def s16 : State := rdyR .run (rq 0x64 0x20 0 65 0 0 (B (List.range 32)))
def s17 : State := rdyR .run (rq 0x65 0 0 1 0 1 (B (List.range 32)))
def s18 : State := rdyR .run (rq 0x67 0 0 1 0 0 (B [1, 1, 0])) low
def s19 : State := rdyR .run (rq 0x67 0 0 1 0 0 (B [1, 1, 0]))
def s20 : State := rdyR .run (rq 0x67 0 0 1 0 0 (B [2, 0]))
def s21 : State := rdyR .run (rq 0x67 0 0 2 0 0 (B [3, 0]))
def s22 : State := rdyR .run (rq 0x68 0 0 0 0x9616 0 [])
def s23 : State := rdyR .run (rq 0x68 0 0 0 0x9615 0 [])

theorem witness_RequestsRun :
    (∃ (s : State) (r : Request) (rest : List Request) (d : Dev) (a : Nat), UnitsOn s ∧ (vget s.dev.groups 0).state = .ready ∧
     s.dev.trunk.classH.length < 256 ∧ s.dev.trunk.requests = r :: rest ∧ r.status = 0 ∧ d = onTrunk s.dev (fun t => { t with requests := rest }) ∧
     a = reqAddr r ∧ (r.head.getD 0 0).toNat = 0x60 ∧ (a % 4 ≠ 0 ∨ reqLen r ≠ 0)) ∧
    (∃ (s : State) (r : Request) (rest : List Request) (d : Dev) (a : Nat) (e : _) (w : _), UnitsOn s ∧ (vget s.dev.groups 0).state = .ready ∧
     s.dev.trunk.classH.length < 256 ∧ s.dev.trunk.requests = r :: rest ∧ r.status = 0 ∧ d = onTrunk s.dev (fun t => { t with requests := rest }) ∧
     a = reqAddr r ∧ (r.head.getD 0 0).toNat = 0x60 ∧ a % 4 = 0 ∧ reqLen r = 0 ∧ e.acts = [] ∧ busRead s.env d 1 4 a = (some w, e)) ∧
    (∃ (s : State) (r : Request) (rest : List Request) (d : Dev) (a : Nat) (e : _), UnitsOn s ∧ (vget s.dev.groups 0).state = .ready ∧
     s.dev.trunk.classH.length < 256 ∧ s.dev.trunk.requests = r :: rest ∧ r.status = 0 ∧ d = onTrunk s.dev (fun t => { t with requests := rest }) ∧
     a = reqAddr r ∧ (r.head.getD 0 0).toNat = 0x60 ∧ a % 4 = 0 ∧ reqLen r = 0 ∧ e.acts = [] ∧ busRead s.env d 1 4 a = (none, e)) ∧
    (∃ (s : State) (r : Request) (rest : List Request) (d : Dev) (a : Nat), UnitsOn s ∧ (vget s.dev.groups 0).state = .ready ∧
     s.dev.trunk.classH.length < 256 ∧ s.dev.trunk.requests = r :: rest ∧ r.status = 0 ∧ d = onTrunk s.dev (fun t => { t with requests := rest }) ∧
     a = reqAddr r ∧ (r.head.getD 0 0).toNat = 0x61 ∧ (a % 4 ≠ 0 ∨ reqLen r ≠ 0)) ∧
    (∃ (s : State) (r : Request) (rest : List Request) (d : Dev) (a : Nat) (e : _), UnitsOn s ∧ (vget s.dev.groups 0).state = .ready ∧
     s.dev.trunk.classH.length < 256 ∧ s.dev.trunk.requests = r :: rest ∧ r.status = 0 ∧ d = onTrunk s.dev (fun t => { t with requests := rest }) ∧
     a = reqAddr r ∧ (r.head.getD 0 0).toNat = 0x61 ∧ a % 4 = 0 ∧ reqLen r = 0 ∧ e.acts = [] ∧ busWrite s.env d 1 4 a (reqValue r) = (false, e)) ∧
    (∃ (s : State) (r : Request) (rest : List Request) (d : Dev) (a : Nat) (e : _), UnitsOn s ∧ (vget s.dev.groups 0).state = .ready ∧
     s.dev.trunk.classH.length < 256 ∧ s.dev.trunk.requests = r :: rest ∧ r.status = 0 ∧ d = onTrunk s.dev (fun t => { t with requests := rest }) ∧
     a = reqAddr r ∧ (r.head.getD 0 0).toNat = 0x61 ∧ a % 4 = 0 ∧ reqLen r = 0 ∧ e.acts = [] ∧ busWrite s.env d 1 4 a (reqValue r) = (true, e) ∧
     reqGuarded r = false) ∧
    (∃ (s : State) (r : Request) (rest : List Request) (d : Dev) (a : Nat) (e : _) (e' : _), UnitsOn s ∧ (vget s.dev.groups 0).state = .ready ∧
     s.dev.trunk.classH.length < 256 ∧ s.dev.trunk.requests = r :: rest ∧ r.status = 0 ∧ d = onTrunk s.dev (fun t => { t with requests := rest }) ∧
     a = reqAddr r ∧ (r.head.getD 0 0).toNat = 0x61 ∧ a % 4 = 0 ∧ reqLen r = 0 ∧ e.acts = [] ∧ busWrite s.env d 1 4 a (reqValue r) = (true, e) ∧
     reqGuarded r = true ∧ e'.acts = [] ∧ busWrite s.env e 1 4 (a + 4) (~~~ (reqValue r)) = (true, e')) ∧
    (∃ (s : State) (r : Request) (rest : List Request) (d : Dev) (a : Nat), UnitsOn s ∧ (vget s.dev.groups 0).state = .ready ∧
     s.dev.trunk.classH.length < 256 ∧ s.dev.trunk.requests = r :: rest ∧ r.status = 0 ∧ d = onTrunk s.dev (fun t => { t with requests := rest }) ∧
     a = reqAddr r ∧ (r.head.getD 0 0).toNat = 0x62 ∧ (a % 4 ≠ 0 ∨ reqLen r ≠ 0 ∨ reqCount r = 0 ∨ 256 < reqCount r)) ∧
    (∃ (s : State) (r : Request) (rest : List Request) (d : Dev) (a : Nat) (ds : Nat → Dev) (x : Nat → Word) (k : Nat), UnitsOn s ∧
     (vget s.dev.groups 0).state = .ready ∧ s.dev.trunk.classH.length < 256 ∧ s.dev.trunk.requests = r :: rest ∧ r.status = 0 ∧
     d = onTrunk s.dev (fun t => { t with requests := rest }) ∧ a = reqAddr r ∧ (r.head.getD 0 0).toNat = 0x62 ∧ a % 4 = 0 ∧ reqLen r = 0 ∧
     1 ≤ reqCount r ∧ reqCount r ≤ 256 ∧ ds 0 = d ∧ k ≤ reqCount r ∧ (∀ i, i < k → busRead s.env (ds i) 1 4 (a + 4 * i) = (some (x i), ds (i + 1))) ∧
     k = reqCount r ∧ (ds k).acts = []) ∧
    (∃ (s : State) (r : Request) (rest : List Request) (d : Dev) (a : Nat) (ds : Nat → Dev) (x : Nat → Word) (k : Nat) (e : _), UnitsOn s ∧
     (vget s.dev.groups 0).state = .ready ∧ s.dev.trunk.classH.length < 256 ∧ s.dev.trunk.requests = r :: rest ∧ r.status = 0 ∧
     d = onTrunk s.dev (fun t => { t with requests := rest }) ∧ a = reqAddr r ∧ (r.head.getD 0 0).toNat = 0x62 ∧ a % 4 = 0 ∧ reqLen r = 0 ∧
     1 ≤ reqCount r ∧ reqCount r ≤ 256 ∧ ds 0 = d ∧ k ≤ reqCount r ∧ (∀ i, i < k → busRead s.env (ds i) 1 4 (a + 4 * i) = (some (x i), ds (i + 1))) ∧
     k < reqCount r ∧ busRead s.env (ds k) 1 4 (a + 4 * k) = (none, e) ∧ e.acts = []) ∧
    (∃ (s : State) (r : Request) (rest : List Request) (d : Dev) (a : Nat), UnitsOn s ∧ (vget s.dev.groups 0).state = .ready ∧
     s.dev.trunk.classH.length < 256 ∧ s.dev.trunk.requests = r :: rest ∧ r.status = 0 ∧ d = onTrunk s.dev (fun t => { t with requests := rest }) ∧
     a = reqAddr r ∧ (r.head.getD 0 0).toNat = 0x63 ∧ (a % 4 ≠ 0 ∨ reqCount r = 0 ∨ 256 < reqCount r ∨ reqLen r ≠ (reqCount r + 7) / 8)) ∧
    (∃ (s : State) (r : Request) (rest : List Request) (d : Dev) (a : Nat) (ds : Nat → Dev) (k : Nat), UnitsOn s ∧
     (vget s.dev.groups 0).state = .ready ∧ s.dev.trunk.classH.length < 256 ∧ s.dev.trunk.requests = r :: rest ∧ r.status = 0 ∧
     d = onTrunk s.dev (fun t => { t with requests := rest }) ∧ a = reqAddr r ∧ (r.head.getD 0 0).toNat = 0x63 ∧ a % 4 = 0 ∧
     reqLen r = (reqCount r + 7) / 8 ∧ 1 ≤ reqCount r ∧ reqCount r ≤ 256 ∧ ds 0 = d ∧ k ≤ reqCount r ∧ (∀ i, i < k →
     busWrite s.env (ds i) 1 4 (a + 4 * i) (reqWord r i) = (true, ds (i + 1))) ∧ k = reqCount r ∧ (ds k).acts = []) ∧
    (∃ (s : State) (r : Request) (rest : List Request) (d : Dev) (a : Nat) (ds : Nat → Dev) (k : Nat) (e : _), UnitsOn s ∧
     (vget s.dev.groups 0).state = .ready ∧ s.dev.trunk.classH.length < 256 ∧ s.dev.trunk.requests = r :: rest ∧ r.status = 0 ∧
     d = onTrunk s.dev (fun t => { t with requests := rest }) ∧ a = reqAddr r ∧ (r.head.getD 0 0).toNat = 0x63 ∧ a % 4 = 0 ∧
     reqLen r = (reqCount r + 7) / 8 ∧ 1 ≤ reqCount r ∧ reqCount r ≤ 256 ∧ ds 0 = d ∧ k ≤ reqCount r ∧ (∀ i, i < k →
     busWrite s.env (ds i) 1 4 (a + 4 * i) (reqWord r i) = (true, ds (i + 1))) ∧ k < reqCount r ∧
     busWrite s.env (ds k) 1 4 (a + 4 * k) (reqWord r k) = (false, e) ∧ e.acts = []) ∧
    (∃ (s : State) (r : Request) (rest : List Request) (d : Dev), UnitsOn s ∧ (vget s.dev.groups 0).state = .ready ∧ s.dev.trunk.classH.length < 256 ∧
     s.dev.trunk.requests = r :: rest ∧ r.status = 0 ∧ d = onTrunk s.dev (fun t => { t with requests := rest }) ∧ (r.head.getD 0 0).toNat = 0x64 ∧
     downloadAllowed s.env s.dev = false) ∧
    (∃ (s : State) (r : Request) (rest : List Request) (d : Dev), UnitsOn s ∧ (vget s.dev.groups 0).state = .ready ∧ s.dev.trunk.classH.length < 256 ∧
     s.dev.trunk.requests = r :: rest ∧ r.status = 0 ∧ d = onTrunk s.dev (fun t => { t with requests := rest }) ∧ (r.head.getD 0 0).toNat = 0x64 ∧
     downloadAllowed s.env s.dev = true ∧ 1 ≤ reqLen r ∧ reqLen r ≤ 64 ∧ reqAddr r % 32 = 0 ∧ reqAddr r + 32 * reqLen r ≤ bufSize s.dev) ∧
    (∃ (s : State) (r : Request) (rest : List Request) (d : Dev), UnitsOn s ∧ (vget s.dev.groups 0).state = .ready ∧ s.dev.trunk.classH.length < 256 ∧
     s.dev.trunk.requests = r :: rest ∧ r.status = 0 ∧ d = onTrunk s.dev (fun t => { t with requests := rest }) ∧ (r.head.getD 0 0).toNat = 0x64 ∧
     downloadAllowed s.env s.dev = true ∧ (reqLen r = 0 ∨ 64 < reqLen r ∨ reqAddr r % 32 ≠ 0 ∨ bufSize s.dev < reqAddr r + 32 * reqLen r)) ∧
    (∃ (s : State) (r : Request) (rest : List Request) (d : Dev) (x : _), UnitsOn s ∧ (vget s.dev.groups 0).state = .ready ∧
     s.dev.trunk.classH.length < 256 ∧ s.dev.trunk.requests = r :: rest ∧ r.status = 0 ∧ d = onTrunk s.dev (fun t => { t with requests := rest }) ∧
     (r.head.getD 0 0).toNat = 0x65 ∧ reqLen r = 1 ∧ 1 ≤ (r.head.getD 16 0).toNat ∧ (r.head.getD 16 0).toNat ≤ 32 ∧
     (vget s.dev.boxes 0).inbox.length < 8 ∧ x = deliverMsg d 0 (r.data.take (r.head.getD 16 0).toNat)) ∧
    (∃ (s : State) (r : Request) (rest : List Request) (d : Dev) (c : _) (x : _) (k : _), UnitsOn s ∧ (vget s.dev.groups 0).state = .ready ∧
     s.dev.trunk.classH.length < 256 ∧ s.dev.trunk.requests = r :: rest ∧ r.status = 0 ∧ d = onTrunk s.dev (fun t => { t with requests := rest }) ∧
     (r.head.getD 0 0).toNat = 0x67 ∧ 1 ≤ reqLen r ∧ reqLen r ≤ 2 ∧ (r.data.getD 0 0).toNat = 1 ∧ c = (r.data.getD 1 0).toNat ∧ 1 ≤ c ∧ c ≤ 4 ∧
     x = grantClass d c ∧ k = min c (getF s.dev .power 0 0xC 2 0) ∧ chargeNow s.dev ≤ classBudget k) ∧
    (∃ (s : State) (r : Request) (rest : List Request) (d : Dev) (c : _) (x : _) (k : _), UnitsOn s ∧ (vget s.dev.groups 0).state = .ready ∧
     s.dev.trunk.classH.length < 256 ∧ s.dev.trunk.requests = r :: rest ∧ r.status = 0 ∧ d = onTrunk s.dev (fun t => { t with requests := rest }) ∧
     (r.head.getD 0 0).toNat = 0x67 ∧ 1 ≤ reqLen r ∧ reqLen r ≤ 2 ∧ (r.data.getD 0 0).toNat = 1 ∧ c = (r.data.getD 1 0).toNat ∧ 1 ≤ c ∧ c ≤ 4 ∧
     x = grantClass d c ∧ k = min c (getF s.dev .power 0 0xC 2 0) ∧ classBudget k < chargeNow s.dev) ∧
    (∃ (s : State) (r : Request) (rest : List Request) (d : Dev), UnitsOn s ∧ (vget s.dev.groups 0).state = .ready ∧ s.dev.trunk.classH.length < 256 ∧
     s.dev.trunk.requests = r :: rest ∧ r.status = 0 ∧ d = onTrunk s.dev (fun t => { t with requests := rest }) ∧ (r.head.getD 0 0).toNat = 0x67 ∧
     1 ≤ reqLen r ∧ reqLen r ≤ 2 ∧ (r.data.getD 0 0).toNat = 2) ∧
    (∃ (s : State) (r : Request) (rest : List Request) (d : Dev), UnitsOn s ∧ (vget s.dev.groups 0).state = .ready ∧ s.dev.trunk.classH.length < 256 ∧
     s.dev.trunk.requests = r :: rest ∧ r.status = 0 ∧ d = onTrunk s.dev (fun t => { t with requests := rest }) ∧ (r.head.getD 0 0).toNat = 0x67 ∧
     1 ≤ reqLen r ∧ reqLen r ≤ 2 ∧ (r.data.getD 0 0).toNat = 3) ∧
    (∃ (s : State) (r : Request) (rest : List Request) (d : Dev), UnitsOn s ∧ (vget s.dev.groups 0).state = .ready ∧ s.dev.trunk.classH.length < 256 ∧
     s.dev.trunk.requests = r :: rest ∧ r.status = 0 ∧ d = onTrunk s.dev (fun t => { t with requests := rest }) ∧ (r.head.getD 0 0).toNat = 0x68 ∧
     reqLen r = 0 ∧ reqValue r = 0x9616 ∧ fieldAt r.head 16 4 = 0xFFFF69E9) ∧
    (∃ (s : State) (r : Request) (rest : List Request) (d : Dev), UnitsOn s ∧ (vget s.dev.groups 0).state = .ready ∧ s.dev.trunk.classH.length < 256 ∧
     s.dev.trunk.requests = r :: rest ∧ r.status = 0 ∧ d = onTrunk s.dev (fun t => { t with requests := rest }) ∧ (r.head.getD 0 0).toNat = 0x68 ∧
     (reqLen r ≠ 0 ∨ reqValue r ≠ 0x9616 ∨ fieldAt r.head 16 4 ≠ 0xFFFF69E9)) :=
  ⟨⟨s1, (s1.dev.trunk.requests).head (by decide +kernel), (s1.dev.trunk.requests).tail, onTrunk s1.dev (fun t =>
   { t with requests := ((s1.dev.trunk.requests).tail) }), reqAddr ((s1.dev.trunk.requests).head (by decide +kernel)), by decide +kernel⟩,
   ⟨s2, rq 0x60 gs 0 0 0 0 [], [rq 0x67 0 0 2 0 0 (B [3, 0])], onTrunk s2.dev (fun t => { t with requests := [rq 0x67 0 0 2 0 0 (B [3, 0])] }), gs,
   (busRead s2.env (onTrunk s2.dev (fun t => { t with requests := [rq 0x67 0 0 2 0 0 (B [3, 0])] })) 1 4 gs).2, 0#32, by decide +kernel⟩,
   ⟨s3, rq 0x60 0x6FFFFC 0 0 0 0 [], [rq 0x67 0 0 2 0 0 (B [3, 0])], onTrunk s3.dev (fun t => { t with requests := [rq 0x67 0 0 2 0 0 (B [3, 0])] }),
   0x6FFFFC, (busRead s3.env (onTrunk s3.dev (fun t => { t with requests := [rq 0x67 0 0 2 0 0 (B [3, 0])] })) 1 4 0x6FFFFC).2, by decide +kernel⟩,
   ⟨s4, (s4.dev.trunk.requests).head (by decide +kernel), (s4.dev.trunk.requests).tail, onTrunk s4.dev (fun t =>
   { t with requests := ((s4.dev.trunk.requests).tail) }), reqAddr ((s4.dev.trunk.requests).head (by decide +kernel)), by decide +kernel⟩,
   ⟨s5, rq 0x61 0x6FFFFC 0 0 7 1 [], [rq 0x67 0 0 2 0 0 (B [3, 0])], onTrunk s5.dev (fun t => { t with requests := [rq 0x67 0 0 2 0 0 (B [3, 0])] }),
   0x6FFFFC, (busWrite s5.env (onTrunk s5.dev (fun t => { t with requests := [rq 0x67 0 0 2 0 0 (B [3, 0])] })) 1 4 0x6FFFFC 7#32).2,
   by decide +kernel⟩,
   ⟨s6, rq 0x61 gs 0 0 7 0 [], [rq 0x67 0 0 2 0 0 (B [3, 0])], onTrunk s6.dev (fun t => { t with requests := [rq 0x67 0 0 2 0 0 (B [3, 0])] }), gs,
   (busWrite s6.env (onTrunk s6.dev (fun t => { t with requests := [rq 0x67 0 0 2 0 0 (B [3, 0])] })) 1 4 gs 7#32).2, by decide +kernel⟩,
   ⟨s7, rq 0x61 (unitBase .glob 0 + 8) 0 0 0x9615 3 [], [rq 0x67 0 0 2 0 0 (B [3, 0])], onTrunk s7.dev (fun t =>
   { t with requests := [rq 0x67 0 0 2 0 0 (B [3, 0])] }), unitBase .glob 0 + 8, (busWrite s7.env (onTrunk s7.dev (fun t =>
   { t with requests := [rq 0x67 0 0 2 0 0 (B [3, 0])] })) 1 4 (unitBase .glob 0 + 8) 0x9615#32).2, (busWrite s7.env ((busWrite s7.env (onTrunk s7.dev
   (fun t => { t with requests := [rq 0x67 0 0 2 0 0 (B [3, 0])] })) 1 4 (unitBase .glob 0 + 8) 0x9615#32).2) 1 4 (unitBase .glob 0 + 8 + 4)
   0xFFFF69EA#32).2, by decide +kernel⟩,
   ⟨s8, (s8.dev.trunk.requests).head (by decide +kernel), (s8.dev.trunk.requests).tail, onTrunk s8.dev (fun t =>
   { t with requests := ((s8.dev.trunk.requests).tail) }), reqAddr ((s8.dev.trunk.requests).head (by decide +kernel)), by decide +kernel⟩,
   ⟨s9, rq 0x62 gs 1 0 0 0 [], [rq 0x67 0 0 2 0 0 (B [3, 0])], onTrunk s9.dev (fun t => { t with requests := [rq 0x67 0 0 2 0 0 (B [3, 0])] }), gs,
   fun i => if i = 0 then (onTrunk s9.dev (fun t => { t with requests := [rq 0x67 0 0 2 0 0 (B [3, 0])] })) else (busRead s9.env (onTrunk s9.dev (fun
   t => { t with requests := [rq 0x67 0 0 2 0 0 (B [3, 0])] })) 1 4 gs).2, fun _ => 0#32, 1, by decide +kernel⟩,
   ⟨s10, rq 0x62 0x6FFFFC 2 0 0 0 [], [rq 0x67 0 0 2 0 0 (B [3, 0])], onTrunk s10.dev (fun t =>
   { t with requests := [rq 0x67 0 0 2 0 0 (B [3, 0])] }), 0x6FFFFC, fun _ => (onTrunk s10.dev (fun t =>
   { t with requests := [rq 0x67 0 0 2 0 0 (B [3, 0])] })), fun _ => 0#32, 0, (busRead s10.env (onTrunk s10.dev (fun t =>
   { t with requests := [rq 0x67 0 0 2 0 0 (B [3, 0])] })) 1 4 0x6FFFFC).2, by decide +kernel⟩,
   ⟨s11, (s11.dev.trunk.requests).head (by decide +kernel), (s11.dev.trunk.requests).tail, onTrunk s11.dev (fun t =>
   { t with requests := ((s11.dev.trunk.requests).tail) }), reqAddr ((s11.dev.trunk.requests).head (by decide +kernel)), by decide +kernel⟩,
   ⟨s12, rq 0x63 gs 1 1 0 0 (leBytes 4 5), [rq 0x67 0 0 2 0 0 (B [3, 0])], onTrunk s12.dev (fun t =>
   { t with requests := [rq 0x67 0 0 2 0 0 (B [3, 0])] }), gs, fun i => if i = 0 then (onTrunk s12.dev (fun t =>
   { t with requests := [rq 0x67 0 0 2 0 0 (B [3, 0])] })) else (busWrite s12.env (onTrunk s12.dev (fun t =>
   { t with requests := [rq 0x67 0 0 2 0 0 (B [3, 0])] })) 1 4 gs 5#32).2, 1, by decide +kernel⟩,
   ⟨s13, rq 0x63 0x6FFFFC 2 1 0 0 (leBytes 4 5), [rq 0x67 0 0 2 0 0 (B [3, 0])], onTrunk s13.dev (fun t =>
   { t with requests := [rq 0x67 0 0 2 0 0 (B [3, 0])] }), 0x6FFFFC, fun _ => (onTrunk s13.dev (fun t =>
   { t with requests := [rq 0x67 0 0 2 0 0 (B [3, 0])] })), 0, (busWrite s13.env (onTrunk s13.dev (fun t =>
   { t with requests := [rq 0x67 0 0 2 0 0 (B [3, 0])] })) 1 4 0x6FFFFC 5#32).2, by decide +kernel⟩,
   ⟨s14, (s14.dev.trunk.requests).head (by decide +kernel), (s14.dev.trunk.requests).tail, onTrunk s14.dev (fun t =>
   { t with requests := ((s14.dev.trunk.requests).tail) }), by decide +kernel⟩,
   ⟨s15, (s15.dev.trunk.requests).head (by decide +kernel), (s15.dev.trunk.requests).tail, onTrunk s15.dev (fun t =>
   { t with requests := ((s15.dev.trunk.requests).tail) }), by decide +kernel⟩,
   ⟨s16, (s16.dev.trunk.requests).head (by decide +kernel), (s16.dev.trunk.requests).tail, onTrunk s16.dev (fun t =>
   { t with requests := ((s16.dev.trunk.requests).tail) }), by decide +kernel⟩,
   ⟨s17, (s17.dev.trunk.requests).head (by decide +kernel), (s17.dev.trunk.requests).tail, onTrunk s17.dev (fun t =>
   { t with requests := ((s17.dev.trunk.requests).tail) }), deliverMsg (onTrunk s17.dev (fun t =>
   { t with requests := ((s17.dev.trunk.requests).tail) })) 0 (((s17.dev.trunk.requests).head (by decide +kernel)).data.take
   (((s17.dev.trunk.requests).head (by decide +kernel)).head.getD 16 0).toNat), by decide +kernel⟩,
   ⟨s18, (s18.dev.trunk.requests).head (by decide +kernel), (s18.dev.trunk.requests).tail, onTrunk s18.dev (fun t =>
   { t with requests := ((s18.dev.trunk.requests).tail) }), (((s18.dev.trunk.requests).head (by decide +kernel)).data.getD 1 0).toNat, grantClass
   (onTrunk s18.dev (fun t => { t with requests := ((s18.dev.trunk.requests).tail) })) ((((s18.dev.trunk.requests).head (by decide +kernel)).data.getD
   1 0).toNat), min ((((s18.dev.trunk.requests).head (by decide +kernel)).data.getD 1 0).toNat) (getF s18.dev .power 0 0xC 2 0), by decide +kernel⟩,
   ⟨s19, (s19.dev.trunk.requests).head (by decide +kernel), (s19.dev.trunk.requests).tail, onTrunk s19.dev (fun t =>
   { t with requests := ((s19.dev.trunk.requests).tail) }), (((s19.dev.trunk.requests).head (by decide +kernel)).data.getD 1 0).toNat, grantClass
   (onTrunk s19.dev (fun t => { t with requests := ((s19.dev.trunk.requests).tail) })) ((((s19.dev.trunk.requests).head (by decide +kernel)).data.getD
   1 0).toNat), min ((((s19.dev.trunk.requests).head (by decide +kernel)).data.getD 1 0).toNat) (getF s19.dev .power 0 0xC 2 0), by decide +kernel⟩,
   ⟨s20, (s20.dev.trunk.requests).head (by decide +kernel), (s20.dev.trunk.requests).tail, onTrunk s20.dev (fun t =>
   { t with requests := ((s20.dev.trunk.requests).tail) }), by decide +kernel⟩,
   ⟨s21, (s21.dev.trunk.requests).head (by decide +kernel), (s21.dev.trunk.requests).tail, onTrunk s21.dev (fun t =>
   { t with requests := ((s21.dev.trunk.requests).tail) }), by decide +kernel⟩,
   ⟨s22, (s22.dev.trunk.requests).head (by decide +kernel), (s22.dev.trunk.requests).tail, onTrunk s22.dev (fun t =>
   { t with requests := ((s22.dev.trunk.requests).tail) }), by decide +kernel⟩,
   ⟨s23, (s23.dev.trunk.requests).head (by decide +kernel), (s23.dev.trunk.requests).tail, onTrunk s23.dev (fun t =>
   { t with requests := ((s23.dev.trunk.requests).tail) }), by decide +kernel⟩⟩

def ttRq : Request := rq 0x66 0 0 32 0 0 []
def ttS : State := rdyR .run ttRq (fun d => onTrunk d (fun t => { t with age := 0 }))
def ttD : Dev := putF (onTrunk ttS.dev (fun t => { t with requests := [rq 0x67 0 0 2 0 0 (B [3, 0])] })) .tt 0 0 0 0 1
/-- The devices that the 256 writes of a TTSTAGE of zeros leave, one after the other. -/
def ttSeq : Nat → Dev
  | 0 => ttD
  | i + 1 => (busWrite ttS.env (ttSeq i) 1 4 (unitBase .tt 0 + 0x400 + 4 * i) (reqWord ttRq i)).2

theorem ttRow : ∀ i : Fin 256, plainReg .tt 0 (0x400 + 4 * i) = true ∧
    (rowAt .tt (0x400 + 4 * i)).any (fun r => !(rowReadOnly r) && decide (r.grd = 0 ∧ r.rw = 0 ∧ r.rws ≠ 0 ∧ r.sqc = 0 ∧ r.once = 0)) = true ∧
    writeAllowed 1 .tt 0 (0x400 + 4 * i) = true ∧ modeAllows ttS.env 1 false (unitBase .tt 0 + (0x400 + 4 * i)) = true ∧
    writeFits ttS.env ttD .tt 0 (0x400 + 4 * i) 0 = true := by decide +kernel

theorem ttAge (l : List (Nat × Word)) (k : Nat) :
    onTrunk { ttD with staged := l } (fun t => { t with age := 0, since := (if t.cycle = none ∨ t.since.contains k then t.since else t.since ++ [k]) }) =
      { ttD with staged := l } := by
  have h : ttD.trunk.age = 0 := by decide +kernel
  have c : ttD.trunk.cycle = none := by decide +kernel
  have g : ({ ttD.trunk with age := 0, since := (if ttD.trunk.cycle = none ∨ ttD.trunk.since.contains k then ttD.trunk.since else ttD.trunk.since ++ [k]) }
      : Trunk) = ttD.trunk := by rw [if_pos (Or.inl c), ← h]
  show ({ { ttD with staged := l } with trunk := { ttD.trunk with age := 0, since := (if ttD.trunk.cycle = none ∨ ttD.trunk.since.contains k then
    ttD.trunk.since else ttD.trunk.since ++ [k]) } } : Dev) = _
  rw [g]

theorem ttWrite (i : Nat) (hi : i < 256) (d : Dev) (l : List (Nat × Word)) (hd : d = { ttD with staged := l }) :
    ∃ k, busWrite ttS.env d 1 4 (unitBase .tt 0 + 0x400 + 4 * i) (reqWord ttRq i) = (true, { ttD with staged := k }) := by
  obtain ⟨a, b, c, e, f⟩ := ttRow ⟨i, hi⟩
  simp only at a b c e f
  obtain ⟨r, hr, b⟩ := (Option.any_eq_true _ _).1 b
  simp only [Bool.and_eq_true, Bool.not_eq_true', decide_eq_true_eq] at b
  obtain ⟨b1, b2, b3, b4, b5, b6⟩ := b
  have hw : reqWord ttRq i = 0 := by
    show BitVec.ofNat 32 (leVal ((List.drop (4 * i) []).take 4)) = 0
    simp [leVal]
  have g : guardOf d 1 = none := by subst hd; exact (by decide +kernel : guardOf ttD 1 = none)
  have on : blockOn d .tt 0 = true := by subst hd; exact (by decide +kernel : blockOn ttD .tt 0 = true)
  have fe : (fenced d .tt 0 && !(decide (UnitKind.tt = .drv) && decide (0x400 + 4 * i = 0))) = false := by
    subst hd; rw [show fenced { ttD with staged := l } .tt 0 = false from (by decide +kernel : fenced ttD .tt 0 = false)]; rfl
  have fi : writeFits ttS.env d .tt 0 (0x400 + 4 * i) 0 = true := by subst hd; exact f
  unfold plainReg at a
  simp only [Bool.and_eq_true, Bool.not_eq_true', decide_eq_true_eq, Option.isNone_iff_eq_none] at a
  obtain ⟨⟨⟨⟨⟨⟨⟨a1, a2⟩, a3⟩, a4⟩, a5⟩, a6⟩, a7⟩, a8⟩ := a
  rw [hw, Nat.add_assoc, busWrite_reg _ _ _ _ _ .tt 0 _ a1 a2 a3 a4 a5 a6 g e, regStore_takes _ _ _ _ _ .tt 0 _ r a7 a8 hr b1 on fe c fi b2,
    storeBits_rws _ _ _ _ _ _ _ _ b3 b4 b5 b6]
  subst hd
  exact ⟨_, by rw [afterWrite, if_pos (by omega), stage, ttAge]⟩

theorem ttStaged (i : Nat) (h : i ≤ 256) : ∃ l, ttSeq i = { ttD with staged := l } := by
  induction i with
  | zero => exact ⟨ttD.staged, by rw [ttSeq]⟩
  | succ i ih =>
    obtain ⟨l, hl⟩ := ih (by omega)
    obtain ⟨k, hk⟩ := ttWrite i h (ttSeq i) l hl
    exact ⟨k, by rw [ttSeq, hk]⟩

theorem witness_RequestsRun_ttstage :
    ∃ (s : State) (r : Request) (rest : List Request) (d : Dev) (ds : Nat → Dev), UnitsOn s ∧ (vget s.dev.groups 0).state = .ready ∧
      s.dev.trunk.classH.length < 256 ∧ s.dev.trunk.requests = r :: rest ∧ r.status = 0 ∧ d = onTrunk s.dev (fun t => { t with requests := rest }) ∧
      (r.head.getD 0 0).toNat = 0x66 ∧ reqLen r = 32 ∧ ds 0 = putF d .tt 0 0 0 0 1 ∧
      (∀ i, i < 256 → busWrite s.env (ds i) 1 4 (unitBase .tt 0 + 0x400 + 4 * i) (reqWord r i) = (true, ds (i + 1))) ∧ (ds 256).acts = [] := by
  refine ⟨ttS, ttRq, _, _, ttSeq, by decide +kernel, by decide +kernel, by decide +kernel, rfl, rfl, rfl, by decide +kernel, by decide +kernel, rfl,
    fun i hi => ?_, ?_⟩
  · obtain ⟨l, hl⟩ := ttStaged i (by omega)
    obtain ⟨k, hk⟩ := ttWrite i hi (ttSeq i) l hl
    rw [ttSeq, hk]
  · obtain ⟨l, hl⟩ := ttStaged 256 (by omega)
    rw [hl]; exact (by decide +kernel : ttD.acts = [])

end Sys2Proof.Tests.Requests

namespace Sys2Proof.Tests.Trunk

set_option maxRecDepth 100000
set_option Elab.async false

open Sys2Proof.Machine

def B (l : List Nat) : List Byte := l.map (BitVec.ofNat 8)
def rdy (g : Nat) (f : Group → Group) (h : Dev → Dev := id) : State := mk .run (fun d => h (onGroup d g (fun x => f { x with state := .ready, tx := .blocks, rxStream := false })))
def tw (c : Nat → Nat) (i : Nat) : Word := BitVec.ofNat 32 (c (4 * i) + 256 * c (4 * i + 1) + 65536 * c (4 * i + 2) + 16777216 * c (4 * i + 3))
def tmap (c : Nat → Nat) (d : Dev) : Dev := put (put d .tt 0 0x400 (tw c 0)) .tt 0 0x7FC (tw c 255)
def tstage (c : Nat → Nat) (d : Dev) : Dev := { d with staged := [(unitBase .tt 0 + 0x400, tw c 0)] }
def pk : Packet := { head := B ([0x60, 1, 2, 3] ++ List.replicate 6 0 ++ [2] ++ List.replicate 21 0), bytes := B (List.range 50) }
def onT (f : Trunk → Trunk) (h : Dev → Dev := id) : State := rdy 0 (fun x => {x with hold := false}) (fun d => onTrunk (h (tmap (fun k => k % 33) d)) (fun t => f { t with age := 100 }))
def pk0 : Packet := { pk with head := [] }
def vq (p : Packet) (d : Dev) : Dev := { d with views := vmod d.views 0 (fun v => { v with queue := [p, pk] }) }
def tid2 (d : Dev) : Dev := put d .glob 0 0x10 0x80000100#32
def s1 : State := onT (fun t => { t with slot := 1 })
def s2 : State := onT (fun t => { t with slot := 1 }) (tid2 ∘ vq pk0)
def s3 : State := onT (fun t => { t with slot := 1, curs := [(1, { pkt := pk, head := pk.head, crc := 77, pos := 3 })] })
def s4 : State := onT (fun t => { t with slot := 1, curs := [(1, { pkt := pk, head := pk.head, crc := 0, pos := 1 })] })
def s5 : State := onT (fun t => { t with slot := 1, curs := [(1, { pkt := { pk with inPan := some (0x1000, 50) }, head := pk.head, crc := 0, pos := 1 })] }) (fun d
    => putF d .toll 0 0x100 5 0 0x1C)
def s6 : State := onT id (tstage (fun k => k % 35))
def s7 : State := onT id (tstage (fun _ => 0x23))
def s8 : State := onT (fun t => { t with cycle := some 39 }) (fun d => putF d .tt 0 0 0 0 1)
def s9 : State := rdy 0 (fun x => { x with hold := false }) (fun d => onTrunk
    { d with staged := [(unitBase .tt 0 + 0x400 + 12, 5#32), (unitBase .tt 0 + 0x400 + 16, 6#32)] } (fun t =>
    { t with age := 2, cycle := some 39, newMap := (List.range 256).map (fun k => (k, 7#32)), since := [3, 7] }))
def s10 : State := onT (fun t => { t with cycle := some 3 })
def s11 : State := rdy 1 (fun g => { g with retQueue := [(0, pk), (1, pk)] })

theorem witness_TrunkSlotsEpochsAndReturns :
    (∃ (s : State) (o : _) (n : Fin 15), UnitsOn s ∧ (vget s.dev.groups 0).state = .ready ∧ (vget s.dev.groups 0).tx = .blocks ∧
     s.dev.trunk.slot ≠ 0 ∧ s.dev.trunk.slot < 1024 ∧ o = slotOwner s.dev s.dev.trunk.slot ∧ ownerFenced s.dev o = false ∧
     (vget s.dev.groups 0).hold = false ∧ curOf s.dev o = none ∧ 1 ≤ o ∧ o ≤ 0x20 ∧ (vget s.dev.views (o - 1)).queue = [] ∧ n.val ≠ slotLane s.dev) ∧
    (∃ (s : State) (o : _) (p : _) (l : _), UnitsOn s ∧ (vget s.dev.groups 0).state = .ready ∧ (vget s.dev.groups 0).tx = .blocks ∧
     s.dev.trunk.slot ≠ 0 ∧ s.dev.trunk.slot < 1024 ∧ o = slotOwner s.dev s.dev.trunk.slot ∧ ownerFenced s.dev o = false ∧
     (vget s.dev.groups 0).hold = false ∧ curOf s.dev o = none ∧ (vget s.dev.groups 0).entering = false ∧ 1 ≤ o ∧ o ≤ 0x20 ∧
     (vget s.dev.views (o - 1)).queue = p :: l ∧ (∀ f b n, p.kind ≠ .through f b n) ∧ p.head = [] ∧ (fromPan p = true →
     ownerServed s.dev 0x1C = true) ∧ (deviceId s.dev).isSome = true) ∧
    (∃ (s : State) (o : _) (x : _), UnitsOn s ∧ (vget s.dev.groups 0).state = .ready ∧ (vget s.dev.groups 0).tx = .blocks ∧ s.dev.trunk.slot ≠ 0 ∧
     s.dev.trunk.slot < 1024 ∧ o = slotOwner s.dev s.dev.trunk.slot ∧ ownerFenced s.dev o = false ∧ (vget s.dev.groups 0).hold = false ∧
     curOf s.dev o = some x ∧ x.cut = false ∧ x.pos = packetLen x.pkt + 1 ∧ x.pkt.kind = .plain ∧ s.dev.trunk.resetTag = none) ∧
    (∃ (s : State) (o : _) (x : _) (n : Fin 15), UnitsOn s ∧ (vget s.dev.groups 0).state = .ready ∧ (vget s.dev.groups 0).tx = .blocks ∧
     s.dev.trunk.slot ≠ 0 ∧ s.dev.trunk.slot < 1024 ∧ o = slotOwner s.dev s.dev.trunk.slot ∧ ownerFenced s.dev o = false ∧
     (vget s.dev.groups 0).hold = false ∧ curOf s.dev o = some x ∧ x.cut = false ∧ 1 ≤ x.pos ∧ x.pos ≤ packetLen x.pkt ∧ x.pkt.kind = .plain ∧
     x.pkt.inPan = none ∧ n.val ≠ slotLane s.dev) ∧
    (∃ (s : State) (late : Bool) (o : _) (x : _), UnitsOn s ∧ (vget s.dev.groups 0).state = .ready ∧ (vget s.dev.groups 0).tx = .blocks ∧
     s.dev.trunk.slot ≠ 0 ∧ s.dev.trunk.slot < 1024 ∧ o = slotOwner s.dev s.dev.trunk.slot ∧ ownerFenced s.dev o = false ∧
     (vget s.dev.groups 0).hold = false ∧ curOf s.dev o = some x ∧ x.cut = false ∧ 1 ≤ x.pos ∧ x.pos ≤ packetLen x.pkt ∧ fromPan x.pkt = true ∧
     (late = true ∨ ownerServed s.dev 0x1C = false)) ∧
    (∃ (s : State) (k : _), UnitsOn s ∧ (vget s.dev.groups 0).state = .ready ∧ (vget s.dev.groups 0).tx = .blocks ∧
     (vget s.dev.groups 0).entering = false ∧ getB s.dev .tt 0 0 0 = false ∧ stagedIn s.dev (unitBase .tt 0 + 0x400) 0x400 ≠ [] ∧
     4 ≤ s.dev.trunk.age ∧ s.dev.trunk.cycle = none ∧ mapOk (fun k => stagedAt s.dev (unitBase .tt 0 + 0x400 + 4 * k)) = true ∧ k < 256) ∧
    (∃ (s : State), UnitsOn s ∧ (vget s.dev.groups 0).state = .ready ∧ (vget s.dev.groups 0).tx = .blocks ∧ (vget s.dev.groups 0).entering = false ∧
     getB s.dev .tt 0 0 0 = false ∧ stagedIn s.dev (unitBase .tt 0 + 0x400) 0x400 ≠ [] ∧ 4 ≤ s.dev.trunk.age ∧ s.dev.trunk.cycle = none ∧
     mapOk (fun k => stagedAt s.dev (unitBase .tt 0 + 0x400 + 4 * k)) = false) ∧
    (∃ (s : State), UnitsOn s ∧ (vget s.dev.groups 0).state = .ready ∧ (vget s.dev.groups 0).tx = .blocks ∧ (vget s.dev.groups 0).entering = false ∧
     s.dev.trunk.cycle = some 39 ∧ getB s.dev .tt 0 0 0 = true) ∧
    (∃ (s : State) (w : Nat → Word) (k : _) (q : _), UnitsOn s ∧ (vget s.dev.groups 0).state = .ready ∧ (vget s.dev.groups 0).tx = .blocks ∧
     (vget s.dev.groups 0).entering = false ∧ s.dev.trunk.cycle = some 39 ∧ getB s.dev .tt 0 0 0 = false ∧
     s.dev.trunk.newMap = (List.range 256).map (fun k => (k, w k)) ∧ k < 256 ∧ k ∈ s.dev.trunk.since ∧ s.dev.trunk.age < 4 ∧ q ∈ s.dev.staged ∧
     q.1 = unitBase .tt 0 + 0x400 + 4 * k) ∧
    (∃ (s : State) (k : _), UnitsOn s ∧ (vget s.dev.groups 0).state = .ready ∧ (vget s.dev.groups 0).tx = .blocks ∧
     (vget s.dev.groups 0).entering = false ∧ s.dev.trunk.cycle = some k ∧ k < 39) ∧
    (∃ (s : State) (f : Fin 2) (p : _) (l : _), UnitsOn s ∧ (vget s.dev.groups (f + 1)).state = .ready ∧ (vget s.dev.groups (f + 1)).tx = .blocks ∧
     (vget s.dev.boxes (3 + f)).outbox = [] ∧ (vget s.dev.groups (f + 1)).sending = none ∧ (vget s.dev.groups (f + 1)).entering = false ∧
     (vget s.dev.groups (f + 1)).idDue = false ∧ fenced s.dev .feeder f = false ∧ (vget s.dev.groups (f + 1)).retQueue = (0, p) :: l ∧
     0x60 ≤ (p.head.getD 0 0).toNat ∧ p.kind = .plain ∧ 30 ≤ p.head.length) :=
  ⟨⟨s1, slotOwner s1.dev s1.dev.trunk.slot, 1, by decide +kernel⟩,
   ⟨s2, 1, pk0, [pk], by decide +kernel, by decide +kernel, by decide +kernel, by decide +kernel, by decide +kernel, by decide +kernel,
   by decide +kernel, by decide +kernel, by decide +kernel, by decide +kernel, by decide +kernel, by decide +kernel, by decide +kernel, (fun _ _ _ h
   => by cases h), by decide +kernel, by decide +kernel, by decide +kernel⟩,
   ⟨s3, slotOwner s3.dev s3.dev.trunk.slot, (curOf s3.dev (slotOwner s3.dev s3.dev.trunk.slot)).get (by decide +kernel), by decide +kernel⟩,
   ⟨s4, slotOwner s4.dev s4.dev.trunk.slot, (curOf s4.dev (slotOwner s4.dev s4.dev.trunk.slot)).get (by decide +kernel), 1, by decide +kernel⟩,
   ⟨s5, true ∨ ownerServed s5.dev 0x1C = false, slotOwner s5.dev s5.dev.trunk.slot, (curOf s5.dev (slotOwner s5.dev s5.dev.trunk.slot)).get
   (by decide +kernel), by decide +kernel⟩,
   ⟨s6, 0, by decide +kernel⟩,
   ⟨s7, by decide +kernel⟩,
   ⟨s8, by decide +kernel⟩,
   ⟨s9, fun _ => 7#32, 3, (unitBase .tt 0 + 0x400 + 12, 5#32), by decide +kernel⟩,
   ⟨s10, (s10.dev.trunk.cycle).get (by decide +kernel), by decide +kernel⟩,
   ⟨s11, 0, (((vget s11.dev.groups (0 + 1)).retQueue).head (by decide +kernel)).2, ((vget s11.dev.groups (0 + 1)).retQueue).tail, by decide +kernel⟩⟩

end Sys2Proof.Tests.Trunk

namespace Sys2Proof.Tests.Lanes

set_option maxRecDepth 100000
set_option Elab.async false

open Sys2Proof.Machine

def putFB (d : Dev) (u : UnitKind) (n o b : Nat) (v : Bool) : Dev := putF d u n o b b (if v then 1 else 0)
def B (l : List Nat) : List Byte := l.map (BitVec.ofNat 8)
def G (m : Mode) (st : GroupState) (cfg : Nat) (f : Group → Group := id) (l : Nat → Lane → Lane := fun _ => id) (h : Dev → Dev := id) : State :=
  mk m (fun d => h ((List.range 15).foldl (fun d n => onLane d n (l n)) ((List.range 3).foldl (fun d g => onGroup d g (fun x => f { x with state := st, tx := .blocks, config := cfg, opens := [(1, { head := B [1,2,3] })] })) d)))
def lk (s : Search) (_ : Nat) (l : Lane) : Lane := { l with rx := .locked, signal := true, search := s }
def minf (d : Dev) : Dev := (List.range 15).foldl (fun d n => putF (putFB d .lane n 0x1C 8 true) .lane n 0 23 16 255) d
def chken (d : Dev) : Dev := (List.range 15).foldl (fun d n => putFB d .lane n 0x20 8 true) d
def rec (s : State) : State := { s with sys := { s.sys with straps := { s.sys.straps with role := 1, refclk := 1 } }, dev := { s.dev with power := { s.dev.power with pllUp := false } } }
def sbk (l : List Nat) : List Byte := sealBlock (B (l ++ List.replicate (30 - l.length) 0))
def mlb : List Byte := sbk [2,0,0,0,7]
def s1 : State := G .run .training 4
def s2 : State := G .run .training 4 (fun x => { x with attempt := 16, lockNow := true, lockSeen := true, entering := true }) (lk (.acquire 2))
def s3 : State := G .run .training 1 (fun x => { x with attempt := 15, trained := [6], fallowOn := [5, 11] }) (fun _ l => { l with rx := .hunt, signal := true })
def s4 : State := G .run .wake 4
def s5 : State := G .run .ready 4
def s6 : State := G .run .listen 0 id (fun _ l => { l with silent := true })
def s7 : State := G .run .off 4
def s8 : State := G .run .ready 0 id (fun _ l => { l with rx := .hunt }) (fun d => putFB d .lane 5 0 24 true)
def s9 : State := G .run .listen 0 id (fun _ l => { l with rx := .hunt }) (id)
def s10 : State := G .run .ready 0 id (fun _ l => { l with rx := .hunt, search := .acquire 3 }) (id)
def s11 : State := G .run .off 1 (fun x => { x with attempt := 15, trained := [6], fallowOn := [5, 11] }) (fun _ l => { l with rx := .hunt, signal := true })
def s12 : State := G .run .training 0 id (fun _ l => { l with rx := .hunt, search := .acquire 3 }) (id)
def s13 : State := G .run .training 0 id (fun _ l => { l with rx := .hunt, search := .acquire 3 }) (fun d => putFB d .lane 5 0 24 true)
def s14 : State := G .run .training 0 id (fun _ l => { l with rx := .hunt, search := .acquire 5 })
def s15 : State := G .run .ready 4 (fun x => { x with attempt := 16, lockNow := true, lockSeen := true, entering := true }) (lk (.acquire 2))
def s16 : State := G .run .off 0 id (fun n l => { lk .done n l with lowRun := 3, lowSent := true, dfe := List.replicate 12 4 }) minf
def s17 : State := G .diag .off 0 (fun x => { x with lockSeen := true, lockNow := true}) (lk (.measure 15 2 255)) minf
def s18 : State := G .run .off 0 (fun x => { x with lockSeen := true, lockNow := true}) (lk (.measure 3 2 5))
def s19 : State := G .run .off 0 (fun x => { x with attempt := 16, faultArm := false }) (lk (.measure 15 2 3)) chken
def s20 : State := G .run .listen 4
def s21 : State := G .run .eidle 4
def s22 : State := G .run .eidle 0 id (fun _ l => { l with rx := .hold })
def s23 : State := { G .idle .eidle 0 with sys := { (G .idle .eidle 0).sys with back := .run } }
def s24 : State := G .train .off 0 id (fun _ => id) (fun d => onGroup (putF d .power 0 0x40 31 31 0) 1 (fun x => { x with state := .waitLine, config := 0 }))
def s25 : State := rec (G .train .off 0)
def s26 : State := G .run .waitLine 4
def s27 : State := G .train .training 0 (fun x => { x with trained := [5, 10], deskewed := true, config := 0 }) (fun _ l =>
    { l with rx := .locked, signal := true, search := .done, fomKnown := true, matched := true, fom := 255 })
def s28 : State := G .run .waitLine 1 (fun x => { x with attempt := 15, fallowOn := [5, 6,11] , opens := []}) (fun _ l => { l with rx := .hunt, signal := true })
def s29 : State := G .run .off 4 (fun x => { x with attempt := 16, lockNow := true, lockSeen := true, entering := true }) (lk (.acquire 2))
def s30 : State := G .run .ready 0 (fun x => { x with entering := true }) (fun _ => id) (fun d => onTrunk d (fun t => { t with curs := [], cycle := some 3 }))
def s31 : State := G .run .test 0 (fun x => { x with tx := .pattern }) (fun _ => id) (fun d => putF d .lane 9 0x20 2 0 4)
def s32 : State := G .diag .test 0 id (fun _ => id) (fun d => putF d .lane 4 0x20 2 0 3)
def s33 : State := G .diag .test 0 id (fun _ l => { l with checkLock := true }) (fun d => chken ((List.range 15).foldl (fun d n => putF d .lane n 0x20 2 0 1) d))
def s34 : State := G .diag .off 0 id (fun _ => id) (fun d => putF d .lane 4 0x20 2 0 3)

theorem witness_GroupsTrainAgain :
    (∃ (s : State) (g : Fin 3) (n : _), UnitsOn s ∧ (vget s.dev.groups g).state = .training ∧ (vget s.dev.groups g).attempt < 16 ∧
     n ∈ useLanes s.dev g) ∧
    (∃ (s : State) (g : Fin 3) (n : _), UnitsOn s ∧ (vget s.dev.groups g).state = .training ∧ (vget s.dev.groups g).attempt < 16 ∧ n ∈ rxLanes s.dev g) ∧
    (∃ (s : State) (g : Fin 3) (h : Fin 3), UnitsOn s ∧ (vget s.dev.groups g).state = .training ∧ (vget s.dev.groups g).attempt < 16 ∧ h ≠ g) ∧
    (∃ (s : State) (g : Fin 3) (n : _), UnitsOn s ∧ (vget s.dev.groups g).state = .training ∧ 16 ≤ (vget s.dev.groups g).attempt ∧
     n ∈ useLanes s.dev g) ∧
    (∃ (s : State) (g : Fin 3), UnitsOn s ∧ (vget s.dev.groups g).state = .training ∧ 16 ≤ (vget s.dev.groups g).attempt ∧
     (vget s.dev.groups g).faultArm = true) ∧
    (∃ (s : State) (g : Fin 3) (h : Fin 3), UnitsOn s ∧ (vget s.dev.groups g).state = .training ∧ 16 ≤ (vget s.dev.groups g).attempt ∧ h ≠ g) ∧
    (∃ (s : State) (n : Fin 15) (k : Nat) (j : _), UnitsOn s ∧ (vget s.dev.groups (laneGroup n)).state = .training ∧
     (vget s.dev.lanes n).signal = true ∧ getB s.dev .lane n 0 24 = false ∧ (vget s.dev.lanes n).rx ≠ .locked ∧
     (vget s.dev.lanes n).search = .acquire k ∧ k < 4 ∧ j ≠ n.val) ∧
    (∃ (s : State) (g : Fin 3), UnitsOn s ∧ (vget s.dev.groups g).state = .wake) ∧
    (∃ (s : State) (n : Fin 15), UnitsOn s ∧ (vget s.dev.groups (laneGroup n)).state = .ready ∧ n.val ∈ rxLanes s.dev (laneGroup n) ∧
     (vget s.dev.lanes n).rx ∉ [.locked, .hold]) ∧
    (∃ (s : State) (g : Fin 3), UnitsOn s ∧ (vget s.dev.groups g).state = .ready ∧ (vget s.dev.groups g).lockNow = false) ∧
    (∃ (s : State) (g : Fin 3) (m : Fin 7) (h : Fin 3), TakesWrite s m .link 0 0 (setBit 0 (24 + g)) ∧
     (vget s.dev.groups g).state ∈ [.ready, .listen] ∧ h ≠ g) :=
  ⟨⟨s1, 0, 0, by decide +kernel⟩,
   ⟨s1, 0, 4, by decide +kernel⟩,
   ⟨s1, 0, 1, by decide +kernel⟩,
   ⟨s2, 0, 0, by decide +kernel⟩,
   ⟨s2, 0, by decide +kernel⟩,
   ⟨s2, 0, 1, by decide +kernel⟩,
   ⟨s3, 0, 0, 1, by decide +kernel⟩,
   ⟨s4, 0, by decide +kernel⟩,
   ⟨s5, 4, by decide +kernel⟩,
   ⟨s5, 0, by decide +kernel⟩,
   ⟨s5, 0, 1, 1, by decide +kernel⟩⟩
theorem witness_SignalsAndLocks :
    (∃ (s : State) (n : Fin 15), UnitsOn s ∧ n.val ∈ rxLanes s.dev (laneGroup n) ∧ (vget s.dev.lanes n).signal = false ∧
     (vget s.dev.groups (laneGroup n)).state = .training ∧ (vget s.dev.lanes n).rx ≠ .locked) ∧
    (∃ (s : State) (n : Fin 15), UnitsOn s ∧ n.val ∈ rxLanes s.dev (laneGroup n) ∧ (vget s.dev.lanes n).signal = false ∧
     (vget s.dev.groups (laneGroup n)).state = .listen ∧ (vget s.dev.lanes n).silent = true) ∧
    (∃ (s : State) (n : Fin 15), UnitsOn s ∧ n.val ∈ rxLanes s.dev (laneGroup n) ∧ (vget s.dev.lanes n).signal = false ∧
     (vget s.dev.groups (laneGroup n)).state ∉ [.training, .listen]) ∧
    (∃ (s : State) (n : Fin 15), UnitsOn s ∧ n.val ∈ rxLanes s.dev (laneGroup n) ∧ (vget s.dev.lanes n).signal = true ∧
     (vget s.dev.groups (laneGroup n)).state = .training ∧ (vget s.dev.lanes n).rx ≠ .locked) ∧
    (∃ (s : State) (n : Fin 15) (k : Nat), UnitsOn s ∧ n.val ∈ rxLanes s.dev (laneGroup n) ∧ (vget s.dev.lanes n).rx ∈ [.hunt, .verify] ∧
     (vget s.dev.groups (laneGroup n)).state ∉ [.training, .wake] ∧ (vget s.dev.lanes n).rcv.good < lockCount s.dev n ∧
     (vget s.dev.lanes n).rcv.good + k = lockCount s.dev n ∧ getB s.dev .lane n 0 24 = true) ∧
    (∃ (s : State) (n : Fin 15) (k : Nat), UnitsOn s ∧ n.val ∈ rxLanes s.dev (laneGroup n) ∧ (vget s.dev.lanes n).rx ∈ [.hunt, .verify] ∧
     (vget s.dev.groups (laneGroup n)).state ∉ [.training, .wake] ∧ (vget s.dev.lanes n).rcv.good < lockCount s.dev n ∧
     (vget s.dev.lanes n).rcv.good + k = lockCount s.dev n ∧ (vget s.dev.groups (laneGroup n)).state = .listen ∧ getB s.dev .lane n 0 24 = false) ∧
    (∃ (s : State) (n : Fin 15) (k : Nat) (j : _), UnitsOn s ∧ n.val ∈ rxLanes s.dev (laneGroup n) ∧ (vget s.dev.lanes n).rx ∈ [.hunt, .verify] ∧
     (vget s.dev.groups (laneGroup n)).state ∉ [.training, .wake] ∧ (vget s.dev.lanes n).rcv.good < lockCount s.dev n ∧
     (vget s.dev.lanes n).rcv.good + k = lockCount s.dev n ∧ getB s.dev .lane n 0 24 = false ∧ (vget s.dev.groups (laneGroup n)).state ≠ .listen ∧
     (vget s.dev.lanes n).search = .acquire j) ∧
    (∃ (s : State) (n : Fin 15) (k : Nat), UnitsOn s ∧ n.val ∈ rxLanes s.dev (laneGroup n) ∧ (vget s.dev.lanes n).rx ∈ [.hunt, .verify] ∧
     (vget s.dev.groups (laneGroup n)).state ∉ [.training, .wake] ∧ 0 < k ∧ (vget s.dev.lanes n).rcv.good + k < lockCount s.dev n) ∧
    (∃ (s : State) (n : Fin 15) (k : Nat) (j : Fin 15), UnitsOn s ∧ n.val ∈ rxLanes s.dev (laneGroup n) ∧ (vget s.dev.lanes n).rx ∈ [.hunt, .verify] ∧
     (vget s.dev.groups (laneGroup n)).state ∈ [.training, .wake] ∧ ((vget s.dev.groups (laneGroup n)).state = .wake ∨
     (vget s.dev.lanes n).search ≠ .acquire 5) ∧ (vget s.dev.lanes n).rcv.good < lockCount s.dev n ∧
     (vget s.dev.lanes n).rcv.good + k = lockCount s.dev n ∧ j ≠ n) ∧
    (∃ (s : State) (n : Fin 15) (k : Nat), UnitsOn s ∧ n.val ∈ rxLanes s.dev (laneGroup n) ∧ (vget s.dev.lanes n).rx ∈ [.hunt, .verify] ∧
     (vget s.dev.groups (laneGroup n)).state ∈ [.training, .wake] ∧ ((vget s.dev.groups (laneGroup n)).state = .wake ∨
     (vget s.dev.lanes n).search ≠ .acquire 5) ∧ (vget s.dev.lanes n).rcv.good < lockCount s.dev n ∧
     (vget s.dev.lanes n).rcv.good + k = lockCount s.dev n ∧ getB s.dev .lane n 0 24 = true) ∧
    (∃ (s : State) (n : Fin 15) (k : Nat) (j : _), UnitsOn s ∧ n.val ∈ rxLanes s.dev (laneGroup n) ∧ (vget s.dev.lanes n).rx ∈ [.hunt, .verify] ∧
     (vget s.dev.groups (laneGroup n)).state ∈ [.training, .wake] ∧ ((vget s.dev.groups (laneGroup n)).state = .wake ∨
     (vget s.dev.lanes n).search ≠ .acquire 5) ∧ (vget s.dev.lanes n).rcv.good < lockCount s.dev n ∧
     (vget s.dev.lanes n).rcv.good + k = lockCount s.dev n ∧ getB s.dev .lane n 0 24 = false ∧ (vget s.dev.lanes n).search = .acquire j) ∧
    (∃ (s : State) (n : Fin 15), UnitsOn s ∧ n.val ∈ rxLanes s.dev (laneGroup n) ∧ (vget s.dev.lanes n).rx ∈ [.hunt, .verify] ∧
     (vget s.dev.groups (laneGroup n)).state = .training ∧ (vget s.dev.lanes n).search = .acquire 5) ∧
    (∃ (s : State) (n : Fin 15), UnitsOn s ∧ (vget s.dev.lanes n).rx = .locked ∧ (vget s.dev.groups (laneGroup n)).state = .ready) ∧
    (∃ (s : State) (n : Fin 15), UnitsOn s ∧ (vget s.dev.lanes n).rx = .locked ∧ laneGroup n = 0 ∧ (vget s.dev.groups 0).state = .ready) :=
  ⟨⟨s1, 4, by decide +kernel⟩,
   ⟨s6, 4, by decide +kernel⟩,
   ⟨s7, 4, by decide +kernel⟩,
   ⟨s3, 4, by decide +kernel⟩,
   ⟨s8, 5, lockCount s8.dev 5, by decide +kernel⟩,
   ⟨s9, 5, lockCount s9.dev 5, by decide +kernel⟩,
   ⟨s10, 5, lockCount s10.dev 5, 3, by decide +kernel⟩,
   ⟨s11, 4, 1, by decide +kernel⟩,
   ⟨s12, 5, lockCount s12.dev 5, 6, by decide +kernel⟩,
   ⟨s13, 5, lockCount s13.dev 5, by decide +kernel⟩,
   ⟨s12, 5, lockCount s12.dev 5, 3, by decide +kernel⟩,
   ⟨s14, 4, by decide +kernel⟩,
   ⟨s15, 0, by decide +kernel⟩,
   ⟨s15, 0, by decide +kernel⟩⟩
theorem witness_FomWindowsDriveTheSearch :
    (∃ (s : State) (n : Fin 15), UnitsOn s ∧ (vget s.dev.lanes n).rx = .off) ∧
    (∃ (s : State) (n : Fin 15) (a : Int), UnitsOn s ∧ (vget s.dev.lanes n).rx ≠ .off ∧ 0 < a ∧
     (vget s.dev.groups (laneGroup n)).state ∉ [.training, .wake] ∧ (vget s.dev.lanes n).lowSent = true) ∧
    (∃ (s : State) (n : Fin 15) (a : Int), UnitsOn s ∧ (vget s.dev.lanes n).rx ≠ .off ∧ 0 < a ∧
     (vget s.dev.groups (laneGroup n)).state ∈ [.training, .wake]) ∧
    (∃ (s : State) (n : Fin 15) (a : Int) (j : Fin 15), UnitsOn s ∧ (vget s.dev.lanes n).rx ≠ .off ∧ 0 < a ∧ j ≠ n) ∧
    (∃ (s : State) (n : Fin 15) (a : Int), UnitsOn s ∧ (vget s.dev.lanes n).rx ≠ .off ∧ 0 < a ∧ adaptOff s.dev n = true) ∧
    (∃ (s : State) (n : Fin 15) (a : Int) (mu : _), UnitsOn s ∧ (vget s.dev.lanes n).rx ≠ .off ∧ 0 < a ∧ adaptOff s.dev n = false ∧
     mu = (if (vget s.dev.lanes n).fom < 128 then getF s.dev .lane n 0x1C 2 0 else getF s.dev .lane n 0x1C 6 4)) ∧
    (∃ (s : State) (n : Fin 15) (a : Int), UnitsOn s ∧ (vget s.dev.lanes n).rx ≠ .off ∧ 0 < a ∧ (vget s.dev.lanes n).rx ≠ .locked) ∧
    (∃ (s : State) (n : Fin 15) (a : Int) (k : _) (b : _) (f : _), UnitsOn s ∧ (vget s.dev.lanes n).rx ≠ .off ∧ 0 < a ∧
     (vget s.dev.lanes n).rx = .locked ∧ (vget s.dev.lanes n).search = .measure k b f ∧ k < 15) ∧
    (∃ (s : State) (n : Fin 15) (a : Int) (b : _) (f : _), UnitsOn s ∧ (vget s.dev.lanes n).rx ≠ .off ∧ 0 < a ∧ (vget s.dev.lanes n).rx = .locked ∧
     (vget s.dev.lanes n).search = .measure 15 b f) :=
  ⟨⟨s7, 0, by decide +kernel⟩,
   ⟨s16, 0, 1, by decide +kernel⟩,
   ⟨s3, 0, 1, by decide +kernel⟩,
   ⟨s11, 0, 1, 1, by decide +kernel⟩,
   ⟨s17, 0, 1, by decide +kernel⟩,
   ⟨s11, 0, 1, (if (vget s11.dev.lanes 0).fom < 128 then getF s11.dev .lane 0 0x1C 2 0 else getF s11.dev .lane 0 0x1C 6 4), by decide +kernel⟩,
   ⟨s11, 0, 1, by decide +kernel⟩,
   ⟨s18, 0, 1, 3, 2, 5, by decide +kernel⟩,
   ⟨s19, 0, 1, 2, 3, by decide +kernel⟩⟩
theorem witness_ListenBurstsAndTheEndOfElectricalIdle :
    (∃ (s : State), UnitsOn s ∧ (vget s.dev.groups 0).state = .listen) ∧
    (∃ (s : State), UnitsOn s ∧ (vget s.dev.groups 0).state = .ready) ∧
    (∃ (s : State) (g : Fin 3) (bl : List (List Byte)) (n : Fin 15), UnitsOn s ∧ (vget s.dev.groups g).state = .eidle ∧ (g.val ≠ 0 ∨
     s.sys.mode ≠ .idle) ∧ bl.length = (rxLanes s.dev g).length ∧ n.val ∈ txLanes s.dev g) ∧
    (∃ (s : State) (g : Fin 3) (bl : List (List Byte)) (p : _), UnitsOn s ∧ (vget s.dev.groups g).state = .eidle ∧ (g.val ≠ 0 ∨ s.sys.mode ≠ .idle) ∧
     bl.length = (rxLanes s.dev g).length ∧ p ∈ (rxLanes s.dev g).zip bl ∧ (vget s.dev.lanes p.1).rx = .hold ∧ sealOk p.2 = true ∧
     (p.2.getD 0 0).toNat = 2) ∧
    (∃ (s : State), UnitsOn s ∧ s.sys.mode = .idle ∧ ¬ (s.sys.back = .degraded ∧ s.dev.flt.fences = []) ∧ (vget s.dev.groups 0).state = .eidle) ∧
    (∃ (s : State) (f : Fin 2), UnitsOn s ∧ s.sys.mode = .train ∧ (vget s.dev.groups 0).state = .off ∧ (recovering s.sys.straps = true →
     (vget s.dev.lanes 4).rx = .locked ∨ s.dev.power.pllUp = true) ∧ (vget s.dev.groups (f + 1)).state = .waitLine ∧ lineUp s.dev f = true) ∧
    (∃ (s : State), UnitsOn s ∧ recovering s.sys.straps = true ∧ (vget s.dev.lanes 4).rx ≠ .locked ∧ s.dev.power.pllUp = false) :=
  ⟨⟨s20, by decide +kernel⟩,
   ⟨s5, by decide +kernel⟩,
   ⟨s21, 0, List.replicate 1 mlb, 0, by decide +kernel⟩,
   ⟨s22, 1, List.replicate 1 mlb, (5, mlb), by decide +kernel⟩,
   ⟨s23, by decide +kernel⟩,
   ⟨s24, 0, by decide +kernel⟩,
   ⟨s25, by decide +kernel⟩⟩
theorem witness_TrainBlocksMoveTheGroup :
    (∃ (s : State) (n : Fin 15) (block : List Byte) (bs : List Byte) (a : Arrival) (d : Dev) (ready : Bool),
     arrive s.dev n true block a = (some { ctl := true, bytes := bs }, d) ∧ UnitsOn s ∧ (vget s.dev.groups (laneGroup n)).state ≠ .off ∧
     n.val ∈ rxLanes s.dev (laneGroup n) ∧ n.val ∈ rxLanes d (laneGroup n) ∧ d.acts = [] ∧ ready = (bs.getD 3 0).getLsbD 4 ∧ sealOk bs = false) ∧
    (∃ (s : State) (n : Fin 15) (block : List Byte) (bs : List Byte) (a : Arrival) (d : Dev) (ready : Bool),
     arrive s.dev n true block a = (some { ctl := true, bytes := bs }, d) ∧ UnitsOn s ∧ (vget s.dev.groups (laneGroup n)).state ≠ .off ∧
     n.val ∈ rxLanes s.dev (laneGroup n) ∧ n.val ∈ rxLanes d (laneGroup n) ∧ d.acts = [] ∧ ready = (bs.getD 3 0).getLsbD 4 ∧ sealOk bs = true ∧
     (bs.getD 0 0).toNat = 3 ∧ (bs.getD 3 0).toNat % 16 = 1 ∧ (((vget d.groups (laneGroup n)).state = .ready ∧ ready = false) ∨
     ((vget d.groups (laneGroup n)).state ∈ [.ready, .eidle, .training, .wake] ∧ (vget d.lanes n).rx = .hold) ∨
     ((vget d.groups (laneGroup n)).state = .listen ∧ (bs.getD 4 0).toNat = 1))) ∧
    (∃ (s : State) (n : Fin 15) (block : List Byte) (bs : List Byte) (a : Arrival) (d : Dev) (ready : Bool),
     arrive s.dev n true block a = (some { ctl := true, bytes := bs }, d) ∧ UnitsOn s ∧ (vget s.dev.groups (laneGroup n)).state ≠ .off ∧
     n.val ∈ rxLanes s.dev (laneGroup n) ∧ n.val ∈ rxLanes d (laneGroup n) ∧ d.acts = [] ∧ ready = (bs.getD 3 0).getLsbD 4 ∧ sealOk bs = true ∧
     (bs.getD 0 0).toNat = 3 ∧ (bs.getD 3 0).toNat % 16 = 1 ∧ (vget d.groups (laneGroup n)).state = .training ∧ (vget d.lanes n).rx ≠ .hold ∧
     (vget d.groups (laneGroup n)).lockSeen = false ∧ (∃ k ∈ rxLanes d (laneGroup n), k ≠ n.val ∧ k ∉ (vget d.groups (laneGroup n)).trained) ∧
     ready = true) ∧
    (∃ (s : State) (n : Fin 15) (block : List Byte) (bs : List Byte) (a : Arrival) (d : Dev) (ready : Bool),
     arrive s.dev n true block a = (some { ctl := true, bytes := bs }, d) ∧ UnitsOn s ∧ (vget s.dev.groups (laneGroup n)).state ≠ .off ∧
     n.val ∈ rxLanes s.dev (laneGroup n) ∧ n.val ∈ rxLanes d (laneGroup n) ∧ d.acts = [] ∧ ready = (bs.getD 3 0).getLsbD 4 ∧ sealOk bs = true ∧
     (bs.getD 0 0).toNat = 3 ∧ (bs.getD 3 0).toNat % 16 = 1 ∧ (vget d.groups (laneGroup n)).state ∈ [.training, .wake] ∧ (vget d.lanes n).rx ≠ .hold ∧
     ready = true ∧ (bs.getD 2 0).toNat = expectByte2 d n ∧ (∀ k ∈ rxLanes d (laneGroup n), laneReady d k = true ∧ (k ≠ n.val →
     k ∈ (vget d.groups (laneGroup n)).trained))) ∧
    (∃ (s : State) (n : Fin 15) (block : List Byte) (bs : List Byte) (a : Arrival) (d : Dev) (ready : Bool),
     arrive s.dev n true block a = (some { ctl := true, bytes := bs }, d) ∧ UnitsOn s ∧ (vget s.dev.groups (laneGroup n)).state ≠ .off ∧
     n.val ∈ rxLanes s.dev (laneGroup n) ∧ n.val ∈ rxLanes d (laneGroup n) ∧ d.acts = [] ∧ ready = (bs.getD 3 0).getLsbD 4 ∧ sealOk bs = true ∧
     (bs.getD 0 0).toNat = 3 ∧ (bs.getD 3 0).toNat % 16 = 2 ∧ (vget d.groups (laneGroup n)).state ∉ [.off, .waitLine, .test]) ∧
    (∃ (s : State) (n : Fin 15) (block : List Byte) (bs : List Byte) (a : Arrival) (d : Dev) (ready : Bool),
     arrive s.dev n true block a = (some { ctl := true, bytes := bs }, d) ∧ UnitsOn s ∧ (vget s.dev.groups (laneGroup n)).state ≠ .off ∧
     n.val ∈ rxLanes s.dev (laneGroup n) ∧ n.val ∈ rxLanes d (laneGroup n) ∧ d.acts = [] ∧ ready = (bs.getD 3 0).getLsbD 4 ∧ sealOk bs = true ∧
     (bs.getD 0 0).toNat = 3 ∧ (bs.getD 3 0).toNat % 16 = 3 ∧ (vget d.groups (laneGroup n)).state ≠ .off ∧ (∀ k ∈ rxLanes d (laneGroup n), k ≠ n.val →
     k ∈ (vget d.groups (laneGroup n)).fallowOn) ∧ (vget d.groups (laneGroup n)).opens = [] ∧ (laneGroup n = 0 → d.trunk.curs = [])) :=
  ⟨⟨s26, 4, (sbk [3,0,0,0x11,1]).set 9 1, ((sbk [3,0,0,0x11,1]).set 9 1), .clean, (arrive s26.dev 4 true ((sbk [3,0,0,0x11,1]).set 9 1) (.clean)).2,
   ((((sbk [3,0,0,0x11,1]).set 9 1)).getD 3 0).getLsbD 4, Prod.ext (by decide +kernel) rfl, by decide +kernel⟩,
   ⟨s5, 4, sbk [3,0,0x10,0x01,1], (sbk [3,0,0x10,0x01,1]), .clean, (arrive s5.dev 4 true (sbk [3,0,0x10,0x01,1]) (.clean)).2, (((sbk
   [3,0,0x10,0x01,1])).getD 3 0).getLsbD 4, Prod.ext (by decide +kernel) rfl, by decide +kernel⟩,
   ⟨s1, 5, sbk [3,0,0,0x11,1], (sbk [3,0,0,0x11,1]), .clean, (arrive s1.dev 5 true (sbk [3,0,0,0x11,1]) (.clean)).2, true, Prod.ext
   (by decide +kernel) rfl, by decide +kernel⟩,
   ⟨s27, 4, sbk [3,0,0,0x11,1], (sbk [3,0,0,0x11,1]), .clean, (arrive s27.dev 4 true (sbk [3,0,0,0x11,1]) (.clean)).2, true, Prod.ext
   (by decide +kernel) rfl, by decide +kernel⟩,
   ⟨s1, 4, sbk [3,0,0,0x12,0], (sbk [3,0,0,0x12,0]), .clean, (arrive s1.dev 4 true (sbk [3,0,0,0x12,0]) (.clean)).2, (((sbk [3,0,0,0x12,0])).getD 3
   0).getLsbD 4, Prod.ext (by decide +kernel) rfl, by decide +kernel⟩,
   ⟨s28, 4, sbk [3,0,0,3,0], (sbk [3,0,0,3,0]), .clean, (arrive s28.dev 4 true (sbk [3,0,0,3,0]) (.clean)).2, (((sbk [3,0,0,3,0])).getD 3 0).getLsbD
   4, Prod.ext (by decide +kernel) rfl, by decide +kernel⟩⟩
theorem witness_IdleEntryAndTestModes :
    (∃ (pat : Nat) (l : Lane) (b : Bool) (c : Bool) (k : _), c = xor b (decide (pat = 5)) ∧ l.checkLock = true ∧
     k = (((xor (prbsNext pat l.rcv.seed) c :: l.rcv.wrong).take 64).filter id).length) ∧
    (∃ (pat : Nat) (l : Lane) (b : Bool) (c : Bool), c = xor b (decide (pat = 5)) ∧ l.checkLock = false) ∧
    (∃ (s : State) (g : Fin 3), UnitsOn s ∧ (vget s.dev.groups g).entering = true) ∧
    (∃ (s : State), UnitsOn s ∧ (vget s.dev.groups 0).state = .ready ∧ (vget s.dev.groups 0).entering = true ∧ s.dev.trunk.curs = [] ∧
     s.dev.trunk.cycle ≠ none) ∧
    (∃ (s : State) (k : _), UnitsOn s ∧ (vget s.dev.groups 0).state = .ready ∧ (vget s.dev.groups 0).entering = true ∧ s.dev.trunk.curs = [] ∧
     k ∈ txLanes s.dev 0) ∧
    (∃ (s : State) (f : Fin 2), UnitsOn s ∧ (vget s.dev.groups (f + 1)).tx = .blocks ∧ (vget s.dev.groups (f + 1)).state = .ready ∧
     (vget s.dev.groups (f + 1)).entering = true ∧ (vget s.dev.groups (f + 1)).sending = none) ∧
    (∃ (s : State) (f : Fin 2), UnitsOn s ∧ (vget s.dev.groups (f + 1)).tx = .pattern ∧ (vget s.dev.groups (f + 1)).state = .test ∧
     testMode s.dev (9 + 5 * f) = 4 ∧ (vget s.dev.lanes (9 + 5 * f)).tx.inject = 0) ∧
    (∃ (s : State) (n : Fin 15) (v : Word), fld v 6 4 < 6 ∧ decide (4 ≤ fld v 6 4) ≠ lanePam4 s.dev n) ∧
    (∃ (s : State) (n : Fin 15) (m : Fin 7) (v : Word), TakesWrite s m .lane n 0x20 (v &&& 0xFFFFF1FF#32) ∧ getF s.dev .lane n 0x20 2 0 ≠ fld v 2 0 ∧
     fld v 2 0 ≠ 0 ∧ fld v 2 0 ≠ 3 ∧ s.dev.trunk.curs = []) ∧
    (∃ (s : State) (n : Fin 15) (m : Fin 7) (v : Word), TakesWrite s m .lane n 0x20 (v &&& 0xFFFFF1FF#32) ∧ getF s.dev .lane n 0x20 2 0 ≠ fld v 2 0 ∧
     fld v 2 0 = 3) ∧
    (∃ (s : State) (n : Fin 15) (m : Fin 7) (v : Word), TakesWrite s m .lane n 0x20 (v &&& 0xFFFFF1FF#32) ∧ getF s.dev .lane n 0x20 2 0 ≠ fld v 2 0 ∧
     fld v 2 0 = 0 ∧ (vget s.dev.groups (laneGroup n)).state = .test ∧ (∀ k : Fin 15, k ≠ n → laneGroup k = laneGroup n →
     getF s.dev .lane k 0x20 2 0 = 0)) ∧
    (∃ (s : State) (n : Fin 15) (m : Fin 7), getF s.dev .lane n 0x20 11 9 = 0 ∧ TakesWrite s m .lane n 0x20 (setBit (testWord s.dev n) 9)) ∧
    (∃ (s : State) (n : Fin 15) (m : Fin 7), getF s.dev .lane n 0x20 11 9 = 0 ∧ TakesWrite s m .lane n 0x20 (setBit (testWord s.dev n) 11)) ∧
    (∃ (s : State) (n : Fin 15) (m : Fin 7), getF s.dev .lane n 0x20 11 9 = 0 ∧ UnitsOn s ∧
     TakesWrite s m .lane n 0x20 (setBit (testWord s.dev n) 10) ∧ (vget s.dev.groups 0).tx ≠ .loop) ∧
    (∃ (s : State) (n : Fin 15) (bits : List Bool) (c : _), c ∈ [Instr.checkerLocked n bits, .checkerLockLost n bits] ∧ UnitsOn s ∧
     (vget s.dev.groups 0).tx ≠ .loop ∧ getB s.dev .lane n 0x20 8 = true ∧ testMode s.dev n ≠ 0) ∧
    (∃ (s : State) (n : Fin 15) (bits : List Bool) (c : _), c ∈ [Instr.checkerLocked n bits, .checkerLockLost n bits] ∧ UnitsOn s ∧
     (vget s.dev.groups 0).tx ≠ .loop ∧ (getB s.dev .lane n 0x20 8 = false ∨ testMode s.dev n = 0)) ∧
    (∃ (s : State), UnitsOn s ∧ getF s.dev .lane 4 0x20 2 0 = 3 ∧ (vget s.dev.groups 0).state ≠ .off) ∧
    (∃ (s : State), UnitsOn s ∧ getF s.dev .lane 4 0x20 2 0 = 3 ∧ (vget s.dev.groups 0).state = .off) ∧
    (∃ (s : State), UnitsOn s ∧ getF s.dev .lane 4 0x20 2 0 = 3 ∧ (vget s.dev.groups 0).state = .test ∧ (∀ k : Fin 4, getF s.dev .lane k 0x20 2 0 = 0)) :=
  ⟨⟨0,
   ({ checkLock := true, bits := 2 ^ 48 - 1, errs := 7, relocks := 65535, rcv := { seed := List.replicate 31 true, wrong := List.replicate 63 true } }
   : Lane), false, xor false (decide (0 = 5)), (((xor (prbsNext 0
   (({ checkLock := true, bits := 2 ^ 48 - 1, errs := 7, relocks := 65535, rcv := { seed := List.replicate 31 true, wrong := List.replicate 63 true } }
   : Lane)).rcv.seed) (xor false (decide (0 = 5))) ::
   (({ checkLock := true, bits := 2 ^ 48 - 1, errs := 7, relocks := 65535, rcv := { seed := List.replicate 31 true, wrong := List.replicate 63 true } }
   : Lane)).rcv.wrong).take 64).filter id).length, by decide +kernel⟩,
   ⟨0, ({} : Lane), false, xor false (decide (0 = 5)), by decide +kernel⟩,
   ⟨s29, 0, by decide +kernel⟩,
   ⟨s30, by decide +kernel⟩,
   ⟨s15, 0, by decide +kernel⟩,
   ⟨s15, 0, by decide +kernel⟩,
   ⟨s31, 0, by decide +kernel⟩,
   ⟨s7, 0, 0#32, by decide +kernel⟩,
   ⟨s7, 5, 1, 4#32, by decide +kernel⟩,
   ⟨s17, 4, 1, 3#32, by decide +kernel⟩,
   ⟨s32, 4, 1, 0#32, by decide +kernel⟩,
   ⟨s7, 4, 1, by decide +kernel⟩,
   ⟨s7, 4, 1, by decide +kernel⟩,
   ⟨s7, 4, 1, by decide +kernel⟩,
   ⟨s33, 0, [], Instr.checkerLocked 0 ([]), by decide +kernel⟩,
   ⟨s7, 0, [], Instr.checkerLocked 0 ([]), by decide +kernel⟩,
   ⟨s32, by decide +kernel⟩,
   ⟨s34, by decide +kernel⟩,
   ⟨s32, by decide +kernel⟩⟩

end Sys2Proof.Tests.Lanes

namespace Sys2Proof.Tests.Time

set_option maxRecDepth 100000
set_option Elab.async false

open Sys2Proof.Machine

def H (m : Mode) (f : Dev → Dev) (c : Clock → Clock := id) : State := let s := mk m f; { s with clock := c s.clock }
def tu (d : Dev) : Dev := putF (put (put (put (put d .glob 0 0x10 0x80000100#32) .time 0 0x404 1000000#32) .time 0 0x408 0#32) .time 0 0x40C 1000#32) .time 0 0x400 0 0 1
def trg (n cfg sel off : Nat) (d : Dev) : Dev := put (put (put d .time 0 (0x600+16*n) (BitVec.ofNat 32 cfg)) .time 0 (0x604+16*n) (BitVec.ofNat 32 sel)) .time 0 (0x608+16*n) (BitVec.ofNat 32 off)
def at0 (ns : Nat) (c : Clock) : Clock := { c with now := ns * 2^30 - 5, cycles := 700000 }
def cc (n : Nat) (per ph : Nat) (d : Dev) : Dev := put (put (put d .time 0 (0x100+16*n) 1#32) .time 0 (0x104+16*n) (BitVec.ofNat 32 per)) .time 0 (0x108+16*n) (BitVec.ofNat 32 ph)
def cap (n : Nat) (cfg mn st : Nat) (d : Dev) : Dev := put (put (put d .time 0 (0x800+32*n) (BitVec.ofNat 32 cfg)) .time 0 (0x804+32*n) (BitVec.ofNat 32 mn)) .time 0 (0x808+32*n) (BitVec.ofNat 32 st)
def ce (k : Nat) : CapEntry := { rising := k % 2 = 0, discarded := k, time := 5 * k }
def tl (n : Nat) (f : Trigger → Trigger) (d : Dev) : Dev := onTrig d n f
def cl (n : Nat) (f : Compare → Compare) (d : Dev) : Dev := { d with compares := vmod d.compares n f }
def stk (n : Nat) (l : Bool) (i : Option Nat) (le : Option Nat) (d : Dev) : Dev := { d with caps := vmod d.caps n (fun c => { c with stuck := true, level := l, idleAt := i, lastEdge := le }) }
def s1 : State := H .run id
def s2 : State := H .run (fun d => put d .time 0 0x14 1000000000#32)
def s3 : State := H .run (fun d => put (tu d) .time 0 0x14 5#32)
def s4 : State := H .run (fun d => put (put d .time 0 0x14 700#32) .time 0 0xC 700#32) (fun c => { c with state := .tracking })
def s5 : State := H .run (fun d => put (put d .time 0 0x14 701#32) .time 0 0xC 700#32) (fun c => { c with state := .tracking })
def s6 : State := H .run (fun d =>
    { d with tsq := vmod d.tsq 2 (fun _ => [{ kind := 1, id := 3, time := 999 }, { kind := 2, id := 3, time := 9 }]), caps := vmod d.caps 3 (fun c => { c with fifo := [{ rising := true, discarded := 2, time := 77 }] }) })
def s7 : State := H .run (cap 3 0x80000001 0 0) (at0 1000000)
def s8 : State := H .run (cap 3 0x80003F03 30 9 ∘ fun d =>
    { d with caps := vmod d.caps 3 (fun c => { c with fifo := (List.range 4).map ce, lastEdge := some (4*700000+1-60), discarded := 65535 }) }) (at0
    1000000)
def s9 : State := H .run (cap 3 0x80002F03 30 9 ∘ fun d =>
    { d with caps := vmod d.caps 3 (fun c => { c with fifo := (List.range 3).map ce, lastEdge := some (4*700000+1-60), discarded := 7, idleAt := some 3 }) })
    (at0 1000000)
def s10 : State := H .run (stk 3 true none none ∘ cap 3 0x80002F03 30 9) (at0 1000000)
def s11 : State := H .run (stk 3 false (some (4*700000-59)) none ∘ cap 3 0x80002F03 30 9) (at0 1000000)
def s12 : State := H .run (cap 3 0x80003F03 30 9 ∘ fun d => { d with caps := vmod d.caps 3 (fun c => { c with level := true }) }) (at0 1000000)
def s13 : State := H .run (tl 3 (fun x => { x with since := 700300 }) ∘ trg 3 0xC007D000 0x10001 4 ∘ tu) (at0 (1004 + 5000000))
def s14 : State := H .run (trg 3 0xC007D000 0x00001 0xFFFFFFFC ∘ tu) (at0 (996 + 5000000))
def s15 : State := H .run (trg 3 0x8007D000 0 0 ∘ tu) (at0 (1000 + 5000000))
def s16 : State := H .run ((fun d => onTrig d 3 (fun x => { x with last := some 699999 })) ∘ trg 3 0xC007D000 0x10001 4 ∘ tu) (at0 (1004 + 5000000))
def s17 : State := H .run (cl 2 (fun c => { c with last := some 0 }) ∘ cc 2 10000 37) (fun c => { at0 (37 + 30000) c with stepped := some 700001 })
def s18 : State := H .run (cc 2 10000 37) (at0 (37 + 30000))
def s19 : State := H .run ((fun d => { d with compares := vmod d.compares 2 (fun c => { c with last := some 699000 }) }) ∘ cc 2 10000 37) (at0 (37 + 30000))

theorem witness_TheClockIsSteeredAndStepped :
    (∃ (s : State) (m : Fin 7) (v : Word), TakesWrite s m .time 0 8 v) ∧
    (∃ (s : State) (m : Fin 7) (S : Int) (target : Int), S = sInt 32 (get s.dev .time 0 0x10).toNat * 1000000000 + (get s.dev .time 0 0x14).toNat ∧
     target = s.clock.now / 2 ^ 30 + S ∧ TakesWrite s m .time 0 0 1#32 ∧ (999999999 < (get s.dev .time 0 0x14).toNat ∨ target < 0 ∨
     2 ^ 48 * 1000000000 ≤ target)) ∧
    (∃ (s : State) (m : Fin 7) (S : Int) (target : Int), S = sInt 32 (get s.dev .time 0 0x10).toNat * 1000000000 + (get s.dev .time 0 0x14).toNat ∧
     target = s.clock.now / 2 ^ 30 + S ∧ TakesWrite s m .time 0 0 1#32 ∧ (get s.dev .time 0 0x14).toNat ≤ 999999999 ∧ 0 ≤ target ∧
     target < 2 ^ 48 * 1000000000 ∧ s.clock.state = .free ∧ getB s.dev .time 0 0x400 0 = false) ∧
    (∃ (s : State) (m : Fin 7) (S : Int) (target : Int), S = sInt 32 (get s.dev .time 0 0x10).toNat * 1000000000 + (get s.dev .time 0 0x14).toNat ∧
     target = s.clock.now / 2 ^ 30 + S ∧ TakesWrite s m .time 0 0 1#32 ∧ (get s.dev .time 0 0x14).toNat ≤ 999999999 ∧ 0 ≤ target ∧
     target < 2 ^ 48 * 1000000000 ∧ s.clock.state = .free ∧ getB s.dev .time 0 0x400 0 = true) ∧
    (∃ (s : State) (m : Fin 7) (S : Int) (target : Int), S = sInt 32 (get s.dev .time 0 0x10).toNat * 1000000000 + (get s.dev .time 0 0x14).toNat ∧
     target = s.clock.now / 2 ^ 30 + S ∧ TakesWrite s m .time 0 0 1#32 ∧ (get s.dev .time 0 0x14).toNat ≤ 999999999 ∧ 0 ≤ target ∧
     target < 2 ^ 48 * 1000000000 ∧ s.clock.state ≠ .free ∧ S.natAbs ≤ (get s.dev .time 0 0xC).toNat) ∧
    (∃ (s : State) (m : Fin 7) (S : Int) (target : Int), S = sInt 32 (get s.dev .time 0 0x10).toNat * 1000000000 + (get s.dev .time 0 0x14).toNat ∧
     target = s.clock.now / 2 ^ 30 + S ∧ TakesWrite s m .time 0 0 1#32 ∧ (get s.dev .time 0 0x14).toNat ≤ 999999999 ∧ 0 ≤ target ∧
     target < 2 ^ 48 * 1000000000 ∧ s.clock.state ≠ .free ∧ (get s.dev .time 0 0xC).toNat < S.natAbs) ∧
    (∃ (s : State) (m : Fin 7), TakesWrite s m .time 0 0 2#32) ∧
    (∃ (s : State) (m : Fin 7), TakesWrite s m .time 0 0 4#32) :=
  ⟨⟨s1, 0, 0#32, by decide +kernel⟩,
   ⟨s2, 0, sInt 32 (get s2.dev .time 0 0x10).toNat * 1000000000 + (get s2.dev .time 0 0x14).toNat, s2.clock.now / 2 ^ 30 + (sInt 32 (get s2.dev .time
   0 0x10).toNat * 1000000000 + (get s2.dev .time 0 0x14).toNat), by decide +kernel⟩,
   ⟨s1, 0, sInt 32 (get s1.dev .time 0 0x10).toNat * 1000000000 + (get s1.dev .time 0 0x14).toNat, s1.clock.now / 2 ^ 30 + (sInt 32 (get s1.dev .time
   0 0x10).toNat * 1000000000 + (get s1.dev .time 0 0x14).toNat), by decide +kernel⟩,
   ⟨s3, 0, sInt 32 (get s3.dev .time 0 0x10).toNat * 1000000000 + (get s3.dev .time 0 0x14).toNat, s3.clock.now / 2 ^ 30 + (sInt 32 (get s3.dev .time
   0 0x10).toNat * 1000000000 + (get s3.dev .time 0 0x14).toNat), by decide +kernel⟩,
   ⟨s4, 0, sInt 32 (get s4.dev .time 0 0x10).toNat * 1000000000 + (get s4.dev .time 0 0x14).toNat, s4.clock.now / 2 ^ 30 + (sInt 32 (get s4.dev .time
   0 0x10).toNat * 1000000000 + (get s4.dev .time 0 0x14).toNat), by decide +kernel⟩,
   ⟨s5, 0, sInt 32 (get s5.dev .time 0 0x10).toNat * 1000000000 + (get s5.dev .time 0 0x14).toNat, s5.clock.now / 2 ^ 30 + (sInt 32 (get s5.dev .time
   0 0x10).toNat * 1000000000 + (get s5.dev .time 0 0x14).toNat), by decide +kernel⟩,
   ⟨s1, 0, by decide +kernel⟩,
   ⟨s1, 0, by decide +kernel⟩⟩
theorem witness_TimeReadsAndCaptureInputs :
    (∃ (s : State) (m : Fin 7), TakesRead s m .time 0 0x20) ∧
    (∃ (s : State) (m : Fin 7) (q : Fin 6), TakesRead s m .time 0 (0x200 + 0x20 * q) ∧ vget s.dev.tsq q = []) ∧
    (∃ (s : State) (m : Fin 7) (q : Fin 6) (x : _) (l : _), TakesRead s m .time 0 (0x200 + 0x20 * q) ∧ vget s.dev.tsq q = x :: l) ∧
    (∃ (s : State) (m : Fin 7) (n : Fin 8), TakesRead s m .time 0 (0x80C + 0x20 * n) ∧ (vget s.dev.caps n).fifo = []) ∧
    (∃ (s : State) (m : Fin 7) (n : Fin 8) (x : _) (l : _), TakesRead s m .time 0 (0x80C + 0x20 * n) ∧ (vget s.dev.caps n).fifo = x :: l) ∧
    (∃ (s : State) (n : Fin 8) (sub : Fin 4) (rising : Bool) (dt : Nat), AonOn s ∧ flag (capReg s.dev n 0) 31 = true ∧
     (vget s.dev.caps n).stuck = false ∧ flag (capReg s.dev n 0) (if rising then 0 else 1) = true ∧ (∀ l, (vget s.dev.caps n).lastEdge = some l →
     l + 2 * max 20 (fld (capReg s.dev n 4) 19 0) ≤ 4 * (passTime s dt).clock.cycles + sub) ∧ (vget s.dev.caps n).fifo.length < 4) ∧
    (∃ (s : State) (n : Fin 8) (sub : Fin 4) (rising : Bool) (dt : Nat), AonOn s ∧ flag (capReg s.dev n 0) 31 = true ∧
     (vget s.dev.caps n).stuck = false ∧ flag (capReg s.dev n 0) (if rising then 0 else 1) = true ∧ (∀ l, (vget s.dev.caps n).lastEdge = some l →
     l + 2 * max 20 (fld (capReg s.dev n 4) 19 0) ≤ 4 * (passTime s dt).clock.cycles + sub) ∧ (vget s.dev.caps n).fifo.length = 4) ∧
    (∃ (s : State) (n : Fin 8) (sub : Fin 4) (rising : Bool) (dt : Nat) (l : _), AonOn s ∧ flag (capReg s.dev n 0) 31 = true ∧
     (vget s.dev.caps n).stuck = false ∧ flag (capReg s.dev n 0) (if rising then 0 else 1) = true ∧ (vget s.dev.caps n).lastEdge = some l ∧
     4 * (passTime s dt).clock.cycles + sub < l + 2 * max 20 (fld (capReg s.dev n 4) 19 0)) ∧
    (∃ (s : State) (n : Fin 8) (rising : Bool), AonOn s ∧ (vget s.dev.caps n).stuck = true ∧ rising ≠ (vget s.dev.caps n).level ∧
     rising = flag (capReg s.dev n 0) 2) ∧
    (∃ (s : State) (n : Fin 8) (sub : Fin 4) (rising : Bool) (dt : Nat) (i : _), AonOn s ∧ (vget s.dev.caps n).stuck = true ∧
     rising ≠ (vget s.dev.caps n).level ∧ rising ≠ flag (capReg s.dev n 0) 2 ∧ (vget s.dev.caps n).idleAt = some i ∧
     4 * (passTime s dt).clock.cycles + sub < i + 2 * max 20 (fld (capReg s.dev n 4) 19 0)) ∧
    (∃ (s : State) (n : Fin 8) (sub : Fin 4) (rising : Bool) (dt : Nat) (i : _), AonOn s ∧ (vget s.dev.caps n).stuck = true ∧
     rising ≠ (vget s.dev.caps n).level ∧ rising ≠ flag (capReg s.dev n 0) 2 ∧ (vget s.dev.caps n).idleAt = some i ∧
     i + 2 * max 20 (fld (capReg s.dev n 4) 19 0) ≤ 4 * (passTime s dt).clock.cycles + sub ∧ flag (capReg s.dev n 0) 31 = true ∧
     flag (capReg s.dev n 0) (if rising then 0 else 1) = true ∧ (vget s.dev.caps n).fifo.length < 4 ∧ (∀ l, (vget s.dev.caps n).lastEdge = some l →
     l + 2 * max 20 (fld (capReg s.dev n 4) 19 0) ≤ 4 * (passTime s dt).clock.cycles + sub)) ∧
    (∃ (s : State) (n : Fin 8), AonOn s ∧ flag (capReg s.dev n 0) 31 = true ∧ (vget s.dev.caps n).stuck = false ∧
     (vget s.dev.caps n).level ≠ flag (capReg s.dev n 0) 2 ∧ fld (capReg s.dev n 8) 19 0 ≠ 0) :=
  ⟨⟨s1, 0, by decide +kernel⟩,
   ⟨s1, 0, 0, by decide +kernel⟩,
   ⟨s6, 0, 2, (vget s6.dev.tsq 2).head (by decide +kernel), (vget s6.dev.tsq 2).tail, by decide +kernel⟩,
   ⟨s1, 0, 0, by decide +kernel⟩,
   ⟨s6, 0, 3, ((vget s6.dev.caps 3).fifo).head (by decide +kernel), ((vget s6.dev.caps 3).fifo).tail, by decide +kernel⟩,
   ⟨s7, 3, 0, true, 0, by decide +kernel⟩,
   ⟨s8, 3, 0, false, 1, by decide +kernel⟩,
   ⟨s9, 3, 0, false, 0, ((vget s9.dev.caps 3).lastEdge).get (by decide +kernel), by decide +kernel⟩,
   ⟨s10, 3, flag (capReg s10.dev 3 0) 2, by decide +kernel⟩,
   ⟨s11, 3, 0, true, 0, ((vget s11.dev.caps 3).idleAt).get (by decide +kernel), by decide +kernel⟩,
   ⟨s11, 3, 0, true, 1, ((vget s11.dev.caps 3).idleAt).get (by decide +kernel), by decide +kernel⟩,
   ⟨s12, 3, by decide +kernel⟩⟩
theorem witness_TriggersAndControlCyclesFire :
    (∃ (s : State) (dt : Nat) (n : Fin 16) (k : Int) (p : Nat), AonOn s ∧ trigActive s.sys.mode s.dev n = true ∧
     (passTime s dt).clock.stepped ≠ some (passTime s dt).clock.cycles ∧
     p = (get s.dev .time 0 0x404).toNat * 2 ^ 24 + getF s.dev .time 0 0x408 23 0 ∧ 0 < p ∧
     ((passTime s dt).clock.now : Int) ≤ ((get s.dev .time 0 0x40C).toNat + sInt 32 (trigReg s.dev n 8).toNat) * 2 ^ 30 + k * (p * 64) ∧
     ((get s.dev .time 0 0x40C).toNat + sInt 32 (trigReg s.dev n 8).toNat) * 2 ^ 30 + k * (p * 64) < (passTime s dt).clock.now + cycleStep (passTime s dt).clock ∧
     cycleStep (passTime s dt).clock ≤ p * 64 ∧
     ((passTime s dt).clock.cycles * 2 ^ 31 : Nat) + ((get s.dev .time 0 0x40C).toNat * 2 ^ 30 + k * (p * 64) - (passTime s dt).clock.now) < (((vget s.dev.trigs n).since * 2 ^ 31 : Nat) : Int)) ∧
    (∃ (s : State) (dt : Nat) (n : Fin 16) (k : Int) (p : Nat), AonOn s ∧ trigActive s.sys.mode s.dev n = true ∧
     (passTime s dt).clock.stepped ≠ some (passTime s dt).clock.cycles ∧
     p = (get s.dev .time 0 0x404).toNat * 2 ^ 24 + getF s.dev .time 0 0x408 23 0 ∧ 0 < p ∧
     ((passTime s dt).clock.now : Int) ≤ ((get s.dev .time 0 0x40C).toNat + sInt 32 (trigReg s.dev n 8).toNat) * 2 ^ 30 + k * (p * 64) ∧
     ((get s.dev .time 0 0x40C).toNat + sInt 32 (trigReg s.dev n 8).toNat) * 2 ^ 30 + k * (p * 64) < (passTime s dt).clock.now + cycleStep (passTime s dt).clock ∧
     cycleStep (passTime s dt).clock ≤ p * 64 ∧
     (((vget s.dev.trigs n).since * 2 ^ 31 : Nat) : Int) ≤ ((passTime s dt).clock.cycles * 2 ^ 31 : Nat) + ((get s.dev .time 0 0x40C).toNat * 2 ^ 30 + k * (p * 64) - (passTime s dt).clock.now) ∧
     (k % 0xFFFFFFFF).toNat % (fld (trigReg s.dev n 4) 7 0 + 1) ≠ fld (trigReg s.dev n 4) 23 16) ∧
    (∃ (s : State) (dt : Nat) (n : Fin 16) (k : Int) (p : Nat) (a : Nat) (keep : Bool) (o : _), AonOn s ∧ trigActive s.sys.mode s.dev n = true ∧
     (passTime s dt).clock.stepped ≠ some (passTime s dt).clock.cycles ∧
     p = (get s.dev .time 0 0x404).toNat * 2 ^ 24 + getF s.dev .time 0 0x408 23 0 ∧ 0 < p ∧
     ((passTime s dt).clock.now : Int) ≤ ((get s.dev .time 0 0x40C).toNat + sInt 32 (trigReg s.dev n 8).toNat) * 2 ^ 30 + k * (p * 64) ∧
     ((get s.dev .time 0 0x40C).toNat + sInt 32 (trigReg s.dev n 8).toNat) * 2 ^ 30 + k * (p * 64) < (passTime s dt).clock.now + cycleStep (passTime s dt).clock ∧
     cycleStep (passTime s dt).clock ≤ p * 64 ∧
     (((vget s.dev.trigs n).since * 2 ^ 31 : Nat) : Int) ≤ ((passTime s dt).clock.cycles * 2 ^ 31 : Nat) + ((get s.dev .time 0 0x40C).toNat * 2 ^ 30 + k * (p * 64) - (passTime s dt).clock.now) ∧
     (k % 0xFFFFFFFF).toNat % (fld (trigReg s.dev n 4) 7 0 + 1) = fld (trigReg s.dev n 4) 23 16 ∧ (∀ c, (vget s.dev.trigs n).last = some c →
     3 * ((fld (trigReg s.dev n 4) 7 0 + 1) * p) ≤ ((passTime s dt).clock.cycles - c) * 2 * 2 ^ 24 * 4) ∧ a = unitBase .time 0 + 0x600 + 16 * n ∧
     keep = decide (fld (stagedAt s.dev (a + 4)) 7 0 + 1 ≤ fld (stagedAt s.dev (a + 4)) 23 16) ∧ o ∈ [0, 4, 8]) ∧
    (∃ (s : State) (dt : Nat) (n : Fin 16) (k : Int) (p : Nat) (c : _), AonOn s ∧ trigActive s.sys.mode s.dev n = true ∧
     (passTime s dt).clock.stepped ≠ some (passTime s dt).clock.cycles ∧
     p = (get s.dev .time 0 0x404).toNat * 2 ^ 24 + getF s.dev .time 0 0x408 23 0 ∧ 0 < p ∧
     ((passTime s dt).clock.now : Int) ≤ ((get s.dev .time 0 0x40C).toNat + sInt 32 (trigReg s.dev n 8).toNat) * 2 ^ 30 + k * (p * 64) ∧
     ((get s.dev .time 0 0x40C).toNat + sInt 32 (trigReg s.dev n 8).toNat) * 2 ^ 30 + k * (p * 64) < (passTime s dt).clock.now + cycleStep (passTime s dt).clock ∧
     cycleStep (passTime s dt).clock ≤ p * 64 ∧
     (((vget s.dev.trigs n).since * 2 ^ 31 : Nat) : Int) ≤ ((passTime s dt).clock.cycles * 2 ^ 31 : Nat) + ((get s.dev .time 0 0x40C).toNat * 2 ^ 30 + k * (p * 64) - (passTime s dt).clock.now) ∧
     (k % 0xFFFFFFFF).toNat % (fld (trigReg s.dev n 4) 7 0 + 1) = fld (trigReg s.dev n 4) 23 16 ∧ (vget s.dev.trigs n).last = some c ∧
     ((passTime s dt).clock.cycles - c) * 2 * 2 ^ 24 * 4 < 3 * ((fld (trigReg s.dev n 4) 7 0 + 1) * p)) ∧
    (∃ (s : State) (dt : Nat) (u : Fin 4) (j : Int) (per : Nat), AonOn s ∧ getB s.dev .time 0 (0x100 + 16 * u) 0 = true ∧
     per = (get s.dev .time 0 (0x104 + 16 * u)).toNat ∧ 0 < per ∧
     ((get s.dev .time 0 (0x108 + 16 * u)).toNat + j * per) * 2 ^ 30 ≤ ((passTime s dt).clock.now : Int) ∧
     ((passTime s dt).clock.now : Int) < ((get s.dev .time 0 (0x108 + 16 * u)).toNat + j * per) * 2 ^ 30 + cycleStep (passTime s dt).clock ∧
     cycleStep (passTime s dt).clock ≤ per * 2 ^ 30 ∧ (passTime s dt).clock.stepped = some (passTime s dt).clock.cycles) ∧
    (∃ (s : State) (dt : Nat) (u : Fin 4) (j : Int) (per : Nat) (a : Nat) (fits : Bool) (o : _), AonOn s ∧
     getB s.dev .time 0 (0x100 + 16 * u) 0 = true ∧ per = (get s.dev .time 0 (0x104 + 16 * u)).toNat ∧ 0 < per ∧
     ((get s.dev .time 0 (0x108 + 16 * u)).toNat + j * per) * 2 ^ 30 ≤ ((passTime s dt).clock.now : Int) ∧
     ((passTime s dt).clock.now : Int) < ((get s.dev .time 0 (0x108 + 16 * u)).toNat + j * per) * 2 ^ 30 + cycleStep (passTime s dt).clock ∧
     cycleStep (passTime s dt).clock ≤ per * 2 ^ 30 ∧ (passTime s dt).clock.stepped ≠ some (passTime s dt).clock.cycles ∧
     (∀ c, (vget s.dev.compares u).last = some c → 3 * per ≤ ((passTime s dt).clock.cycles - c) * 2 * 4) ∧ a = unitBase .time 0 + 0x100 + 16 * u ∧
     fits = (decide (10000 ≤ (stagedAt s.dev (a + 4)).toNat) && decide ((stagedAt s.dev (a + 4)).toNat ≤ 1000000000) && decide ((stagedAt s.dev (a + 8)).toNat < (stagedAt s.dev (a + 4)).toNat)) ∧
     o ∈ [0, 4, 8]) ∧
    (∃ (s : State) (dt : Nat) (u : Fin 4) (j : Int) (per : Nat) (c : _), AonOn s ∧ getB s.dev .time 0 (0x100 + 16 * u) 0 = true ∧
     per = (get s.dev .time 0 (0x104 + 16 * u)).toNat ∧ 0 < per ∧
     ((get s.dev .time 0 (0x108 + 16 * u)).toNat + j * per) * 2 ^ 30 ≤ ((passTime s dt).clock.now : Int) ∧
     ((passTime s dt).clock.now : Int) < ((get s.dev .time 0 (0x108 + 16 * u)).toNat + j * per) * 2 ^ 30 + cycleStep (passTime s dt).clock ∧
     cycleStep (passTime s dt).clock ≤ per * 2 ^ 30 ∧ (passTime s dt).clock.stepped ≠ some (passTime s dt).clock.cycles ∧
     (vget s.dev.compares u).last = some c ∧ ((passTime s dt).clock.cycles - c) * 2 * 4 < 3 * per) :=
  ⟨⟨s13, 0, 3, 5, (get s13.dev .time 0 0x404).toNat * 2 ^ 24 + getF s13.dev .time 0 0x408 23 0, by decide +kernel⟩,
   ⟨s14, 0, 3, 5, (get s14.dev .time 0 0x404).toNat * 2 ^ 24 + getF s14.dev .time 0 0x408 23 0, by decide +kernel⟩,
   ⟨s15, 0, 3, 5, (get s15.dev .time 0 0x404).toNat * 2 ^ 24 + getF s15.dev .time 0 0x408 23 0, unitBase .time 0 + 0x600 + 16 * 3, decide (fld
   (stagedAt s15.dev ((unitBase .time 0 + 0x600 + 16 * 3) + 4)) 7 0 + 1 ≤ fld (stagedAt s15.dev ((unitBase .time 0 + 0x600 + 16 * 3) + 4)) 23 16), 0,
   by decide +kernel⟩,
   ⟨s16, 0, 3, 5, (get s16.dev .time 0 0x404).toNat * 2 ^ 24 + getF s16.dev .time 0 0x408 23 0, ((vget s16.dev.trigs 3).last).get (by decide +kernel),
   by decide +kernel⟩,
   ⟨s17, 1, 2, 3, (get s17.dev .time 0 (0x104 + 16 * 2)).toNat, by decide +kernel⟩,
   ⟨s18, 1, 2, 3, (get s18.dev .time 0 (0x104 + 16 * 2)).toNat, unitBase .time 0 + 0x100 + 16 * 2, (decide (10000 ≤ (stagedAt s18.dev ((unitBase .time
   0 + 0x100 + 16 * 2) + 4)).toNat) && decide ((stagedAt s18.dev ((unitBase .time 0 + 0x100 + 16 * 2) + 4)).toNat ≤ 1000000000) && decide ((stagedAt
   s18.dev ((unitBase .time 0 + 0x100 + 16 * 2) + 8)).toNat < (stagedAt s18.dev ((unitBase .time 0 + 0x100 + 16 * 2) + 4)).toNat)), 0,
   by decide +kernel⟩,
   ⟨s19, 1, 2, 3, (get s19.dev .time 0 (0x104 + 16 * 2)).toNat, ((vget s19.dev.compares 2).last).get (by decide +kernel), by decide +kernel⟩⟩

end Sys2Proof.Tests.Time

namespace Sys2Proof.Tests.Intake

set_option maxRecDepth 100000
set_option Elab.async false

open Sys2Proof.Machine

def rw (vc dt ctx ex pk role : Nat) : Word := BitVec.ofNat 32 (2^31 + vc*2^27 + dt*2^21 + ctx*2^16 + ex*2^12 + pk*2^8 + role)
def rr (k : Nat) (w : Word) (d : Dev) : Dev := put d .csi 3 (0x40 + 4*k) w
def w8 (vc dt ctx ex role : Nat) : Word := (BitVec.ofNat 32 ((List.range (2^0)).length - 1)) ||| rw vc dt ctx ex 0 role
def size (d : Dev) : Dev := put d .ctx 5 4 (BitVec.ofNat 32 (3 * 65536 + 8))
def base5 (d : Dev) : Dev :=
  putF (putF (putF (size (rr 1 (w8 1 0x12 5 0 1) (rr 0 (w8 1 0x2A 5 0 0) d))) .csi 3 0 0 0 1) .ctx 5 0 0 0 1) .ctx 5 0 6 4 3
def fr (ps : Params) (n : Nat) (g : Frame → Frame := id) : Frame := g { seq := 9, params := ps, exps := [List.replicate n { bits := 8, codes := List.replicate 8 7, black := false }] }
def ps0 (lim ed : Nat) : Params := [(4, BitVec.ofNat 32 (3 * 65536 + 8)), (0x0C, BitVec.ofNat 32 lim), (0x80, BitVec.ofNat 32 ed)]
def I (h : Dev → Dev := id) : State := mk .run (h ∘ base5)
def op (f : Frame) (k : Ctx → Ctx := id) (d : Dev) : Dev := onCtx d 5 (fun x => k { x with phase := .open, frames := [f] })
def cv (per off E : Nat) (d : Dev) : Dev := put (put (put (put (putF d .time 0 0x400 0 0 1) .time 0 0x404 (BitVec.ofNat 32 per)) .time 0 0x40C 1000#32) .ctx 5 0x760 (BitVec.ofNat 32 off)) .ctx 5 0x764 (BitVec.ofNat 32 (2^31 + E))
def atN (ns : Nat) (s : State) : State := { s with clock := { s.clock with now := ns * 2^30, cycles := 700000 } }
def cx5 (k : Ctx → Ctx) (d : Dev) : Dev := onCtx d 5 k
def dset (n : Nat) (e : Nat) (o : Nat) (w : Word) (d : Dev) : Dev := onDrv d n (fun v => { v with armed := [{ ctx := 5, epoch := e, entries := [(unitBase .ctx 5 + o, w)], handle := 3, order := 7 }] })
def pend (e t dn : Nat) (d : Dev) : Dev := cx5 (fun x => { x with pendings := [{ epoch := e, target := t, doneAt := dn }] }) d
def s1 : State := I ((fun d => put d .ctx 5 0x700 0x00301#32) ∘ pend 77 1 0)
def s2 : State := atN (1000+3000000) (I (cv 1000000 0 200))
def s3 : State := atN (1000+3000000) (I (cv 1000000 0 200 ∘ cx5 (fun x => { x with abandoned := true })))
def s4 : State := I (dset 1 1 0xC 5#32)
def s5 : State := I (dset 1 0 0xC 0xFFFF0000#32 ∘ cx5 (fun x => { x with abandoned := true }))
def s6 : State := I (dset 1 0 0xC 5#32)
def s7 : State := I (fun d => putF d .ctx 5 0 1 1 1)
def s8 : State := I (op (fr (ps0 0 1) 3) ∘ rr 2 (w8 2 0x2A 5 0 0))
def s9 : State := I (op (fr (ps0 0 1) 3))
def s10 : State := I (op (fr (ps0 0 1) 2))
def s11 : State := I (fun d => onPort d 3 (fun x => { x with waits := [1] }))
def s12 : State := I (op (fr (ps0 4 0) 0))
def s13 : State := I (fun d => onCtx d 5 (fun x => { x with phase := .closed }))
def s14 : State := I (op (fr (ps0 4 2) 0 (fun f => { f with concealed := 1 })) (fun x => { x with edTop := 1 }))
def s15 : State := I (fun d => onPort d 3 (fun x => { x with resetting := true }))
def s16 : State := I (fun d => onCtx (putF (put d .ctx 5 0x704 0xFFFF0003#32) .ctx 5 0x700 2 0 4) 5 (fun x => { x with epochDue := 2 }))

theorem witness_FramesStartEndAndTimeOut :
    (∃ (s : State) (p : Fin 8) (v : Fin 16) (c : Fin 16), UnitsOn s ∧ portLive s.dev p = true ∧ vcSeen s.dev p v = true ∧ StartsFrame s p v c ∧
     MayOpen s c ∧ (∀ n : Fin 4, (drvOf s.dev n).armed = []) ∧ (vget s.dev.ctxs c).pendings = [] ∧ getB s.dev .time 0 0x400 0 = false ∧
     getB s.dev .ctx c 0 1 = false) ∧
    (∃ (s : State) (p : Fin 8) (v : Fin 16) (c : Fin 16) (dt : _) (y : EpochEntry) (seq : Nat) (lat : Nat) (soon : Bool) (late : Bool), UnitsOn s ∧
     portLive s.dev p = true ∧ vcSeen s.dev p v = true ∧ StartsFrame s p v c ∧ MayOpen s c ∧ (∀ n : Fin 4, (drvOf s.dev n).armed = []) ∧
     getB s.dev .time 0 0x400 0 = false ∧ getB s.dev .ctx c 0 1 = false ∧ (vget s.dev.ctxs c).pendings = [y] ∧ y.epoch < 65536 ∧
     seq = (get s.dev .ctx c 0x18 + 1).toNat ∧ lat = max 1 (getF s.dev .ctx c 0x700 2 0) ∧ late = getB s.dev .ctx c 0x700 16 ∧
     soon = (decide (y.target = (seq + 2 ^ 32 - 1 + lat) % 2 ^ 32) && decide ((passTime s dt).clock.cycles < y.doneAt + getF s.dev .ctx c 0x700 15 8 * 5000))) ∧
    (∃ (s : State) (p : Fin 8) (v : Fin 16) (c : Fin 16) (dt : _) (k : Int) (x : Int) (half : Int) (per : Nat), UnitsOn s ∧ portLive s.dev p = true ∧
     vcSeen s.dev p v = true ∧ StartsFrame s p v c ∧ MayOpen s c ∧ (∀ n : Fin 4, (drvOf s.dev n).armed = []) ∧ (vget s.dev.ctxs c).pendings = [] ∧
     getB s.dev .time 0 0x400 0 = true ∧ getB s.dev .ctx c 0x764 31 = true ∧ getB s.dev .ctx c 0 1 = false ∧
     per = (get s.dev .time 0 0x404).toNat * 2 ^ 24 + getF s.dev .time 0 0x408 23 0 ∧
     x = ((passTime s dt).clock.now / 64 : Nat) - ((get s.dev .ctx c 0x760).toNat + (get s.dev .time 0 0x40C).toNat) * 2 ^ 24 ∧
     half = min ((getF s.dev .ctx c 0x764 23 0 * 2 ^ 24 : Nat) : Int) ((((per / 2 ^ 25 : Nat) : Int) - 1) * 2 ^ 24) ∧ (x - k * per).natAbs ≤ half ∧
     (vget s.dev.ctxs c).lastTick ≠ some k ∧ (vget s.dev.ctxs c).abandoned = false) ∧
    (∃ (s : State) (p : Fin 8) (v : Fin 16) (c : Fin 16) (dt : _) (k : Int) (x : Int) (half : Int) (per : Nat), UnitsOn s ∧ portLive s.dev p = true ∧
     vcSeen s.dev p v = true ∧ StartsFrame s p v c ∧ MayOpen s c ∧ (∀ n : Fin 4, (drvOf s.dev n).armed = []) ∧ (vget s.dev.ctxs c).pendings = [] ∧
     getB s.dev .time 0 0x400 0 = true ∧ getB s.dev .ctx c 0x764 31 = true ∧ getB s.dev .ctx c 0 1 = false ∧
     per = (get s.dev .time 0 0x404).toNat * 2 ^ 24 + getF s.dev .time 0 0x408 23 0 ∧
     x = ((passTime s dt).clock.now / 64 : Nat) - ((get s.dev .ctx c 0x760).toNat + (get s.dev .time 0 0x40C).toNat) * 2 ^ 24 ∧
     half = min ((getF s.dev .ctx c 0x764 23 0 * 2 ^ 24 : Nat) : Int) ((((per / 2 ^ 25 : Nat) : Int) - 1) * 2 ^ 24) ∧
     ((∀ j : Int, half < (x - j * per).natAbs) ∨ ((x - k * per).natAbs ≤ half ∧ (vget s.dev.ctxs c).lastTick = some k) ∨
     (vget s.dev.ctxs c).abandoned = true)) ∧
    (∃ (s : State) (p : Fin 8) (v : Fin 16) (c : Fin 16) (n : Fin 4) (q : StagedSet), UnitsOn s ∧ portLive s.dev p = true ∧ vcSeen s.dev p v = true ∧
     StartsFrame s p v c ∧ (vget s.dev.ctxs c).pendings = [] ∧ getB s.dev .time 0 0x400 0 = false ∧ (drvOf s.dev n).armed = [q] ∧
     (∀ m : Fin 4, m ≠ n → (drvOf s.dev m).armed = []) ∧ q.ctx = c ∧ q.handle < 8 ∧ epochReached (getF s.dev .ctx c 0x704 15 0) q.epoch = false) ∧
    (∃ (s : State) (p : Fin 8) (v : Fin 16) (c : Fin 16) (n : Fin 4) (q : StagedSet), UnitsOn s ∧ portLive s.dev p = true ∧ vcSeen s.dev p v = true ∧
     StartsFrame s p v c ∧ (vget s.dev.ctxs c).pendings = [] ∧ getB s.dev .time 0 0x400 0 = false ∧ (drvOf s.dev n).armed = [q] ∧
     (∀ m : Fin 4, m ≠ n → (drvOf s.dev m).armed = []) ∧ q.ctx = c ∧ q.handle < 8 ∧ epochReached (getF s.dev .ctx c 0x704 15 0) q.epoch = true ∧
     (s.sys.mode = .idle ∨ s.sys.drain = true ∨ fenced s.dev .ctx c = true ∨ (vget s.dev.ctxs c).abandoned = true)) ∧
    (∃ (s : State) (p : Fin 8) (v : Fin 16) (c : Fin 16) (n : Fin 4) (q : StagedSet) (o : Nat) (w : Word), UnitsOn s ∧ portLive s.dev p = true ∧
     vcSeen s.dev p v = true ∧ StartsFrame s p v c ∧ (vget s.dev.ctxs c).pendings = [] ∧ getB s.dev .time 0 0x400 0 = false ∧
     (drvOf s.dev n).armed = [q] ∧ (∀ m : Fin 4, m ≠ n → (drvOf s.dev m).armed = []) ∧ q.ctx = c ∧ q.handle < 8 ∧
     epochReached (getF s.dev .ctx c 0x704 15 0) q.epoch = true ∧ MayOpen s c ∧ (vget s.dev.ctxs c).abandoned = false ∧
     q.entries = [(unitBase .ctx c + o, w)] ∧ 4 ≤ o ∧ o < 0x2000 ∧ rwsMask (unitBase .ctx c + o) ≠ 0) ∧
    (∃ (s : State) (p : Fin 8) (v : Fin 16) (c : Fin 16), UnitsOn s ∧ portLive s.dev p = true ∧ vcSeen s.dev p v = true ∧ StartsFrame s p v c ∧
     MayOpen s c ∧ (∀ n : Fin 4, (drvOf s.dev n).armed = []) ∧ (vget s.dev.ctxs c).pendings = [] ∧ getB s.dev .time 0 0x400 0 = false ∧
     getB s.dev .ctx c 0 1 = true) ∧
    (∃ (s : State) (p : Fin 8) (v : Fin 16) (c : Fin 16), UnitsOn s ∧ portLive s.dev p = true ∧ vcSeen s.dev p v = true ∧ vcWaits s.dev p v = false ∧
     ctxsOnVc s.dev p v = [c.val] ∧ (vget s.dev.ctxs c).phase = .open ∧ (∃ w ∈ exposureVcs s.dev p c, w ≠ v.val ∧ w ∉ (vget s.dev.ctxs c).endedVcs)) ∧
    (∃ (s : State) (p : Fin 8) (v : Fin 16) (c : Fin 16) (f : _), UnitsOn s ∧ portLive s.dev p = true ∧ vcSeen s.dev p v = true ∧
     vcWaits s.dev p v = false ∧ openFrame s.dev c = some f ∧ ctxsOnVc s.dev p v = [c.val] ∧ (∀ w ∈ exposureVcs s.dev p c, w = v.val ∨
     w ∈ (vget s.dev.ctxs c).endedVcs) ∧ missingRows f = 0 ∧ f.cause = 0 ∧ completeRows f < 2 ^ 14) ∧
    (∃ (s : State) (p : Fin 8) (v : Fin 16) (c : Fin 16) (f : _), UnitsOn s ∧ portLive s.dev p = true ∧ vcSeen s.dev p v = true ∧
     vcWaits s.dev p v = false ∧ openFrame s.dev c = some f ∧ ctxsOnVc s.dev p v = [c.val] ∧ (∀ w ∈ exposureVcs s.dev p c, w = v.val ∨
     w ∈ (vget s.dev.ctxs c).endedVcs) ∧ concealLimit f < f.concealed + missingRows f ∧ 0 < missingRows f) ∧
    (∃ (s : State) (p : Fin 8) (v : Fin 16) (c : Fin 16), UnitsOn s ∧ portLive s.dev p = true ∧ vcSeen s.dev p v = true ∧ openFrame s.dev c = none) :=
  ⟨⟨I, 3, 1, 5, by decide +kernel⟩,
   ⟨s1, 3, 1, 5, 0, ((vget s1.dev.ctxs 5).pendings).head (by decide +kernel), (get s1.dev .ctx 5 0x18 + 1).toNat, max 1 (getF s1.dev .ctx 5 0x700 2
   0), (decide ((((vget s1.dev.ctxs 5).pendings).head (by decide +kernel)).target = (((get s1.dev .ctx 5 0x18 + 1).toNat) + 2 ^ 32 - 1 + (max 1 (getF
   s1.dev .ctx 5 0x700 2 0))) % 2 ^ 32) && decide ((passTime s1 0).clock.cycles < (((vget s1.dev.ctxs 5).pendings).head (by decide +kernel)).doneAt +
   getF s1.dev .ctx 5 0x700 15 8 * 5000)), getB s1.dev .ctx 5 0x700 16, by decide +kernel⟩,
   ⟨s2, 3, 1, 5, 0, 3, ((passTime s2 0).clock.now / 64 : Nat) - ((get s2.dev .ctx 5 0x760).toNat + (get s2.dev .time 0 0x40C).toNat) * 2 ^ 24, min
   ((getF s2.dev .ctx 5 0x764 23 0 * 2 ^ 24 : Nat) : Int) ((((((get s2.dev .time 0 0x404).toNat * 2 ^ 24 + getF s2.dev .time 0 0x408 23 0) / 2 ^ 25 :
   Nat) : Int) - 1) * 2 ^ 24), (get s2.dev .time 0 0x404).toNat * 2 ^ 24 + getF s2.dev .time 0 0x408 23 0, by decide +kernel⟩,
   ⟨s3, 3, 1, 5, 0, 3, ((passTime s3 0).clock.now / 64 : Nat) - ((get s3.dev .ctx 5 0x760).toNat + (get s3.dev .time 0 0x40C).toNat) * 2 ^ 24, min
   ((getF s3.dev .ctx 5 0x764 23 0 * 2 ^ 24 : Nat) : Int) ((((((get s3.dev .time 0 0x404).toNat * 2 ^ 24 + getF s3.dev .time 0 0x408 23 0) / 2 ^ 25 :
   Nat) : Int) - 1) * 2 ^ 24), (get s3.dev .time 0 0x404).toNat * 2 ^ 24 + getF s3.dev .time 0 0x408 23 0, by decide +kernel, by decide +kernel,
   by decide +kernel, by decide +kernel, by decide +kernel, by decide +kernel, by decide +kernel, by decide +kernel, by decide +kernel,
   by decide +kernel, by decide +kernel, by decide +kernel, by decide +kernel, Or.inr (Or.inr (by decide +kernel))⟩,
   ⟨s4, 3, 1, 5, 1, ((drvOf s4.dev 1).armed).head (by decide +kernel), by decide +kernel⟩,
   ⟨s5, 3, 1, 5, 1, ((drvOf s5.dev 1).armed).head (by decide +kernel), by decide +kernel⟩,
   ⟨s6, 3, 1, 5, 1, { ctx := 5, epoch := 0, entries := [(unitBase .ctx 5 + 0xC, 5#32)], handle := 3, order := 7 }, 0xC, 5#32, by decide +kernel⟩,
   ⟨s7, 3, 1, 5, by decide +kernel⟩,
   ⟨s8, 3, 1, 5, ⟨by decide +kernel, by decide +kernel, by decide +kernel, by decide +kernel, by decide +kernel, by decide +kernel, 2,
   by decide +kernel⟩⟩,
   ⟨s9, 3, 1, 5, (openFrame s9.dev 5).get (by decide +kernel), by decide +kernel⟩,
   ⟨s10, 3, 1, 5, (openFrame s10.dev 5).get (by decide +kernel), by decide +kernel⟩,
   ⟨I, 3, 0, 0, by decide +kernel⟩⟩
theorem witness_LinesEnterTheirFrames :
    (∃ (s : State) (p : Fin 8) (v : Fin 16) (dt : Fin 64) (bytes : List Byte) (q : _), UnitsOn s ∧ portLive s.dev p = true ∧ vcSeen s.dev p v = true ∧
     vcWaits s.dev p v = true ∧
     q ∈ [Instr.frameEndPacket p v .good, .imageLineReceived p v dt .good bytes true false, .embeddedLineReceived p v .good bytes true, .shortPacketIgnored p v dt .good]) ∧
    (∃ (s : State) (p : Fin 8) (v : Fin 16) (dt : Fin 64) (bytes : List Byte) (r : _) (f : _) (k : _), UnitsOn s ∧ portLive s.dev p = true ∧
     vcSeen s.dev p v = true ∧ vcWaits s.dev p v = false ∧ dtAccepted dt = true ∧ dt.val ≠ 0x12 ∧ routeFor s.dev p v dt = some r ∧ r.role = 0 ∧
     ctxOn s.dev p r.ctx = true ∧ r.ctx < 16 ∧ openFrame s.dev r.ctx = some f ∧ f.memfed = false ∧ r.exposure < f.exps.length ∧
     (f.exps.getD r.exposure []).length < frameHeight f ∧ bytes.length * 8 = frameWidth f * packBits r.pack dt ∧ k ≠ r.ctx) ∧
    (∃ (s : State) (p : Fin 8) (v : Fin 16) (dt : Fin 64) (bytes : List Byte) (r : _) (f : _) (crc : _), UnitsOn s ∧ portLive s.dev p = true ∧
     vcSeen s.dev p v = true ∧ vcWaits s.dev p v = false ∧ dtAccepted dt = true ∧ dt.val ≠ 0x12 ∧ routeFor s.dev p v dt = some r ∧ r.role = 0 ∧
     ctxOn s.dev p r.ctx = true ∧ r.ctx < 16 ∧ openFrame s.dev r.ctx = some f ∧ f.memfed = false ∧ r.exposure < f.exps.length ∧
     (f.exps.getD r.exposure []).length < frameHeight f ∧ f.concealed < concealLimit f ∧ (crc = false ∨
     bytes.length * 8 ≠ frameWidth f * packBits r.pack dt) ∧ crc = false) ∧
    (∃ (s : State) (p : Fin 8) (v : Fin 16) (dt : Fin 64) (r : _), UnitsOn s ∧ portLive s.dev p = true ∧ vcSeen s.dev p v = true ∧
     vcWaits s.dev p v = false ∧ dtAccepted dt = true ∧ dt.val ≠ 0x12 ∧ routeFor s.dev p v dt = some r ∧ r.role = 0 ∧ ctxOn s.dev p r.ctx = true ∧
     r.ctx < 16 ∧ (vget s.dev.ctxs r.ctx).phase = .noFrame ∧ (∀ n : Fin 4, (drvOf s.dev n).armed = [])) ∧
    (∃ (s : State) (p : Fin 8) (v : Fin 16) (dt : Fin 64) (r : _), UnitsOn s ∧ portLive s.dev p = true ∧ vcSeen s.dev p v = true ∧
     vcWaits s.dev p v = false ∧ dtAccepted dt = true ∧ dt.val ≠ 0x12 ∧ routeFor s.dev p v dt = some r ∧ r.role = 0 ∧ ctxOn s.dev p r.ctx = true ∧
     r.ctx < 16 ∧ (vget s.dev.ctxs r.ctx).phase ∈ [.orphan, .closed, .dropped]) ∧
    (∃ (s : State) (p : Fin 8) (v : Fin 16) (r : _) (f : _), UnitsOn s ∧ portLive s.dev p = true ∧ vcSeen s.dev p v = true ∧
     vcWaits s.dev p v = false ∧ routeFor s.dev p v 0x12 = some r ∧ r.role = 1 ∧ ctxOn s.dev p r.ctx = true ∧ r.ctx < 16 ∧
     openFrame s.dev r.ctx = some f ∧ touchedRows f = 0 ∧ (vget s.dev.ctxs r.ctx).edTop < fld (pw f.params 0x80) 2 0) ∧
    (∃ (s : State) (p : Fin 8) (v : Fin 16) (dt : Fin 64) (bytes : List Byte) (q : _), UnitsOn s ∧ portLive s.dev p = true ∧ vcSeen s.dev p v = true ∧
     vcWaits s.dev p v = false ∧
     q ∈ (if dtAccepted dt = false then [Instr.shortPacketIgnored p v dt .good, .imageLineReceived p v dt .good bytes true false] else if routeFor s.dev p v dt = none then [.imageLineReceived p v dt .good bytes true false] else [])) :=
  ⟨⟨s11, 3, 1, 0x2A, [], .frameEndPacket 3 1 .good, by decide +kernel⟩,
   ⟨s10, 3, 1, 0x2A, (List.range 8).map (BitVec.ofNat 8), (routeFor s10.dev 3 1 0x2A).get (by decide +kernel), (openFrame s10.dev ((routeFor s10.dev 3
   1 0x2A).get (by decide +kernel)).ctx).get (by decide +kernel), 0, by decide +kernel⟩,
   ⟨s12, 3, 1, 0x2A, (List.range 8).map (BitVec.ofNat 8), (routeFor s12.dev 3 1 0x2A).get (by decide +kernel), (openFrame s12.dev ((routeFor s12.dev 3
   1 0x2A).get (by decide +kernel)).ctx).get (by decide +kernel), false, by decide +kernel⟩,
   ⟨I, 3, 1, 0x2A, (routeFor I.dev 3 1 0x2A).get (by decide +kernel), by decide +kernel⟩,
   ⟨s13, 3, 1, 0x2A, (routeFor s13.dev 3 1 0x2A).get (by decide +kernel), by decide +kernel⟩,
   ⟨s14, 3, 1, (routeFor s14.dev 3 1 0x12).get (by decide +kernel), (openFrame s14.dev ((routeFor s14.dev 3 1 0x12).get (by decide +kernel)).ctx).get
   (by decide +kernel), by decide +kernel⟩,
   ⟨I, 3, 1, 4, [], .shortPacketIgnored 3 1 4 .good, by decide +kernel⟩⟩
theorem witness_PortsAndEpochWrites :
    (∃ (s : State) (p : Fin 8) (c : Fin 16), UnitsOn s ∧ portLive s.dev p = true ∧ ctxPort s.dev c = p) ∧
    (∃ (s : State) (p : Fin 8), UnitsOn s ∧ (vget s.dev.ports p).resetting = true) ∧
    (∃ (s : State) (p : Fin 8), UnitsOn s ∧ (vget s.dev.ports p).resetting = false) ∧
    (∃ (s : State) (p : Fin 8) (m : Fin 7) (v : Word), TakesWrite s m .csi p 0 (setBit v 0) ∧ getB s.dev .csi p 0 0 = false) ∧
    (∃ (s : State) (p : Fin 8) (m : Fin 7) (v : Word) (c : Fin 16) (f : _), TakesWrite s m .csi p 0 (clearBit v 0) ∧ getB s.dev .csi p 0 0 = true ∧
     ctxPort s.dev c = p ∧ openFrame s.dev c = some f) ∧
    (∃ (s : State) (p : Fin 8) (m : Fin 7) (c : Fin 16), TakesWrite s m .csi p 0x10 2#32 ∧ ctxPort s.dev c = p) ∧
    (∃ (s : State) (p : Fin 8) (m : Fin 7), TakesWrite s m .csi p 0x10 1#32) ∧
    (∃ (s : State) (m : Fin 7) (v : Word) (c : Fin 16), (vget s.dev.ctxs c).pendings = [] ∧ TakesWrite s m .ctx c 0x708 (setBit v 0)) ∧
    (∃ (s : State) (c : Fin 16), (vget s.dev.ctxs c).pendings = [] ∧ UnitsOn s ∧ 0 < (vget s.dev.ctxs c).epochDue) ∧
    (∃ (s : State) (c : Fin 16), (vget s.dev.ctxs c).pendings = [] ∧ UnitsOn s ∧ (vget s.dev.ctxs c).epochDue = 0) :=
  ⟨⟨I, 3, 5, by decide +kernel⟩,
   ⟨s15, 3, by decide +kernel⟩,
   ⟨I, 0, by decide +kernel⟩,
   ⟨I, 0, 1, 0#32, by decide +kernel⟩,
   ⟨s9, 3, 1, 0#32, 5, (openFrame s9.dev 5).get (by decide +kernel), by decide +kernel⟩,
   ⟨I, 0, 1, 0, by decide +kernel⟩,
   ⟨I, 0, 1, by decide +kernel⟩,
   ⟨I, 1, 0#32, 0, by decide +kernel⟩,
   ⟨s16, 5, by decide +kernel⟩,
   ⟨I, 0, by decide +kernel⟩⟩

end Sys2Proof.Tests.Intake

namespace Sys2Proof.Tests.Pipes

set_option maxRecDepth 100000
set_option Elab.async false

open Sys2Proof.Machine

def ps0 (more : Params) : Params := [(4, BitVec.ofNat 32 (3 * 65536 + 8)), (0x0C, 4#32)] ++ more
def fr (n : Nat) (g : Frame → Frame := id) : Frame := g { seq := 9, params := ps0 [], exps := [List.replicate n { bits := 8, codes := List.replicate 8 7, black := false }] }
def onC (c : Nat) (l : List Frame) (k : Ctx → Ctx := id) (d : Dev) : Dev := onCtx d c (fun x => k { x with phase := .open, frames := l })
def J (h : Dev → Dev := id) (m : Mode := .run) : State := mk m (fun d => h (putF (putF (put d .ctx 5 4 (BitVec.ofNat 32 (3 * 65536 + 8))) .ctx 5 0 0 0 1) .ctx 5 0x748 24 12 0x123))
def P (p : Nat) (f : Pipe → Pipe) (d : Dev) : Dev := onPipe d p f
def toll (d : Dev) : Dev := (List.range 32).foldl (fun d k => put d .toll 0 (0x100 + 4*k) (BitVec.ofNat 32 (if k < 2 then 0 else if k = 31 then 2 else if k < 6 then 4 else if k < 10 then 5 else k))) d
def loadW (a w : Nat) : PendingLoad := { addr := a, width := w, rd := 3, pc := 0 }
def drvl (k a w : Nat) (d : Dev) : Dev := { d with drvs := vmod d.drvs k (fun x => { x with load := some (loadW a w) }) }
def ttab (n : Nat) (en : Nat) (d : Dev) : Dev := put d .pipe 1 0 (BitVec.ofNat 32 (en * 2^31 + n * 65536 + 1000))
def stg (n : Nat) (d : Dev) : Dev := { d with staged := d.staged ++ [(unitBase .pipe 1, BitVec.ofNat 32 (2^31 + n * 65536 + 50))] }
def zf2 (w : Word) : Frame → Frame := fun f => { f with ended := true, params := (0x600, w) :: (0x604, 0x00120000#32) :: ps0 [], emit := true, items := 400 }
def slot1 (d : Dev) : Dev := put d .pipe 1 0x104 0x00000105#32
def mf (p : Nat) : Frame := fr 3 (fun f => { f with memfed := true, pipe := p, ended := true })
def px (n : Nat) : Px := { a := n, b := 2*n, c := 3*n, ir := 0 }
def vps (lines fmt base : Nat) : Params := [(0, BitVec.ofNat 32 (fmt * 65536 + 1)), (8, 0x00040008#32), (0x18, BitVec.ofNat 32 (2 * 65536 + 4)), (0x24, BitVec.ofNat 32 (base * 4096 + lines))]
def vf : Frame := fr 3 (fun f => { f with out := (List.range 6).map (fun y => (List.range 8).map (fun x => px (1000 * y + 300 * x))) })
def V (v : Nat) (x : View) (d : Dev) : Dev := onView d v (fun _ => x)
def vw0 (lines fmt base used line : Nat) : View := { frameOpen := true, ctx := 5, seq := 9, params := vps lines fmt base, used := used, nextSlot := used, line := line }
def shedSt (f : Dev → Dev) : State := J (fun d => let e := f d; { e with power := { e.power with shedding := true } })
def s1 : State := J (onC 5 [fr 3 (fun f => { f with pipe := 1 })])
def s2 : State := J (P 1 (fun x => { x with row := some { ctx := 5, inline := true } }) ∘ onC 5 [fr 3 (fun f => { f with pipe := 1 })])
def s3 : State := J (P 1 (fun x => { x with row := some { ctx := 7, inline := false } }) ∘ onC 5 [fr 3 (fun f => { f with pipe := 1 })])
def s4 : State := J (P 1 (fun x => { x with stripe := true, slotCtx := 5, stripeEnd := 2, due := some 1, running := true }) ∘ onC 5 [fr 3 (fun f =>
    { f with memfed := true, items := 1 })])
def s5 : State := J (P 1 (fun x => { x with stripe := true, slotCtx := 5, stripeEnd := 2, slot := some 0, started := 3 }) ∘ ttab 3 1 ∘ onC 5 [fr 3 (fun f =>
    { f with memfed := true, items := 2, pipe := 1 })])
def s6 : State := J (P 1 (fun x => { x with stripe := true, slotCtx := 5, stripeEnd := 2, running := true }) ∘ ttab 3 1 ∘ onC 5 [fr 3 (fun f =>
    { f with memfed := true, items := 2 })])
def s7 : State := J (fun d => { d with staged := [(unitBase .pipe 1, BitVec.ofNat 32 (2^31 + 2 * 65536 + 1000)), (unitBase .pipe 1 + 0x104, 0x10000105#32)] })
def s8 : State := J (stg 3)
def s9 : State := J (P 1 (fun x => { x with running := true, slot := some 0, stripe := true, late := true }) ∘ ttab 3 1)
def s10 : State := J (P 1 (fun x => { x with running := true, slot := some 0, due := some 1, stripe := true, late := true, inlineClk := 500, busyClk := 700 }) ∘ ttab
    3 1)
def s11 : State := J (P 1 (fun x => { x with running := true, slot := some 0 }) ∘ ttab 3 1)
def s12 : State := J (P 1 (fun x =>
    { x with running := true, slot := some 0, active := some 5, ahead := some { slot := 1, ctx := 5, seq := 9, row := 0, endedThen := true, same := true, restored := true } })
    ∘ toll ∘ slot1 ∘ ttab 3 1 ∘ onC 5 [mf 1])
def s13 : State := J (P 1 (fun x =>
    { x with running := true, slot := some 0, active := some 3, ahead := some { slot := 1, ctx := 5, seq := 9, row := 0, endedThen := true, restored := true } })
    ∘ toll ∘ slot1 ∘ ttab 3 1 ∘ onC 5 [mf 1])
def s14 : State := J (P 1 (fun x =>
    { x with running := true, slot := some 0, active := some 3, ahead := some { slot := 1, ctx := 5, seq := 9, row := 0, endedThen := true } }) ∘ toll
    ∘ slot1 ∘ ttab 3 1 ∘ onC 5 [mf 1])
def s15 : State := J (P 1 (fun x => { x with swap := .swapping }))
def s16 : State := J (toll ∘ P 1 (fun x => { x with swap := .waitRestore, ahead := some { slot := 1, ctx := 5, seq := 3, row := 0, endedThen := false } }))
def s17 : State := J (toll ∘ P 1 (fun x => { x with swap := .none, ahead := some { slot := 1, ctx := 5, seq := 3, row := 0, endedThen := false } }))
def s18 : State := J ((fun d => { d with badLines := [panBase + 0x123000 + 0x2000] }) ∘ (fun d => poke d (panBase + 0x123000) [9,0,0,0,2,0]) ∘ toll ∘ P 1 (fun x =>
    { x with swap := .waitRestore, ahead := some { slot := 1, ctx := 5, seq := 9, row := 0, endedThen := false } }) ∘ onC 5 [fr 3 (fun f =>
    { f with memfed := true, items := 3, pipe := 1 })] (fun x => { x with saved := true }))
def s19 : State := J ((fun d => { d with badLines := [panBase] }) ∘ toll ∘ P 1 (fun x => { x with saving := [5] }))
def s20 : State := J (fun d => put d .power 0 0x20 0#32)
def s21 : State := J ((fun d => put d .toll 0 0x104 1#32) ∘ toll ∘ fun d => { d with softLines := [panBase + 64, panBase] })
def s22 : State := J (toll ∘ fun d =>
    { d with badLines := [panBase], panReqs := [{ drover := 0, addr := panBase + 8, width := 4, write := false, void := true }, { drover := 3, addr := panBase + 9, width := 1, write := true, void := true, half := true }] })
def s23 : State := J (toll ∘ fun d =>
    { (drvl 0 (panBase + 8) 4 d) with badLines := [panBase], panReqs := [{ drover := 0, addr := panBase + 8, width := 4, write := false }, { drover := 3, addr := panBase + 9, width := 1, write := true, half := true }] })
def s24 : State := J (toll ∘ fun d =>
    { (drvl 0 (panBase + 8) 4 (poke d (panBase + 8) [1,2,3,4])) with panReqs := [{ drover := 0, addr := panBase + 8, width := 4, write := false }] })
def s25 : State := J (toll ∘ fun d =>
    { (drvl 0 (panBase + 8) 4 (poke d (panBase + 8) [1,2,3,4])) with panReqs := [{ drover := 2, addr := panBase + 0x10009, width := 1, write := true, data := 0x12345678#32 }, { drover := 0, addr := panBase + 10, width := 2, write := true, data := 0x12345678#32, half := true }, { drover := 1, addr := panBase + 10, width := 2, write := true, data := 0x12345678#32, half := false }] })
def s26 : State := J (onC 5 [fr 3 (zf2 0x80000005#32)] (fun x => { x with harvBusy := [1] }) ∘ toll)
def s27 : State := J (onC 5 [fr 3 (zf2 0x80002F07#32)] ∘ toll)
def s28 : State := J ((fun d => { d with badLines := [panBase + 0x128000] }) ∘ onC 5 [fr 3 (zf2 0x80002F07#32)] ∘ toll)
def s29 : State := J (toll ∘ V 31 (vw0 3 4 0x1FFF 3 1) ∘ onC 5 [vf])
def s30 : State := J (toll ∘ V 31 (vw0 3 4 0x1FFF 2 1) ∘ onC 5 [vf])
def s31 : State := shedSt id
def s32 : State := J (fun d => put (put d .tap 0 0x40 0x00070500#32) .tap 0 0x48 0x00001004#32) .ready
def s33 : State := J (fun d => { d with taps := vmod d.taps 1 (fun x => { x with active := true, armed := true }) }) .ready
def s34 : State := J (fun d => { d with taps := vmod d.taps 1 (fun x => { x with active := true, armed := true, frame := some 9 }) }) .ready

theorem witness_PipesRunRowsStripesAndSlots :
    (∃ (s : State) (p : Fin 4), UnitsOn s ∧ s.sys.mode ≠ .idle ∧ inlineReady s.dev p = none) ∧
    (∃ (s : State) (p : Fin 4) (c : _) (q : _), UnitsOn s ∧ s.sys.mode ≠ .idle ∧ inlineReady s.dev p = some (c, q) ∧ (vget s.dev.pipes p).row = none) ∧
    (∃ (s : State) (p : Fin 4) (c : _) (q : _) (j : _), UnitsOn s ∧ s.sys.mode ≠ .idle ∧ inlineReady s.dev p = some (c, q) ∧
     (vget s.dev.pipes p).row = some j ∧ j.inline = true) ∧
    (∃ (s : State) (p : Fin 4) (c : _) (q : _) (j : _), UnitsOn s ∧ s.sys.mode ≠ .idle ∧ inlineReady s.dev p = some (c, q) ∧
     (vget s.dev.pipes p).row = some j ∧ j.inline = false) ∧
    (∃ (s : State) (p : Fin 4) (j : _) (f : _) (a : _), UnitsOn s ∧ s.sys.mode ≠ .idle ∧ (vget s.dev.pipes p).row = some j ∧ j.ctx < 16 ∧
     (if j.inline then oldestI s.dev p j.ctx else oldestM s.dev j.ctx) = some f ∧
     (framesOf s.dev j.ctx).find? (fun x => decide (x.seq = f.seq)) = some f ∧ f.ended = false ∧ (∀ k : Fin 4, (vget s.dev.taps k).active = true →
     a < panBase + fld (tapReg s.dev k 8) 24 12 * 0x1000 ∨ panBase + (fld (tapReg s.dev k 8) 24 12 + fld (tapReg s.dev k 8) 8 0) * 0x1000 ≤ a)) ∧
    (∃ (s : State) (p : Fin 4) (f : _), UnitsOn s ∧ s.sys.mode ≠ .idle ∧ (vget s.dev.pipes p).stripe = true ∧
     oldestM s.dev (vget s.dev.pipes p).slotCtx = some f ∧ f.items < (vget s.dev.pipes p).stripeEnd) ∧
    (∃ (s : State) (p : Fin 4) (f : _) (k : Fin 64), UnitsOn s ∧ s.sys.mode ≠ .idle ∧ (vget s.dev.pipes p).stripe = true ∧
     oldestM s.dev (vget s.dev.pipes p).slotCtx = some f ∧ (vget s.dev.pipes p).stripeEnd ≤ f.items ∧ (vget s.dev.pipes p).due = none ∧
     (vget s.dev.pipes p).slot = some k.val ∧ (vget s.dev.pipes p).slotCtx < 16 ∧ (vget s.dev.pipes p).swap = .none ∧
     getF s.dev .pipe p (0x100 + 4 * k) 13 8 ≤ (vget s.dev.pipes p).started) ∧
    (∃ (s : State) (p : Fin 4) (clk : Nat), UnitsOn s ∧ s.sys.mode ≠ .idle ∧
     clk = max 1 (getF s.dev .pipe p 0 11 0 * (if (vget s.dev.pipes p).clock = 3 then 800 else 1200)) ∧
     stagedIn s.dev (unitBase .pipe p) 0x2000 = [] ∧ (vget s.dev.pipes p).running = true) ∧
    (∃ (s : State) (p : Fin 4) (clk : Nat), UnitsOn s ∧ s.sys.mode ≠ .idle ∧
     clk = max 1 (getF s.dev .pipe p 0 11 0 * (if (vget s.dev.pipes p).clock = 3 then 800 else 1200)) ∧
     stagedIn s.dev (unitBase .pipe p) 0x2000 = [] ∧ (vget s.dev.pipes p).running = false) ∧
    (∃ (s : State) (p : Fin 4) (clk : Nat), UnitsOn s ∧ s.sys.mode ≠ .idle ∧
     clk = max 1 (getF s.dev .pipe p 0 11 0 * (if (vget s.dev.pipes p).clock = 3 then 800 else 1200)) ∧
     stagedIn s.dev (unitBase .pipe p) 0x2000 = [] ∧ getB s.dev .pipe p 0 31 = true) ∧
    (∃ (s : State) (p : Fin 4) (clk : Nat), UnitsOn s ∧ s.sys.mode ≠ .idle ∧
     clk = max 1 (getF s.dev .pipe p 0 11 0 * (if (vget s.dev.pipes p).clock = 3 then 800 else 1200)) ∧
     stagedIn s.dev (unitBase .pipe p) 0x2000 = [] ∧ (vget s.dev.pipes p).due = none) ∧
    (∃ (s : State) (p : Fin 4) (clk : Nat), UnitsOn s ∧ s.sys.mode ≠ .idle ∧
     clk = max 1 (getF s.dev .pipe p 0 11 0 * (if (vget s.dev.pipes p).clock = 3 then 800 else 1200)) ∧
     stagedIn s.dev (unitBase .pipe p) 0x2000 = [] ∧ (vget s.dev.pipes p).due ≠ none) ∧
    (∃ (s : State) (p : Fin 4) (clk : Nat) (k : _), UnitsOn s ∧ s.sys.mode ≠ .idle ∧
     clk = max 1 (getF s.dev .pipe p 0 11 0 * (if (vget s.dev.pipes p).clock = 3 then 800 else 1200)) ∧
     stagedIn s.dev (unitBase .pipe p) 0x2000 ≠ [] ∧ getB s.dev .pipe p 4 0 = false ∧ ttOk s.dev p = true ∧ k < 64) ∧
    (∃ (s : State) (p : Fin 4) (clk : Nat), UnitsOn s ∧ s.sys.mode ≠ .idle ∧
     clk = max 1 (getF s.dev .pipe p 0 11 0 * (if (vget s.dev.pipes p).clock = 3 then 800 else 1200)) ∧
     stagedIn s.dev (unitBase .pipe p) 0x2000 ≠ [] ∧ getB s.dev .pipe p 4 0 = false ∧ ttOk s.dev p = false) ∧
    (∃ (s : State) (p : Fin 4) (clk : Nat) (k : _), UnitsOn s ∧ s.sys.mode ≠ .idle ∧
     clk = max 1 (getF s.dev .pipe p 0 11 0 * (if (vget s.dev.pipes p).clock = 3 then 800 else 1200)) ∧ (vget s.dev.pipes p).running = true ∧
     (vget s.dev.pipes p).stripe = true ∧ (vget s.dev.pipes p).due = none ∧ k = nextSlot (vget s.dev.pipes p) ∧ k < ttCount s.dev p ∧
     (vget s.dev.pipes p).late = true) ∧
    (∃ (s : State) (p : Fin 4) (clk : Nat) (k : _), UnitsOn s ∧ s.sys.mode ≠ .idle ∧
     clk = max 1 (getF s.dev .pipe p 0 11 0 * (if (vget s.dev.pipes p).clock = 3 then 800 else 1200)) ∧ (vget s.dev.pipes p).running = true ∧
     (vget s.dev.pipes p).stripe = true ∧ (vget s.dev.pipes p).due = none ∧ k = nextSlot (vget s.dev.pipes p) ∧ k < ttCount s.dev p ∧
     (vget s.dev.pipes p).late = false) ∧
    (∃ (s : State) (p : Fin 4) (clk : Nat) (j : _), UnitsOn s ∧ s.sys.mode ≠ .idle ∧
     clk = max 1 (getF s.dev .pipe p 0 11 0 * (if (vget s.dev.pipes p).clock = 3 then 800 else 1200)) ∧ (vget s.dev.pipes p).running = true ∧
     (vget s.dev.pipes p).stripe = true ∧ (vget s.dev.pipes p).late = true ∧ (vget s.dev.pipes p).due = some j ∧ j + 1 < ttCount s.dev p) ∧
    (∃ (s : State) (p : Fin 4) (clk : Nat) (k : _) (c : _), UnitsOn s ∧ s.sys.mode ≠ .idle ∧
     clk = max 1 (getF s.dev .pipe p 0 11 0 * (if (vget s.dev.pipes p).clock = 3 then 800 else 1200)) ∧ (vget s.dev.pipes p).running = true ∧
     (vget s.dev.pipes p).stripe = false ∧ (vget s.dev.pipes p).due = none ∧ k = nextSlot (vget s.dev.pipes p) ∧ k < ttCount s.dev p ∧
     c = getF s.dev .pipe p (0x100 + 4 * k) 3 0 ∧ (slotIdles s.dev p k = true ∨ (vget s.dev.pipes p).ahead = none ∨
     (∃ a, (vget s.dev.pipes p).ahead = some a ∧ (a.slot ≠ k ∨ a.ctx ≠ c ∨ aheadHolds s.dev a = false)))) ∧
    (∃ (s : State) (p : Fin 4) (clk : Nat) (k : _) (c : _) (a : _), UnitsOn s ∧ s.sys.mode ≠ .idle ∧
     clk = max 1 (getF s.dev .pipe p 0 11 0 * (if (vget s.dev.pipes p).clock = 3 then 800 else 1200)) ∧ (vget s.dev.pipes p).running = true ∧
     (vget s.dev.pipes p).stripe = false ∧ (vget s.dev.pipes p).due = none ∧ k = nextSlot (vget s.dev.pipes p) ∧ k < ttCount s.dev p ∧
     c = getF s.dev .pipe p (0x100 + 4 * k) 3 0 ∧ (vget s.dev.pipes p).ahead = some a ∧ slotIdles s.dev p k = false ∧ a.slot = k ∧ a.ctx = c ∧
     aheadHolds s.dev a = true ∧ a.same = true ∧ (vget s.dev.pipes p).active = some c) ∧
    (∃ (s : State) (p : Fin 4) (clk : Nat) (k : _) (c : _) (a : _), UnitsOn s ∧ s.sys.mode ≠ .idle ∧
     clk = max 1 (getF s.dev .pipe p 0 11 0 * (if (vget s.dev.pipes p).clock = 3 then 800 else 1200)) ∧ (vget s.dev.pipes p).running = true ∧
     (vget s.dev.pipes p).stripe = false ∧ (vget s.dev.pipes p).due = none ∧ k = nextSlot (vget s.dev.pipes p) ∧ k < ttCount s.dev p ∧
     c = getF s.dev .pipe p (0x100 + 4 * k) 3 0 ∧ (vget s.dev.pipes p).ahead = some a ∧ slotIdles s.dev p k = false ∧ a.slot = k ∧ a.ctx = c ∧
     aheadHolds s.dev a = true ∧ a.same = false ∧ ownerServed s.dev (0x14 + p) = true ∧ a.restored = true) ∧
    (∃ (s : State) (p : Fin 4) (clk : Nat) (k : _) (c : _) (a : _), UnitsOn s ∧ s.sys.mode ≠ .idle ∧
     clk = max 1 (getF s.dev .pipe p 0 11 0 * (if (vget s.dev.pipes p).clock = 3 then 800 else 1200)) ∧ (vget s.dev.pipes p).running = true ∧
     (vget s.dev.pipes p).stripe = false ∧ (vget s.dev.pipes p).due = none ∧ k = nextSlot (vget s.dev.pipes p) ∧ k < ttCount s.dev p ∧
     c = getF s.dev .pipe p (0x100 + 4 * k) 3 0 ∧ (vget s.dev.pipes p).ahead = some a ∧ slotIdles s.dev p k = false ∧ a.slot = k ∧ a.ctx = c ∧
     aheadHolds s.dev a = true ∧ a.same = false ∧ ownerServed s.dev (0x14 + p) = true ∧ a.restored = false) ∧
    (∃ (s : State) (p : Fin 4) (clk : Nat), UnitsOn s ∧ s.sys.mode ≠ .idle ∧
     clk = max 1 (getF s.dev .pipe p 0 11 0 * (if (vget s.dev.pipes p).clock = 3 then 800 else 1200)) ∧ (vget s.dev.pipes p).swap ≠ .swapping) ∧
    (∃ (s : State) (p : Fin 4) (clk : Nat), UnitsOn s ∧ s.sys.mode ≠ .idle ∧
     clk = max 1 (getF s.dev .pipe p 0 11 0 * (if (vget s.dev.pipes p).clock = 3 then 800 else 1200)) ∧ (vget s.dev.pipes p).swap = .swapping) ∧
    (∃ (s : State) (p : Fin 4) (clk : Nat) (a : _) (base : _), UnitsOn s ∧ s.sys.mode ≠ .idle ∧
     clk = max 1 (getF s.dev .pipe p 0 11 0 * (if (vget s.dev.pipes p).clock = 3 then 800 else 1200)) ∧ (vget s.dev.pipes p).ahead = some a ∧
     a.restored = false ∧ ownerServed s.dev (0x14 + p) = true ∧ (vget s.dev.pipes p).saving = [] ∧
     base = panBase + getF s.dev .ctx a.ctx 0x748 24 12 * 0x1000 ∧ s.dev.badLines = [] ∧ framesOf s.dev a.ctx = [] ∧
     (vget s.dev.ctxs a.ctx).saved = false ∧ (vget s.dev.pipes p).swap = .waitRestore) ∧
    (∃ (s : State) (p : Fin 4) (clk : Nat) (a : _) (base : _), UnitsOn s ∧ s.sys.mode ≠ .idle ∧
     clk = max 1 (getF s.dev .pipe p 0 11 0 * (if (vget s.dev.pipes p).clock = 3 then 800 else 1200)) ∧ (vget s.dev.pipes p).ahead = some a ∧
     a.restored = false ∧ ownerServed s.dev (0x14 + p) = true ∧ (vget s.dev.pipes p).saving = [] ∧
     base = panBase + getF s.dev .ctx a.ctx 0x748 24 12 * 0x1000 ∧ s.dev.badLines = [] ∧ framesOf s.dev a.ctx = [] ∧
     (vget s.dev.ctxs a.ctx).saved = false ∧ (vget s.dev.pipes p).swap ≠ .waitRestore) ∧
    (∃ (s : State) (p : Fin 4) (clk : Nat) (a : _) (base : _) (f : _), UnitsOn s ∧ s.sys.mode ≠ .idle ∧
     clk = max 1 (getF s.dev .pipe p 0 11 0 * (if (vget s.dev.pipes p).clock = 3 then 800 else 1200)) ∧ (vget s.dev.pipes p).ahead = some a ∧
     a.restored = false ∧ ownerServed s.dev (0x14 + p) = true ∧ (vget s.dev.pipes p).saving = [] ∧
     base = panBase + getF s.dev .ctx a.ctx 0x748 24 12 * 0x1000 ∧ a.ctx < 16 ∧
     (framesOf s.dev a.ctx).find? (fun x => decide (x.seq = a.seq)) = some f ∧ (vget s.dev.ctxs a.ctx).saved = true ∧
     (∀ l ∈ s.dev.badLines, l + 64 ≤ base ∨ base + 64 ≤ l) ∧ (∃ l ∈ s.dev.badLines, base ≤ l ∧
     l < base + wsSize (profileEff s.dev) (getF s.dev .ctx a.ctx 4 13 0))) ∧
    (∃ (s : State) (p : Fin 4) (clk : Nat) (c : _) (rest : _) (w : _), UnitsOn s ∧ s.sys.mode ≠ .idle ∧
     clk = max 1 (getF s.dev .pipe p 0 11 0 * (if (vget s.dev.pipes p).clock = 3 then 800 else 1200)) ∧ (vget s.dev.pipes p).saving = c :: rest ∧
     w = getF s.dev .ctx c 0x748 24 12 * 0x1000 ∧ ownerServed s.dev (0x14 + p) = true ∧ c < 16) ∧
    (∃ (s : State) (p : Fin 4) (clk : Nat) (c : _) (rest : _) (w : _) (b : _), UnitsOn s ∧ s.sys.mode ≠ .idle ∧
     clk = max 1 (getF s.dev .pipe p 0 11 0 * (if (vget s.dev.pipes p).clock = 3 then 800 else 1200)) ∧ (vget s.dev.pipes p).saving = c :: rest ∧
     w = getF s.dev .ctx c 0x748 24 12 * 0x1000 ∧ ownerServed s.dev (0x14 + p) = true ∧ (b < panBase + w ∨
     panBase + w + wsSize (profileEff s.dev) (getF s.dev .ctx c 4 13 0) ≤ b)) :=
  ⟨⟨J, 0, by decide +kernel⟩,
   ⟨s1, 1, ((inlineReady s1.dev 1).get (by decide +kernel)).1, ((inlineReady s1.dev 1).get (by decide +kernel)).2, by decide +kernel⟩,
   ⟨s2, 1, ((inlineReady s2.dev 1).get (by decide +kernel)).1, ((inlineReady s2.dev 1).get (by decide +kernel)).2, ((vget s2.dev.pipes 1).row).get
   (by decide +kernel), by decide +kernel⟩,
   ⟨s3, 1, ((inlineReady s3.dev 1).get (by decide +kernel)).1, ((inlineReady s3.dev 1).get (by decide +kernel)).2, ((vget s3.dev.pipes 1).row).get
   (by decide +kernel), by decide +kernel⟩,
   ⟨s2, 1, ((vget s2.dev.pipes 1).row).get (by decide +kernel), ((if (((vget s2.dev.pipes 1).row).get (by decide +kernel)).inline then oldestI s2.dev
   1 (((vget s2.dev.pipes 1).row).get (by decide +kernel)).ctx else oldestM s2.dev (((vget s2.dev.pipes 1).row).get (by decide +kernel)).ctx)).get
   (by decide +kernel), 0, by decide +kernel⟩,
   ⟨s4, 1, (oldestM s4.dev (vget s4.dev.pipes 1).slotCtx).get (by decide +kernel), by decide +kernel⟩,
   ⟨s5, 1, (oldestM s5.dev 5).get (by decide +kernel), 0, by decide +kernel⟩,
   ⟨s4, 1, max 1 (getF s4.dev .pipe 1 0 11 0 * (if (vget s4.dev.pipes 1).clock = 3 then 800 else 1200)), by decide +kernel⟩,
   ⟨J, 0, max 1 (getF J.dev .pipe 0 0 11 0 * (if (vget J.dev.pipes 0).clock = 3 then 800 else 1200)), by decide +kernel⟩,
   ⟨s6, 1, max 1 (getF s6.dev .pipe 1 0 11 0 * (if (vget s6.dev.pipes 1).clock = 3 then 800 else 1200)), by decide +kernel⟩,
   ⟨J, 0, max 1 (getF J.dev .pipe 0 0 11 0 * (if (vget J.dev.pipes 0).clock = 3 then 800 else 1200)), by decide +kernel⟩,
   ⟨s4, 1, max 1 (getF s4.dev .pipe 1 0 11 0 * (if (vget s4.dev.pipes 1).clock = 3 then 800 else 1200)), by decide +kernel⟩,
   ⟨s7, 1, max 1 (getF s7.dev .pipe 1 0 11 0 * (if (vget s7.dev.pipes 1).clock = 3 then 800 else 1200)), 0, by decide +kernel⟩,
   ⟨s8, 1, max 1 (getF s8.dev .pipe 1 0 11 0 * (if (vget s8.dev.pipes 1).clock = 3 then 800 else 1200)), by decide +kernel⟩,
   ⟨s9, 1, max 1 (getF s9.dev .pipe 1 0 11 0 * (if (vget s9.dev.pipes 1).clock = 3 then 800 else 1200)), nextSlot (vget s9.dev.pipes 1),
   by decide +kernel⟩,
   ⟨s6, 1, max 1 (getF s6.dev .pipe 1 0 11 0 * (if (vget s6.dev.pipes 1).clock = 3 then 800 else 1200)), nextSlot (vget s6.dev.pipes 1),
   by decide +kernel⟩,
   ⟨s10, 1, max 1 (getF s10.dev .pipe 1 0 11 0 * (if (vget s10.dev.pipes 1).clock = 3 then 800 else 1200)), ((vget s10.dev.pipes 1).due).get
   (by decide +kernel), by decide +kernel⟩,
   ⟨s11, 1, max 1 (getF s11.dev .pipe 1 0 11 0 * (if (vget s11.dev.pipes 1).clock = 3 then 800 else 1200)), nextSlot (vget s11.dev.pipes 1), getF
   s11.dev .pipe 1 (0x100 + 4 * (nextSlot (vget s11.dev.pipes 1))) 3 0, by decide +kernel⟩,
   ⟨s12, 1, max 1 (getF s12.dev .pipe 1 0 11 0 * (if (vget s12.dev.pipes 1).clock = 3 then 800 else 1200)), nextSlot (vget s12.dev.pipes 1), getF
   s12.dev .pipe 1 (0x100 + 4 * (nextSlot (vget s12.dev.pipes 1))) 3 0, ((vget s12.dev.pipes 1).ahead).get (by decide +kernel), by decide +kernel⟩,
   ⟨s13, 1, max 1 (getF s13.dev .pipe 1 0 11 0 * (if (vget s13.dev.pipes 1).clock = 3 then 800 else 1200)), nextSlot (vget s13.dev.pipes 1), getF
   s13.dev .pipe 1 (0x100 + 4 * (nextSlot (vget s13.dev.pipes 1))) 3 0, ((vget s13.dev.pipes 1).ahead).get (by decide +kernel), by decide +kernel⟩,
   ⟨s14, 1, max 1 (getF s14.dev .pipe 1 0 11 0 * (if (vget s14.dev.pipes 1).clock = 3 then 800 else 1200)), nextSlot (vget s14.dev.pipes 1), getF
   s14.dev .pipe 1 (0x100 + 4 * (nextSlot (vget s14.dev.pipes 1))) 3 0, ((vget s14.dev.pipes 1).ahead).get (by decide +kernel), by decide +kernel⟩,
   ⟨J, 0, max 1 (getF J.dev .pipe 0 0 11 0 * (if (vget J.dev.pipes 0).clock = 3 then 800 else 1200)), by decide +kernel⟩,
   ⟨s15, 1, max 1 (getF s15.dev .pipe 1 0 11 0 * (if (vget s15.dev.pipes 1).clock = 3 then 800 else 1200)), by decide +kernel⟩,
   ⟨s16, 1, max 1 (getF s16.dev .pipe 1 0 11 0 * (if (vget s16.dev.pipes 1).clock = 3 then 800 else 1200)), ((vget s16.dev.pipes 1).ahead).get
   (by decide +kernel), panBase + getF s16.dev .ctx (((vget s16.dev.pipes 1).ahead).get (by decide +kernel)).ctx 0x748 24 12 * 0x1000,
   by decide +kernel⟩,
   ⟨s17, 1, max 1 (getF s17.dev .pipe 1 0 11 0 * (if (vget s17.dev.pipes 1).clock = 3 then 800 else 1200)), ((vget s17.dev.pipes 1).ahead).get
   (by decide +kernel), panBase + getF s17.dev .ctx (((vget s17.dev.pipes 1).ahead).get (by decide +kernel)).ctx 0x748 24 12 * 0x1000,
   by decide +kernel⟩,
   ⟨s18, 1, max 1 (getF s18.dev .pipe 1 0 11 0 * (if (vget s18.dev.pipes 1).clock = 3 then 800 else 1200)), ((vget s18.dev.pipes 1).ahead).get
   (by decide +kernel), panBase + getF s18.dev .ctx (((vget s18.dev.pipes 1).ahead).get (by decide +kernel)).ctx 0x748 24 12 * 0x1000, ((framesOf
   s18.dev (((vget s18.dev.pipes 1).ahead).get (by decide +kernel)).ctx).find? (fun x => decide (x.seq = (((vget s18.dev.pipes 1).ahead).get
   (by decide +kernel)).seq))).get (by decide +kernel), by decide +kernel⟩,
   ⟨s19, 1, max 1 (getF s19.dev .pipe 1 0 11 0 * (if (vget s19.dev.pipes 1).clock = 3 then 800 else 1200)), ((vget s19.dev.pipes 1).saving).head
   (by decide +kernel), ((vget s19.dev.pipes 1).saving).tail, getF s19.dev .ctx (((vget s19.dev.pipes 1).saving).head (by decide +kernel)) 0x748 24 12
   * 0x1000, by decide +kernel⟩,
   ⟨s19, 1, max 1 (getF s19.dev .pipe 1 0 11 0 * (if (vget s19.dev.pipes 1).clock = 3 then 800 else 1200)), ((vget s19.dev.pipes 1).saving).head
   (by decide +kernel), ((vget s19.dev.pipes 1).saving).tail, getF s19.dev .ctx (((vget s19.dev.pipes 1).saving).head (by decide +kernel)) 0x748 24 12
   * 0x1000, 0, by decide +kernel⟩⟩
theorem witness_TollVisitsAndScrubbing :
    (∃ (s : State) (b : Fin 8) (k : Nat) (o : Nat), UnitsOn s ∧ o = getF s.dev .toll 0 (0x100 + 4 * ((k + 128 - 4 * b) % 32)) 5 0 ∧
     bankOn s.dev b = false) ∧
    (∃ (s : State) (b : Fin 8) (k : Nat) (o : Nat) (l : _), UnitsOn s ∧ o = getF s.dev .toll 0 (0x100 + 4 * ((k + 128 - 4 * b) % 32)) 5 0 ∧
     bankOn s.dev b = true ∧ o = 1 ∧ s.dev.softLines.find? (fun l => decide ((l - panBase) / 64 % 8 = b.val)) = some l ∧ badAt s.dev l = false) ∧
    (∃ (s : State) (b : Fin 8) (k : Nat) (o : Nat) (n : Fin 524288) (a : _), UnitsOn s ∧
     o = getF s.dev .toll 0 (0x100 + 4 * ((k + 128 - 4 * b) % 32)) 5 0 ∧ bankOn s.dev b = true ∧ ((o = 1 ∧
     ∀ l ∈ s.dev.softLines, (l - panBase) / 64 % 8 ≠ b.val) ∨ (o = 4 ∧ visitReq s.dev o b = none) ∨ ((o ∈ [2, 3] ∨ (8 ≤ o ∧ o ≤ 0x1E)) ∧
     ownerUnitFenced s.dev o = false)) ∧ a = (if n.val % 8 = b then 0x200 + 4 * o else 0x200)) ∧
    (∃ (s : State) (b : Fin 8) (k : Nat) (o : Nat) (n : Fin 524288), UnitsOn s ∧ o = getF s.dev .toll 0 (0x100 + 4 * ((k + 128 - 4 * b) % 32)) 5 0 ∧
     bankOn s.dev b = true ∧ ((o = 1 ∧ ∀ l ∈ s.dev.softLines, (l - panBase) / 64 % 8 ≠ b.val) ∨ (o = 4 ∧ visitReq s.dev o b = none) ∨ ((o ∈ [2, 3] ∨
     (8 ≤ o ∧ o ≤ 0x1E)) ∧ ownerUnitFenced s.dev o = false)) ∧ n.val % 8 = b ∧ badAt s.dev (panBase + 64 * n) = false) ∧
    (∃ (s : State) (b : Fin 8) (k : Nat) (o : Nat), UnitsOn s ∧ o = getF s.dev .toll 0 (0x100 + 4 * ((k + 128 - 4 * b) % 32)) 5 0 ∧
     bankOn s.dev b = true ∧ ((o = 5 ∧ visitReq s.dev o b = none) ∨ o ∈ [0, 6, 7] ∨ 0x1F ≤ o ∨ (o ∈ [2, 3] ∨ (8 ≤ o ∧ o ≤ 0x1E)) ∧
     ownerUnitFenced s.dev o = true)) ∧
    (∃ (s : State) (b : Fin 8) (k : Nat) (o : Nat) (i : _) (r : _), UnitsOn s ∧ o = getF s.dev .toll 0 (0x100 + 4 * ((k + 128 - 4 * b) % 32)) 5 0 ∧
     bankOn s.dev b = true ∧ o ∈ [4, 5] ∧ visitReq s.dev o b = some i ∧ s.dev.panReqs[i]? = some r ∧ r.drover < 4 ∧ r.void = true) ∧
    (∃ (s : State) (b : Fin 8) (k : Nat) (o : Nat) (i : _) (r : _), UnitsOn s ∧ o = getF s.dev .toll 0 (0x100 + 4 * ((k + 128 - 4 * b) % 32)) 5 0 ∧
     bankOn s.dev b = true ∧ o ∈ [4, 5] ∧ visitReq s.dev o b = some i ∧ s.dev.panReqs[i]? = some r ∧ r.drover < 4 ∧ r.void = false ∧
     badAt s.dev r.addr = true ∧ (r.write = false ∨ r.half = false) ∧ r.write = false) ∧
    (∃ (s : State) (b : Fin 8) (k : Nat) (o : Nat) (i : _) (r : _), UnitsOn s ∧ o = getF s.dev .toll 0 (0x100 + 4 * ((k + 128 - 4 * b) % 32)) 5 0 ∧
     bankOn s.dev b = true ∧ o ∈ [4, 5] ∧ visitReq s.dev o b = some i ∧ s.dev.panReqs[i]? = some r ∧ badAt s.dev r.addr = false ∧ r.void = false ∧
     r.drover < 4 ∧ (r.write = false ∨ r.half = false)) ∧
    (∃ (s : State) (b : Fin 8) (k : Nat) (o : Nat) (i : _) (r : _), UnitsOn s ∧ o = getF s.dev .toll 0 (0x100 + 4 * ((k + 128 - 4 * b) % 32)) 5 0 ∧
     bankOn s.dev b = true ∧ o ∈ [4, 5] ∧ visitReq s.dev o b = some i ∧ s.dev.panReqs[i]? = some r ∧ badAt s.dev r.addr = false ∧ r.void = false ∧
     r.drover < 4 ∧ r.write = false) ∧
    (∃ (s : State) (b : Fin 8) (k : Nat) (o : Nat) (i : _) (r : _), UnitsOn s ∧ o = getF s.dev .toll 0 (0x100 + 4 * ((k + 128 - 4 * b) % 32)) 5 0 ∧
     bankOn s.dev b = true ∧ o ∈ [4, 5] ∧ visitReq s.dev o b = some i ∧ s.dev.panReqs[i]? = some r ∧ badAt s.dev r.addr = false ∧ r.void = false ∧
     r.drover < 4 ∧ r.write = true ∧ r.half = false) ∧
    (∃ (s : State) (b : Fin 8) (k : Nat) (o : Nat) (i : _) (r : _) (j : _), UnitsOn s ∧
     o = getF s.dev .toll 0 (0x100 + 4 * ((k + 128 - 4 * b) % 32)) 5 0 ∧ bankOn s.dev b = true ∧ o ∈ [4, 5] ∧ visitReq s.dev o b = some i ∧
     s.dev.panReqs[i]? = some r ∧ badAt s.dev r.addr = false ∧ r.void = false ∧ r.drover < 4 ∧ r.write = true ∧ r.half = true ∧ j < r.width) ∧
    (∃ (s : State) (b : Fin 8) (k : Nat) (o : Nat) (i : _) (r : _) (q : _), UnitsOn s ∧
     o = getF s.dev .toll 0 (0x100 + 4 * ((k + 128 - 4 * b) % 32)) 5 0 ∧ bankOn s.dev b = true ∧ o ∈ [4, 5] ∧ visitReq s.dev o b = some i ∧
     s.dev.panReqs[i]? = some r ∧ badAt s.dev r.addr = false ∧ r.void = false ∧ r.drover < 4 ∧ r.write = true ∧ r.half = true ∧ (q < r.addr ∨
     r.addr + r.width ≤ q)) ∧
    (∃ (s : State) (b : Fin 8) (k : Nat) (o : Nat) (n : Fin 524288), UnitsOn s ∧ o = getF s.dev .toll 0 (0x100 + 4 * ((k + 128 - 4 * b) % 32)) 5 0 ∧
     bankOn s.dev (n.val % 8) = true ∧ badAt s.dev (panBase + 64 * n.val) = false) ∧
    (∃ (s : State) (b : Fin 8) (k : Nat) (o : Nat) (n : Fin 524288), UnitsOn s ∧ o = getF s.dev .toll 0 (0x100 + 4 * ((k + 128 - 4 * b) % 32)) 5 0 ∧
     bankOn s.dev (n.val % 8) = true ∧ panBase + 64 * n.val ∉ s.dev.badLines) :=
  ⟨⟨s20, 1, 0, getF s20.dev .toll 0 (0x100 + 4 * ((0 + 128 - 4 * 1) % 32)) 5 0, by decide +kernel⟩,
   ⟨s21, 0, 1, 1, panBase, by decide +kernel⟩,
   ⟨J, 0, 0, getF J.dev .toll 0 (0x100 + 4 * ((0 + 128 - 4 * 0) % 32)) 5 0, 0, (if 0 % 8 = 0 then 0x200 + 4 * (getF J.dev .toll 0 (0x100 + 4 * ((0 +
   128 - 4 * 0) % 32)) 5 0) else 0x200), by decide +kernel⟩,
   ⟨J, 0, 0, getF J.dev .toll 0 (0x100 + 4 * ((0 + 128 - 4 * 0) % 32)) 5 0, 0, by decide +kernel⟩,
   ⟨J, 0, 31, getF J.dev .toll 0 (0x100 + 4 * ((31 + 128 - 4 * 0) % 32)) 5 0, by decide +kernel⟩,
   ⟨s22, 0, 5, 4, (visitReq s22.dev 4 0).get (by decide +kernel), (s22.dev.panReqs[((visitReq s22.dev 4 0).get (by decide +kernel))]?).get
   (by decide +kernel), by decide +kernel⟩,
   ⟨s23, 0, 5, 4, (visitReq s23.dev 4 0).get (by decide +kernel), (s23.dev.panReqs[((visitReq s23.dev 4 0).get (by decide +kernel))]?).get
   (by decide +kernel), by decide +kernel⟩,
   ⟨s24, 0, 5, 4, (visitReq s24.dev 4 0).get (by decide +kernel), (s24.dev.panReqs[((visitReq s24.dev 4 0).get (by decide +kernel))]?).get
   (by decide +kernel), by decide +kernel⟩,
   ⟨s24, 0, 5, 4, (visitReq s24.dev 4 0).get (by decide +kernel), (s24.dev.panReqs[((visitReq s24.dev 4 0).get (by decide +kernel))]?).get
   (by decide +kernel), by decide +kernel⟩,
   ⟨s25, 0, 9, 5, (visitReq s25.dev 5 0).get (by decide +kernel), (s25.dev.panReqs[((visitReq s25.dev 5 0).get (by decide +kernel))]?).get
   (by decide +kernel), by decide +kernel⟩,
   ⟨s25, 0, 5, 4, (visitReq s25.dev 4 0).get (by decide +kernel), (s25.dev.panReqs[((visitReq s25.dev 4 0).get (by decide +kernel))]?).get
   (by decide +kernel), 0, by decide +kernel⟩,
   ⟨s25, 0, 5, 4, (visitReq s25.dev 4 0).get (by decide +kernel), (s25.dev.panReqs[((visitReq s25.dev 4 0).get (by decide +kernel))]?).get
   (by decide +kernel), 0, by decide +kernel⟩,
   ⟨J, 0, 0, getF J.dev .toll 0 (0x100 + 4 * ((0 + 128 - 4 * 0) % 32)) 5 0, 0, by decide +kernel⟩,
   ⟨J, 0, 0, getF J.dev .toll 0 (0x100 + 4 * ((0 + 128 - 4 * 0) % 32)) 5 0, 0, by decide +kernel⟩⟩
theorem witness_HarvestViewsAndTaps :
    (∃ (s : State) (c : Fin 16), UnitsOn s ∧ (framesOf s.dev c).find? recordDue = none) ∧
    (∃ (s : State) (c : Fin 16) (f : _), UnitsOn s ∧ (framesOf s.dev c).find? recordDue = some f ∧ harvestLive s.sys.mode s.dev = true ∧
     f.emit = true ∧ flag (pw f.params 0x600) 0 = true ∧ (vget s.dev.ctxs c).harvBusy.contains (f.seq % 2) = true) ∧
    (∃ (s : State) (c : Fin 16) (f : _) (off : _) (i : _), UnitsOn s ∧ (framesOf s.dev c).find? recordDue = some f ∧
     harvestLive s.sys.mode s.dev = true ∧ f.emit = true ∧ flag (pw f.params 0x600) 0 = true ∧
     (vget s.dev.ctxs c).harvBusy.contains (f.seq % 2) = false ∧ ownerServed s.dev 2 = true ∧ flag (pw f.params 0x600) 2 = true ∧
     off = fld (pw f.params 0x604) 24 16 * 0x10000 + f.seq % 2 * 0x8000 ∧ lineBad s.dev off = false ∧
     lineBad s.dev (off + (harvestRecord f 0).length) = false ∧ i < (harvestRecord f 0).length) ∧
    (∃ (s : State) (c : Fin 16) (f : _) (off : _) (i : _), UnitsOn s ∧ (framesOf s.dev c).find? recordDue = some f ∧
     harvestLive s.sys.mode s.dev = true ∧ f.emit = true ∧ flag (pw f.params 0x600) 0 = true ∧
     (vget s.dev.ctxs c).harvBusy.contains (f.seq % 2) = false ∧ ownerServed s.dev 2 = true ∧ flag (pw f.params 0x600) 2 = true ∧
     off = fld (pw f.params 0x604) 24 16 * 0x10000 + f.seq % 2 * 0x8000 ∧ lineBad s.dev off = true ∧ i < 64) ∧
    (∃ (s : State) (c : Fin 16) (f : _) (off : _) (a : _), UnitsOn s ∧ (framesOf s.dev c).find? recordDue = some f ∧
     harvestLive s.sys.mode s.dev = true ∧ f.emit = true ∧ flag (pw f.params 0x600) 0 = true ∧
     (vget s.dev.ctxs c).harvBusy.contains (f.seq % 2) = false ∧ ownerServed s.dev 2 = true ∧ flag (pw f.params 0x600) 2 = true ∧
     off = fld (pw f.params 0x604) 24 16 * 0x10000 + f.seq % 2 * 0x8000 ∧ (a < panBase + off ∨ panBase + off + (harvestRecord f 0).length ≤ a)) ∧
    (∃ (s : State) (v : Fin 32) (f : _), UnitsOn s ∧ (vget s.dev.views v).frameOpen = true ∧ viewLive s.dev v = true ∧
     (vget s.dev.views v).nexts = [] ∧ (framesOf s.dev (vget s.dev.views v).ctx).find? (fun f => decide (f.seq = (vget s.dev.views v).seq)) = some f ∧
     lineExists (vget s.dev.views v).params f (vget s.dev.views v).line = true ∧
     lineNeeds (vget s.dev.views v).params f (vget s.dev.views v).line < f.out.length ∧
     fld (vw (vget s.dev.views v).params 0x24) 7 0 ≤ (vget s.dev.views v).used) ∧
    (∃ (s : State) (v : Fin 32) (f : _), UnitsOn s ∧ (vget s.dev.views v).frameOpen = true ∧ viewLive s.dev v = true ∧
     (vget s.dev.views v).nexts = [] ∧ (framesOf s.dev (vget s.dev.views v).ctx).find? (fun f => decide (f.seq = (vget s.dev.views v).seq)) = some f ∧
     lineExists (vget s.dev.views v).params f (vget s.dev.views v).line = true ∧
     lineNeeds (vget s.dev.views v).params f (vget s.dev.views v).line < f.out.length ∧
     (vget s.dev.views v).used < fld (vw (vget s.dev.views v).params 0x24) 7 0 ∧ ownerServed s.dev (0x18 + v / 8) = true) ∧
    (∃ (s : State), UnitsOn s ∧ s.dev.power.shedding = false) ∧
    (∃ (s : State), UnitsOn s ∧ s.dev.power.shedding = true) ∧
    (∃ (s : State) (h : Fin 4) (m : Fin 7), TakesWrite s m .tap 0 (0x40 * h + 0xC) 1#32 ∧ tapMode s.sys.mode = true ∧ fld (tapReg s.dev h 0) 2 0 ≤ 5 ∧
     (2 ≤ fld (tapReg s.dev h 0) 2 0 ∨ fld (tapReg s.dev h 0) 13 12 ≤ getF s.dev .ctx (fld (tapReg s.dev h 0) 11 8) 0 9 8) ∧
     fld (tapReg s.dev h 8) 8 0 ≠ 0 ∧ (fld (tapReg s.dev h 8) 24 12 + fld (tapReg s.dev h 8) 8 0) * 0x1000 ≤ 0x2000000) ∧
    (∃ (s : State) (h : Fin 4) (m : Fin 7), TakesWrite s m .tap 0 (0x40 * h + 0xC) 1#32 ∧ (tapMode s.sys.mode = false ∨
     5 < fld (tapReg s.dev h 0) 2 0 ∨ (fld (tapReg s.dev h 0) 2 0 ≤ 1 ∧
     getF s.dev .ctx (fld (tapReg s.dev h 0) 11 8) 0 9 8 < fld (tapReg s.dev h 0) 13 12) ∨ fld (tapReg s.dev h 8) 8 0 = 0 ∨
     0x2000000 < (fld (tapReg s.dev h 8) 24 12 + fld (tapReg s.dev h 8) 8 0) * 0x1000)) ∧
    (∃ (s : State) (h : Fin 4) (m : Fin 7), TakesWrite s m .tap 0 (0x40 * h + 0xC) 2#32 ∧ (vget s.dev.taps h).active = false) ∧
    (∃ (s : State) (h : Fin 4) (m : Fin 7), TakesWrite s m .tap 0 (0x40 * h + 0xC) 2#32 ∧ (vget s.dev.taps h).active = true ∧
     (vget s.dev.taps h).frame = none) ∧
    (∃ (s : State) (h : Fin 4) (m : Fin 7) (q : _), TakesWrite s m .tap 0 (0x40 * h + 0xC) 2#32 ∧ (vget s.dev.taps h).active = true ∧
     (vget s.dev.taps h).frame = some q) :=
  ⟨⟨J, 0, by decide +kernel⟩,
   ⟨s26, 5, ((framesOf s26.dev 5).find? recordDue).get (by decide +kernel), by decide +kernel⟩,
   ⟨s27, 5, ((framesOf s27.dev 5).find? recordDue).get (by decide +kernel), fld (pw (((framesOf s27.dev 5).find? recordDue).get
   (by decide +kernel)).params 0x604) 24 16 * 0x10000 + (((framesOf s27.dev 5).find? recordDue).get (by decide +kernel)).seq % 2 * 0x8000, 0,
   by decide +kernel⟩,
   ⟨s28, 5, ((framesOf s28.dev 5).find? recordDue).get (by decide +kernel), fld (pw (((framesOf s28.dev 5).find? recordDue).get
   (by decide +kernel)).params 0x604) 24 16 * 0x10000 + (((framesOf s28.dev 5).find? recordDue).get (by decide +kernel)).seq % 2 * 0x8000, 0,
   by decide +kernel⟩,
   ⟨s27, 5, ((framesOf s27.dev 5).find? recordDue).get (by decide +kernel), fld (pw (((framesOf s27.dev 5).find? recordDue).get
   (by decide +kernel)).params 0x604) 24 16 * 0x10000 + (((framesOf s27.dev 5).find? recordDue).get (by decide +kernel)).seq % 2 * 0x8000, 0,
   by decide +kernel⟩,
   ⟨s29, 31, ((framesOf s29.dev 5).find? (fun f => decide (f.seq = 9))).get (by decide +kernel), by decide +kernel⟩,
   ⟨s30, 31, ((framesOf s30.dev 5).find? (fun f => decide (f.seq = 9))).get (by decide +kernel), by decide +kernel⟩,
   ⟨J, by decide +kernel⟩,
   ⟨s31, by decide +kernel⟩,
   ⟨s32, 1, 1, by decide +kernel⟩,
   ⟨J, 0, 1, by decide +kernel⟩,
   ⟨J, 0, 1, by decide +kernel⟩,
   ⟨s33, 1, 1, by decide +kernel⟩,
   ⟨s34, 1, 1, ((vget s34.dev.taps 1).frame).get (by decide +kernel), by decide +kernel⟩⟩

end Sys2Proof.Tests.Pipes

namespace Sys2Proof.Tests.Twt

set_option maxRecDepth 100000
set_option Elab.async false

open Sys2Proof.Machine

def T (x : Option TwtTx) (h : Dev → Dev := id) (m : Mode := .run) : State := mk m (fun d => h { d with twt := { d.twt with tx := x } })
def cfg (view pec : Nat) (ad : Nat := 0x58) (mask : Nat := 0x7F) : Word := BitVec.ofNat 32 (2^31 + pec * 2^24 + view * 2^20 + mask * 256 + ad)
def tx (view pec : Nat) (f : TwtTx → TwtTx := id) : Option TwtTx := some (f { slot := 2, cfg := cfg view pec, wire := [0xB0] })
def ptr (p : Nat) (d : Dev) : Dev := { d with twt := { d.twt with slots := vmod d.twt.slots 2 (fun k => { k with ptr := p, err := 6, cmd := 0x11, addr := 77 }) } }
def outb (l : List (List Byte)) (d : Dev) : Dev := onBox d 1 (fun b => { b with outbox := l })
def inb (n : Nat) (d : Dev) : Dev := onBox d 1 (fun b => { b with inbox := List.replicate n [1] })
def leg (d : Dev) : Dev := put (poke (poke d (0x7C0000 + 4 * 5) [0x30, 0, 0, 0]) (0x7C0000 + 4 * 1023) [0x30, 0, 0, 0]) .twt 0 0x28 0#32
def gs30 : Nat := unitBase .glob 0 + 0x30
def rd1 : TwtTx → TwtTx := fun x => { x with read := true }
def only2 (d : Dev) : Dev := put (put d .twt 0 0x10 0#32) .twt 0 0x14 0#32
def s1 : State := T none
def s2 : State := T (tx 0 0 (fun x => { x with cmd := (some 0x20) })) (ptr gs30 ∘ only2)
def s3 : State := T (tx 0 0 (fun x => { x with cmd := (some 0x11) })) (ptr gs30 ∘ only2)
def s4 : State := T (tx 0 0 (fun x => { x with cmd := none })) (ptr gs30 ∘ only2)
def s5 : State := T (tx 0 0) (ptr gs30)
def s6 : State := T (tx 0 0 (fun x => { x with cmd := none }))
def s7 : State := T (tx 1 1) (ptr 0xFFFFFFFE)
def s8 : State := T (tx 0 2)
def s9 : State := T (tx 0 0 (fun x => rd1 { x with cmd := none, out := [7] })) only2
def s10 : State := T (tx 0 0 (fun x => rd1 { x with cmd := some 0x20 })) (ptr 5 ∘ outb [[7]])
def s11 : State := T (tx 1 0 (fun x => rd1 { x with cmd := some 0x21 })) (ptr 5)
def s12 : State := T (tx 3 0 (fun x => rd1 { x with cmd := some 0x31 })) (outb [])
def s13 : State := T (tx 3 0 (fun x => rd1 { x with cmd := some 0x31 })) (outb [[7], [8, 9]])
def s14 : State := T (tx 0 0 (fun x => rd1 { x with cmd := some 0x13, count := 1, buf := [0x55] })) (ptr 0xFFFFFFFF)
def s15 : State := T (tx 0 0 (fun x => rd1 { x with cmd := some 0x11, buf := [1,2,3,4] })) (ptr gs30)
def s16 : State := T (tx 0 0 (fun x => rd1 { x with cmd := some 0x11, buf := [1] })) (ptr gs30)
def s17 : State := T (tx 2 0 (fun x => rd1 { x with legacy := some 5, buf := [1,2] }))
def s18 : State := T (tx 0 0 (fun x => { x with fault := true, cmd := some 0x12 }))
def s19 : State := T (tx 0 0 (fun x => { x with setptr := some 9, cmd := some 0x10 })) (ptr 4)
def s20 : State := T (tx 0 0 (fun x => { x with push := some [9], cmd := some 0x30 })) (inb 7)
def s21 : State := T (tx 0 0 (fun x => { x with writes := [(gs30, 4, 5)], cmd := some 0x12 }))
def s22 : State := T (tx 0 0 (fun x => { x with cmd := some 0x31, endErr := 4 }))
def s23 : State := T (tx 2 0) leg

theorem witness_TwtTransactionsOpenAndAbort :
    (∃ (s : State) (a : Fin 128), TwtOn s ∧ s.dev.twt.tx = none ∧ (a.val < 8 ∨ 0x78 ≤ a.val ∨
     (∀ k : Fin 4, getB s.dev .twt 0 (0x10 + 4 * k) 31 = true →
     Nat.land (Nat.xor a (getF s.dev .twt 0 (0x10 + 4 * k) 6 0)) (getF s.dev .twt 0 (0x10 + 4 * k) 14 8) ≠ 0))) ∧
    (∃ (s : State) (a : Fin 128) (k : Fin 4), TwtOn s ∧ s.dev.twt.tx = none ∧ 8 ≤ a.val ∧ a.val < 0x78 ∧ getB s.dev .twt 0 (0x10 + 4 * k) 31 = true ∧
     Nat.land (Nat.xor a (getF s.dev .twt 0 (0x10 + 4 * k) 6 0)) (getF s.dev .twt 0 (0x10 + 4 * k) 14 8) = 0 ∧ (∀ j : Fin 4, j < k →
     getB s.dev .twt 0 (0x10 + 4 * j) 31 = false)) ∧
    (∃ (s : State) (a : Fin 128) (x : _), TwtOn s ∧ s.dev.twt.tx = some x ∧ x.read = false ∧ x.fault = false ∧ 8 ≤ a.val ∧ a.val < 0x78 ∧
     Nat.land (Nat.xor a (fld x.cfg 6 0)) (fld x.cfg 14 8) = 0 ∧ flag x.cfg 31 = true ∧ (∀ j : Fin 4, j.val < x.slot →
     getB s.dev .twt 0 (0x10 + 4 * j) 31 = false) ∧ x.slot < 4 ∧ (x.cmd = some 0x20 ∨ x.cmd = some 0x21 ∨ x.cmd = some 0x31) ∧ x.chunks = [] ∧
     x.legacy = none) ∧
    (∃ (s : State) (a : Fin 128) (x : _), TwtOn s ∧ s.dev.twt.tx = some x ∧ x.read = false ∧ x.fault = false ∧ 8 ≤ a.val ∧ a.val < 0x78 ∧
     Nat.land (Nat.xor a (fld x.cfg 6 0)) (fld x.cfg 14 8) = 0 ∧ flag x.cfg 31 = true ∧ (∀ j : Fin 4, j.val < x.slot →
     getB s.dev .twt 0 (0x10 + 4 * j) 31 = false) ∧ x.slot < 4 ∧ x.cmd = some 0x11 ∧ x.legacy = none) ∧
    (∃ (s : State) (a : Fin 128) (x : _), TwtOn s ∧ s.dev.twt.tx = some x ∧ x.read = false ∧ 8 ≤ a.val ∧ a.val < 0x78 ∧
     Nat.land (Nat.xor a (fld x.cfg 6 0)) (fld x.cfg 14 8) = 0 ∧ flag x.cfg 31 = true ∧ (∀ j : Fin 4, j.val < x.slot →
     getB s.dev .twt 0 (0x10 + 4 * j) 31 = false) ∧ x.slot < 4 ∧ x.legacy = none ∧ (x.cmd = none ∨ x.cmd = some 0x10 ∨ x.cmd = some 0x12 ∨
     x.cmd = some 0x3F)) ∧
    (∃ (s : State) (a : Fin 128) (x : _), TwtOn s ∧ s.dev.twt.tx = some x ∧ (a.val < 8 ∨ 0x78 ≤ a.val)) ∧
    (∃ (s : State) (p : Fin 9), TwtOn s ∧ (p.val < 8 → UnitsOn s) ∧ (twsOf s.dev p).recover = false) :=
  ⟨⟨s1, 0, by decide +kernel⟩,
   ⟨s1, 0x58, 0, by decide +kernel⟩,
   ⟨s2, 0x58, (s2.dev.twt.tx).get (by decide +kernel), by decide +kernel⟩,
   ⟨s3, 0x58, (s3.dev.twt.tx).get (by decide +kernel), by decide +kernel⟩,
   ⟨s4, 0x58, (s4.dev.twt.tx).get (by decide +kernel), by decide +kernel⟩,
   ⟨s5, 0, (s5.dev.twt.tx).get (by decide +kernel), by decide +kernel⟩,
   ⟨s1, 0, by decide +kernel⟩⟩
theorem witness_TwtCommandsAreHeldToTheEndOfTheirPhase :
    (∃ (s : State) (x : TwtTx) (args : List Byte), TwtOn s ∧ s.dev.twt.tx = some x ∧ x.slot < 4 ∧ x.read = false ∧ x.cmd = none ∧ x.fault = false ∧
     viewOf x.cfg = 0 ∧ pecMode x.cfg = 0 ∧ 4 ≤ args.length ∧ args.length ≤ 32 ∧ args.length % 4 ≠ 0) ∧
    (∃ (s : State) (x : TwtTx) (c : Fin 33), TwtOn s ∧ s.dev.twt.tx = some x ∧ x.slot < 4 ∧ x.read = false ∧ x.cmd = none ∧ x.fault = false ∧
     viewOf x.cfg = 0 ∧ pecMode x.cfg = 0 ∧ 1 ≤ c.val) ∧
    (∃ (s : State) (x : TwtTx) (n : Nat) (c : _) (q : _), TwtOn s ∧ s.dev.twt.tx = some x ∧ x.slot < 4 ∧ x.read = false ∧ x.cmd = none ∧
     x.fault = false ∧ viewOf x.cfg = 0 ∧ pecMode x.cfg = 0 ∧ (c, q) ∈ [(Instr.rd32 [] n, 0x11), (.status [] n, 0x20), (.lasterr [] n, 0x21),
     (.mbpop [] n, 0x31), (.nop [] n, 0x3F)]) ∧
    (∃ (s : State) (x : TwtTx) (n : Nat) (c : _) (e : _), TwtOn s ∧ s.dev.twt.tx = some x ∧ x.slot < 4 ∧ x.read = false ∧ x.cmd = none ∧
     x.fault = false ∧ viewOf x.cfg = 0 ∧ pecMode x.cfg = 0 ∧ (c, e) ∈ [(Instr.blkrd [33] n, 3), (.blkwr [0] n, 3), (.mbpush [33] n, 3),
     (.setptr [0, 0, 0, 0, 0] n, 3), (.wr32 (List.replicate 33 0) n, 3)] ∧ (vget s.dev.boxes 1).inbox.length < 8) ∧
    (∃ (s : State) (x : TwtTx) (n : Nat) (args : List Byte) (c : _), TwtOn s ∧ s.dev.twt.tx = some x ∧ x.slot < 4 ∧ x.read = false ∧ x.cmd = none ∧
     x.fault = false ∧ (viewOf x.cfg = 1 ∨ viewOf x.cfg = 3) ∧ c ∈ [Instr.wr32 args n, .blkwr args n]) ∧
    (∃ (s : State) (x : TwtTx) (p : BitVec 8), TwtOn s ∧ s.dev.twt.tx = some x ∧ x.slot < 4 ∧ x.read = false ∧ x.cmd = none ∧ x.fault = false ∧
     viewOf x.cfg = 0 ∧ pecMode x.cfg = 2 ∧ p.toNat = crc8 (x.wire ++ [0x3F])) ∧
    (∃ (s : State) (x : TwtTx) (p : BitVec 8), TwtOn s ∧ s.dev.twt.tx = some x ∧ x.slot < 4 ∧ x.read = false ∧ x.cmd = none ∧ x.fault = false ∧
     viewOf x.cfg = 0 ∧ pecMode x.cfg = 2 ∧ p.toNat ≠ crc8 (x.wire ++ [0x3F])) :=
  ⟨⟨s6, (s6.dev.twt.tx).get (by decide +kernel), [1, 2, 3, 4, 5], by decide +kernel⟩,
   ⟨s5, (s5.dev.twt.tx).get (by decide +kernel), 1, by decide +kernel⟩,
   ⟨s5, (s5.dev.twt.tx).get (by decide +kernel), 0, Instr.rd32 [] 0, 0x11, by decide +kernel⟩,
   ⟨s5, (s5.dev.twt.tx).get (by decide +kernel), 0, Instr.blkrd [33] 0, 3, by decide +kernel⟩,
   ⟨s7, (s7.dev.twt.tx).get (by decide +kernel), 0, [], Instr.wr32 ([]) 0, by decide +kernel⟩,
   ⟨s8, (s8.dev.twt.tx).get (by decide +kernel), BitVec.ofNat 8 (crc8 [0xB0, 0x3F]), by decide +kernel⟩,
   ⟨s8, (s8.dev.twt.tx).get (by decide +kernel), 0#8, by decide +kernel⟩⟩
theorem witness_TwtReadsSupplyTheirBytes :
    (∃ (s : State) (x : TwtTx), TwtOn s ∧ s.dev.twt.tx = some x ∧ x.slot < 4 ∧ x.read = true ∧ viewOf x.cfg ≠ 2 ∧ x.cmd = none ∧ x.legacy = none ∧
     x.buf = []) ∧
    (∃ (s : State) (x : TwtTx), TwtOn s ∧ s.dev.twt.tx = some x ∧ x.slot < 4 ∧ x.read = true ∧ viewOf x.cfg ≠ 2 ∧ x.out = [] ∧ pecMode x.cfg = 0 ∧
     x.cmd = some 0x20 ∧ x.buf = []) ∧
    (∃ (s : State) (x : TwtTx), TwtOn s ∧ s.dev.twt.tx = some x ∧ x.slot < 4 ∧ x.read = true ∧ viewOf x.cfg ≠ 2 ∧ x.out = [] ∧ pecMode x.cfg = 0 ∧
     x.cmd = some 0x21 ∧ x.buf = []) ∧
    (∃ (s : State) (x : TwtTx), TwtOn s ∧ s.dev.twt.tx = some x ∧ x.slot < 4 ∧ x.read = true ∧ viewOf x.cfg ≠ 2 ∧ x.out = [] ∧ pecMode x.cfg = 0 ∧
     x.cmd = some 0x31 ∧ x.buf = [] ∧ (vget s.dev.boxes 1).outbox = []) ∧
    (∃ (s : State) (x : TwtTx) (b : _) (l : _), TwtOn s ∧ s.dev.twt.tx = some x ∧ x.slot < 4 ∧ x.read = true ∧ viewOf x.cfg ≠ 2 ∧ x.out = [] ∧
     pecMode x.cfg = 0 ∧ x.cmd = some 0x31 ∧ x.buf = [] ∧ (vget s.dev.boxes 1).outbox = [b] :: l) ∧
    (∃ (s : State) (x : TwtTx) (b : _), TwtOn s ∧ s.dev.twt.tx = some x ∧ x.slot < 4 ∧ x.read = true ∧ viewOf x.cfg ≠ 2 ∧ x.out = [] ∧
     pecMode x.cfg = 0 ∧ x.cmd = some 0x13 ∧ x.buf = [b] ∧ x.chunks = []) ∧
    (∃ (s : State) (x : TwtTx) (b0 : _) (b1 : _) (b2 : _) (b3 : _), TwtOn s ∧ s.dev.twt.tx = some x ∧ x.slot < 4 ∧ x.read = true ∧ viewOf x.cfg ≠ 2 ∧
     x.out = [] ∧ pecMode x.cfg = 0 ∧ x.cmd = some 0x11 ∧ x.buf = [b0, b1, b2, b3]) ∧
    (∃ (s : State) (x : TwtTx) (b : _), TwtOn s ∧ s.dev.twt.tx = some x ∧ x.slot < 4 ∧ x.read = true ∧ viewOf x.cfg ≠ 2 ∧ x.out = [] ∧
     pecMode x.cfg = 0 ∧ x.cmd = some 0x11 ∧ x.buf = [b]) ∧
    (∃ (s : State) (x : TwtTx) (a : _) (b0 : _) (b1 : _), TwtOn s ∧ s.dev.twt.tx = some x ∧ x.slot < 4 ∧ x.read = true ∧ viewOf x.cfg = 2 ∧
     x.legacy = some a ∧ x.buf = [b0, b1]) :=
  ⟨⟨s9, (s9.dev.twt.tx).get (by decide +kernel), by decide +kernel⟩,
   ⟨s10, (s10.dev.twt.tx).get (by decide +kernel), by decide +kernel⟩,
   ⟨s11, (s11.dev.twt.tx).get (by decide +kernel), by decide +kernel⟩,
   ⟨s12, (s12.dev.twt.tx).get (by decide +kernel), by decide +kernel⟩,
   ⟨s13, (s13.dev.twt.tx).get (by decide +kernel), 0x07#8, [[0x08#8, 0x09#8]], by decide +kernel⟩,
   ⟨s14, (s14.dev.twt.tx).get (by decide +kernel), (((s14.dev.twt.tx).get (by decide +kernel)).buf).head (by decide +kernel), by decide +kernel⟩,
   ⟨s15, (s15.dev.twt.tx).get (by decide +kernel), 0x01#8, 0x02#8, 0x03#8, 0x04#8, by decide +kernel⟩,
   ⟨s16, (s16.dev.twt.tx).get (by decide +kernel), (((s16.dev.twt.tx).get (by decide +kernel)).buf).head (by decide +kernel), by decide +kernel⟩,
   ⟨s17, (s17.dev.twt.tx).get (by decide +kernel), (((s17.dev.twt.tx).get (by decide +kernel)).legacy).get (by decide +kernel), 0x01#8, 0x02#8,
   by decide +kernel⟩⟩
theorem witness_TwtWritePhasesTakeEffectAtTheirEnd :
    (∃ (s : State) (x : TwtTx), TwtOn s ∧ s.dev.twt.tx = some x ∧ x.slot < 4 ∧ x.read = true) ∧
    (∃ (s : State) (x : TwtTx), TwtOn s ∧ s.dev.twt.tx = some x ∧ x.slot < 4 ∧ x.read = false ∧ x.fault = true ∧ x.cmd.isSome = true) ∧
    (∃ (s : State) (x : TwtTx) (p : _), TwtOn s ∧ s.dev.twt.tx = some x ∧ x.slot < 4 ∧ x.read = false ∧ x.fault = false ∧ x.endErr = 0 ∧
     x.cmd.isSome = true ∧ x.setptr = some p ∧ x.writes = [] ∧ x.push = none) ∧
    (∃ (s : State) (x : TwtTx) (b : _), TwtOn s ∧ s.dev.twt.tx = some x ∧ x.slot < 4 ∧ x.read = false ∧ x.fault = false ∧ x.endErr = 0 ∧
     x.cmd.isSome = true ∧ x.setptr = none ∧ x.writes = [] ∧ x.push = some b ∧ (vget s.dev.boxes 1).inbox.length < 8) ∧
    (∃ (s : State) (x : TwtTx) (u : UnitKind) (n : _) (o : _) (v : _), TwtOn s ∧ s.dev.twt.tx = some x ∧ x.slot < 4 ∧ x.read = false ∧
     x.fault = false ∧ x.endErr = 0 ∧ x.cmd.isSome = true ∧ x.setptr = none ∧ x.push = none ∧ x.writes = [(unitBase u n + o, 4, v)] ∧
     (busWrite s.env s.dev 0 4 (unitBase u n + o) v).1 = true) ∧
    (∃ (s : State) (x : TwtTx) (u : Option Byte) (e : Nat) (b : Bool), TwtOn s ∧ s.dev.twt.tx = some x ∧ x.slot < 4 ∧ x.read = false ∧
     x.fault = false ∧ (u.isSome, e, b) ∈ [(false, 4, true), (false, 3, false), (true, 1, false)] ∧ (u = none → x.endErr = e ∧ x.cmd.isSome = true) ∧
     (∀ q, u = some q → unknownCode q = true ∧ x.cmd = none ∧ viewOf x.cfg ≠ 2) ∧ b = true) ∧
    (∃ (s : State) (x : TwtTx) (stop : Bool) (u : Option Byte) (e : Nat) (b : Bool), TwtOn s ∧ s.dev.twt.tx = some x ∧ x.slot < 4 ∧ x.read = false ∧
     x.fault = false ∧ (u.isSome, e, b) ∈ [(false, 4, true), (false, 3, false), (true, 1, false)] ∧ (u = none → x.endErr = e ∧ x.cmd.isSome = true) ∧
     (∀ q, u = some q → unknownCode q = true ∧ x.cmd = none ∧ viewOf x.cfg ≠ 2) ∧ stop = true) ∧
    (∃ (s : State) (x : TwtTx) (i : Fin 1024) (l : List Byte), TwtOn s ∧ s.dev.twt.tx = some x ∧ x.slot < 4 ∧ x.read = false ∧ viewOf x.cfg = 2 ∧
     x.legacy = none ∧ x.fault = false ∧ l = [BitVec.ofNat 8 (i / 64), BitVec.ofNat 8 (4 * i)] ∧
     memVal s.dev 4 (0x7C0000 + getF s.dev .twt 0 0x28 5 0 * 0x1000 + 4 * i) ≠ 0) :=
  ⟨⟨s10, (s10.dev.twt.tx).get (by decide +kernel), by decide +kernel⟩,
   ⟨s18, (s18.dev.twt.tx).get (by decide +kernel), by decide +kernel⟩,
   ⟨s19, (s19.dev.twt.tx).get (by decide +kernel), (((s19.dev.twt.tx).get (by decide +kernel)).setptr).get (by decide +kernel), by decide +kernel⟩,
   ⟨s20, (s20.dev.twt.tx).get (by decide +kernel), (((s20.dev.twt.tx).get (by decide +kernel)).push).get (by decide +kernel), by decide +kernel⟩,
   ⟨s21, (s21.dev.twt.tx).get (by decide +kernel), .glob, 0, 0x30, 5#32, by decide +kernel⟩,
   ⟨s22, (s22.dev.twt.tx).get (by decide +kernel), none, 4, true, by decide +kernel⟩,
   ⟨s5, (s5.dev.twt.tx).get (by decide +kernel), true, some 0x55, 1, false, by decide +kernel⟩,
   ⟨s23, (s23.dev.twt.tx).get (by decide +kernel), 5, [BitVec.ofNat 8 (5 / 64), BitVec.ofNat 8 (4 * 5)], by decide +kernel⟩⟩

end Sys2Proof.Tests.Twt

namespace Sys2Proof.Tests.Tws

set_option maxRecDepth 100000
set_option Elab.async false

open Sys2Proof.Machine

def W (p : Nat) (f : Tws → Tws) (h : Dev → Dev := id) (m : Mode := .run) : State := mk m (fun d => h (onTws (put (twsSet (twsSet (twsSet d p 0 0x00300021#32) p 0x100 0x00000200#32) p 0x10C (BitVec.ofNat 32 (2^31 + 5*2^27 + 0x203))) .twt 0 0 1#32) p (fun x => f { x with busy := false })))
def dn (n : Nat) : List TwsDone := (List.range n).map (fun i => { desc := i, status := 0, bytes := 0 })
def win (p : Nat) (cx st len : Nat) (d : Dev) : Dev := putF (put d .tws p 4 (BitVec.ofNat 32 (2^31 + cx * 2^24 + st * 4096 + len))) .ctx cx 0 0 0 1
def cxp (a b q : Option Nat) (d : Dev) : Dev := onCtx d 5 (fun x => { x with lastStart := a, lastEnd := b, period := q })
def s1 : State := W 3 (id)
def s2 : State := W 3 (fun x => { x with order := [.desc 3, .desc 0, .desc 3, .probe 2 1, .cert 4 1], done := dn 3 })
def s3 : State := W 3 (fun x => { x with order := [.desc 3], recover := true })
def s4 : State := W 3 (fun x => { x with order := [.desc 3] })
def s5 : State := W 3 (fun x => { x with closeAt := 10000000, windowOpen := true, order := [.desc 0, .desc 3] }) (fun d => win 3 5 10 20 (twsSet d 3 0x10C
    0x04000203#32))
def s6 : State := W 3 (fun x => { x with closeAt := 100000, windowOpen := true, order := [.desc 0] }) (win 3 5 10 20)
def s7 : State := W 3 (fun x => { x with order := [.desc 3] }) (cxp none none none ∘ (fun d => twsSet d 3 0x10C 0x04000203#32) ∘ (fun d => put d .tws 3 4 (get d
    .tws 3 4 ||| BitVec.ofNat 32 (0))) ∘ win 3 5 10 20)
def s8 : State := W 3 (fun x => { x with order := [.desc 3] }) (cxp none none none ∘ (fun d => put d .tws 3 4 (get d .tws 3 4 ||| BitVec.ofNat 32 (0))) ∘ win 3 5 10
    20)
def s9 : State := withDev (passTime (W 3 (fun x => { x with order := [.desc 3] }) (cxp none none none ∘ (fun d => put d .tws 3 4 (get d .tws 3 4 ||| BitVec.ofNat 32
    (0))) ∘ win 3 5 10 20)) 0) (onTws (W 3 (fun x => { x with order := [.desc 3] }) (cxp none none none ∘ (fun d => put d .tws 3 4 (get d .tws 3 4 |||
    BitVec.ofNat 32 (0))) ∘ win 3 5 10 20)).dev 3 (fun x₀ =>
    { x₀ with order := [], running := some (((twsOf (W 3 (fun x => { x with order := [.desc 3] }) (cxp none none none ∘ (fun d => put d .tws 3 4 (get d .tws 3 4 ||| BitVec.ofNat 32 (0))) ∘ win 3 5 10 20)).dev 3).order).head (by decide +kernel)), inFlight := true, tries := 0 }))
def s10 : State := W 3 (fun x => { x with order := [.desc 3] }) (cxp (some 0) none (some 3000000) ∘ (fun d => put d .tws 3 4 (get d .tws 3 4 ||| BitVec.ofNat 32
    (0))) ∘ win 3 5 10 20)
def s11 : State := withDev (passTime (W 3 (fun x => { x with order := [.desc 3] }) (cxp (some 0) none (some 3000000) ∘ (fun d => put d .tws 3 4 (get d .tws 3 4 |||
    BitVec.ofNat 32 (0))) ∘ win 3 5 10 20)) 0) (onTws (W 3 (fun x => { x with order := [.desc 3] }) (cxp (some 0) none (some 3000000) ∘ (fun d => put
    d .tws 3 4 (get d .tws 3 4 ||| BitVec.ofNat 32 (0))) ∘ win 3 5 10 20)).dev 3 (fun x₀ =>
    { x₀ with order := [], running := some (((twsOf (W 3 (fun x => { x with order := [.desc 3] }) (cxp (some 0) none (some 3000000) ∘ (fun d => put d .tws 3 4 (get d .tws 3 4 ||| BitVec.ofNat 32 (0))) ∘ win 3 5 10 20)).dev 3).order).head (by decide +kernel)), inFlight := true, tries := 0 }))
def s12 : State := W 3 (fun x => { x with running := some (.desc 3), inFlight := true, done := dn 3 })
def s13 : State := W 3 (fun x => { x with inRecovery := true })
def s14 : State := W 3 (fun x => { x with inRecovery := true, running := some (.desc 3), busy := true })
def s15 : State := W 3 id (win 3 5 10 20)
def s16 : State := W 3 (fun x => { x with closeAt := 5, windowOpen := true }) (win 3 5 0 0)

theorem witness_TwsQueuesAndTransactions :
    (∃ (s : State) (p : Fin 9) (m : Fin 7) (u : UnitKind) (n : Nat) (o : Nat) (k : Fin 16),
     (u, n, o) = (if p.val < 8 then (UnitKind.tws, p.val, 0) else (UnitKind.twt, 0, 0x1000)) ∧ TakesWrite s m u n (o + 0x14) (BitVec.ofNat 32 k)) ∧
    (∃ (s : State) (p : Fin 9) (m : Fin 7) (u : UnitKind) (n : Nat) (o : Nat),
     (u, n, o) = (if p.val < 8 then (UnitKind.tws, p.val, 0) else (UnitKind.twt, 0, 0x1000)) ∧ TakesWrite s m u n (o + 0x10) 2#32 ∧
     (twsOf s.dev p).order = []) ∧
    (∃ (s : State) (p : Fin 9) (m : Fin 7) (u : UnitKind) (n : Nat) (o : Nat) (ks : List Nat) (rest : List TwsJob),
     (u, n, o) = (if p.val < 8 then (UnitKind.tws, p.val, 0) else (UnitKind.twt, 0, 0x1000)) ∧ TakesWrite s m u n (o + 0x10) 2#32 ∧
     (twsOf s.dev p).order = ks.map TwsJob.desc ++ rest ∧ (∀ k, TwsJob.desc k ∉ rest) ∧ (twsOf s.dev p).done.length + ks.length ≤ 16) ∧
    (∃ (s : State) (p : Fin 9) (m : Fin 7) (u : UnitKind) (n : Nat) (o : Nat),
     (u, n, o) = (if p.val < 8 then (UnitKind.tws, p.val, 0) else (UnitKind.twt, 0, 0x1000)) ∧ TakesRead s m u n (o + 0x18)) ∧
    (∃ (s : State) (p : Fin 9) (j : TwsJob) (l : List TwsJob), UnitsOn s ∧ twsOn s.dev p = true ∧ (twsOf s.dev p).inRecovery = false ∧
     (twsOf s.dev p).waiting = false ∧ (twsOf s.dev p).inFlight = false ∧ (twsOf s.dev p).running = none ∧ (p = 8 ∨
     flag (twsReg s.dev p 4) 31 = false) ∧ (twsOf s.dev p).busy = false ∧ (twsOf s.dev p).order = j :: l ∧ ((twsOf s.dev p).recover = true ∨
     (twsOf s.dev p).fresh = true)) ∧
    (∃ (s : State) (p : Fin 9) (j : _) (l : _), UnitsOn s ∧ twsOn s.dev p = true ∧ (twsOf s.dev p).inRecovery = false ∧
     (twsOf s.dev p).waiting = false ∧ (twsOf s.dev p).inFlight = false ∧ (twsOf s.dev p).running = none ∧ (twsOf s.dev p).recover = false ∧
     (twsOf s.dev p).fresh = false ∧ (p = 8 ∨ flag (twsReg s.dev p 4) 31 = false) ∧ (twsOf s.dev p).busy = false ∧ (twsOf s.dev p).order = j :: l) ∧
    (∃ (s : State) (p : Fin 9) (j : _), UnitsOn s ∧ twsOn s.dev p = true ∧ (twsOf s.dev p).inRecovery = false ∧ (twsOf s.dev p).waiting = false ∧
     (twsOf s.dev p).inFlight = false ∧ (twsOf s.dev p).running = none ∧ (twsOf s.dev p).recover = false ∧ (twsOf s.dev p).fresh = false ∧ p ≠ 8 ∧
     flag (twsReg s.dev p 4) 31 = true ∧ (twsOf s.dev p).windowOpen = true ∧ (twsOf s.dev p).busy = false ∧
     (twsOf s.dev p).order.find? (isSensor s.dev p) = some j) ∧
    (∃ (s : State) (p : Fin 9) (dt : Nat) (j : _), UnitsOn s ∧ twsOn s.dev p = true ∧ (twsOf s.dev p).inRecovery = false ∧
     (twsOf s.dev p).waiting = false ∧ (twsOf s.dev p).inFlight = false ∧ (twsOf s.dev p).running = none ∧ (twsOf s.dev p).recover = false ∧
     (twsOf s.dev p).fresh = false ∧ p ≠ 8 ∧ flag (twsReg s.dev p 4) 31 = true ∧ (twsOf s.dev p).windowOpen = true ∧ (twsOf s.dev p).busy = false ∧
     (twsOf s.dev p).order = [j] ∧ isSensor s.dev p j = false ∧
     (twsOf s.dev p).closeAt ≤ (passTime s dt).clock.cycles + jobTime s.dev p j + fld (twsReg s.dev p 8) 11 0 * 500) ∧
    (∃ (s : State) (p : Fin 9) (dt : Nat) (j : _) (start : _), UnitsOn s ∧ twsOn s.dev p = true ∧ (twsOf s.dev p).inRecovery = false ∧
     (twsOf s.dev p).waiting = false ∧ (twsOf s.dev p).inFlight = false ∧ (twsOf s.dev p).running = none ∧ (twsOf s.dev p).recover = false ∧
     (twsOf s.dev p).fresh = false ∧ p ≠ 8 ∧ flag (twsReg s.dev p 4) 31 = true ∧ (twsOf s.dev p).windowOpen = false ∧ (twsOf s.dev p).busy = false ∧
     (twsOf s.dev p).order = [j] ∧ start = (passTime s dt).clock.cycles + jobTime s.dev p j + fld (twsReg s.dev p 8) 11 0 * 500 ∧
     isSensor s.dev p j = true) ∧
    (∃ (s : State) (p : Fin 9) (dt : Nat) (j : _) (start : _) (x : Ctx) (starts : State), UnitsOn s ∧ twsOn s.dev p = true ∧
     (twsOf s.dev p).inRecovery = false ∧ (twsOf s.dev p).waiting = false ∧ (twsOf s.dev p).inFlight = false ∧ (twsOf s.dev p).running = none ∧
     (twsOf s.dev p).recover = false ∧ (twsOf s.dev p).fresh = false ∧ p ≠ 8 ∧ flag (twsReg s.dev p 4) 31 = true ∧
     (twsOf s.dev p).windowOpen = false ∧ (twsOf s.dev p).busy = false ∧ (twsOf s.dev p).order = [j] ∧
     start = (passTime s dt).clock.cycles + jobTime s.dev p j + fld (twsReg s.dev p 8) 11 0 * 500 ∧
     x = vget s.dev.ctxs (fld (twsReg s.dev p 4) 27 24) ∧ isSensor s.dev p j = false ∧
     starts = withDev (passTime s dt) (onTws s.dev p (fun x => { x with order := [], running := some j, inFlight := true, tries := 0 })) ∧
     x.period = none) ∧
    (∃ (s : State) (p : Fin 9) (dt : Nat) (j : _) (start : _) (x : Ctx) (starts : State) (r : _) (q : _) (w : _), UnitsOn s ∧ twsOn s.dev p = true ∧
     (twsOf s.dev p).inRecovery = false ∧ (twsOf s.dev p).waiting = false ∧ (twsOf s.dev p).inFlight = false ∧ (twsOf s.dev p).running = none ∧
     (twsOf s.dev p).recover = false ∧ (twsOf s.dev p).fresh = false ∧ p ≠ 8 ∧ flag (twsReg s.dev p 4) 31 = true ∧
     (twsOf s.dev p).windowOpen = false ∧ (twsOf s.dev p).busy = false ∧ (twsOf s.dev p).order = [j] ∧
     start = (passTime s dt).clock.cycles + jobTime s.dev p j + fld (twsReg s.dev p 8) 11 0 * 500 ∧
     x = vget s.dev.ctxs (fld (twsReg s.dev p 4) 27 24) ∧ isSensor s.dev p j = false ∧
     starts = withDev (passTime s dt) (onTws s.dev p (fun x => { x with order := [], running := some j, inFlight := true, tries := 0 })) ∧
     (if flag (twsReg s.dev p 4) 30 then x.lastEnd else x.lastStart) = some r ∧ x.period = some q ∧
     w = r + fld (twsReg s.dev p 4) 23 12 * 500 + (if (passTime s dt).clock.cycles < r + fld (twsReg s.dev p 4) 23 12 * 500 then 0 else q) ∧
     (passTime s dt).clock.cycles < w) ∧
    (∃ (s : State) (p : Fin 9), UnitsOn s ∧ twsOn s.dev p = true ∧ (twsOf s.dev p).inRecovery = false ∧ (twsOf s.dev p).waiting = false ∧
     (twsOf s.dev p).inFlight = false ∧ (twsOf s.dev p).running = none ∧ (twsOf s.dev p).recover = false ∧ (twsOf s.dev p).fresh = false ∧
     ((twsOf s.dev p).busy = true ∨ (twsOf s.dev p).order = [])) ∧
    (∃ (s : State) (p : Fin 9) (k : Fin 16) (l : List Byte) (i : Fin 32), UnitsOn s ∧ (twsOf s.dev p).inFlight = true ∧
     (twsOf s.dev p).running = some (.desc k) ∧ (twsOf s.dev p).done.length < 16 ∧ i.val < fld (twsReg s.dev p (0x100 + 4 * k)) 5 0 ∧ i.val < l.length) ∧
    (∃ (s : State) (p : Fin 9) (k : Fin 16), UnitsOn s ∧ (twsOf s.dev p).inFlight = true ∧ (twsOf s.dev p).running = some (.desc k) ∧
     (twsOf s.dev p).done.length < 16 ∧ (twsOf s.dev p).tries < fld (twsReg s.dev p 0) 6 4) ∧
    (∃ (s : State) (p : Fin 9) (k : Fin 16) (n : _) (q : _) (e : _) (b : _) (nb : _), UnitsOn s ∧ (twsOf s.dev p).inFlight = true ∧
     (twsOf s.dev p).running = some (.desc k) ∧ (twsOf s.dev p).done.length < 16 ∧
     (q, e, b, nb) ∈ [(Instr.twsTransactionEnd p 1 n [], 1, 0, min n (fld (twsReg s.dev p (0x100 + 4 * k)) 13 8)),
     (.twsTransactionEnd p 2 n [], 2, 0, min n (fld (twsReg s.dev p (0x100 + 4 * k)) 13 8)), (.arbitrationLost { port := p, bytes := n }, 3, 1, n)] ∧
     (e ≠ 2 → fld (twsReg s.dev p 0) 6 4 ≤ (twsOf s.dev p).tries)) :=
  ⟨⟨s1, 3, 1, .tws, 3, 0, 3, by decide +kernel⟩,
   ⟨s1, 3, 1, .tws, 3, 0, by decide +kernel⟩,
   ⟨s2, 3, 1, .tws, 3, 0, [3, 0, 3], [.probe 2 1, .cert 4 1], by decide +kernel, by decide +kernel, by decide +kernel, (fun k h => by simp at h),
   by decide +kernel⟩,
   ⟨s1, 3, 1, .tws, 3, 0, by decide +kernel⟩,
   ⟨s3, 3, .desc 3, [], by decide +kernel⟩,
   ⟨s4, 3, .desc 3, [], by decide +kernel⟩,
   ⟨s5, 3, ((twsOf s5.dev 3).order.find? (isSensor s5.dev 3)).get (by decide +kernel), by decide +kernel⟩,
   ⟨s6, 3, 0, ((twsOf s6.dev 3).order).head (by decide +kernel), by decide +kernel⟩,
   ⟨s7, 3, 0, ((twsOf s7.dev 3).order).head (by decide +kernel), (passTime s7 0).clock.cycles + jobTime s7.dev 3 (((twsOf s7.dev 3).order).head
   (by decide +kernel)) + fld (twsReg s7.dev 3 8) 11 0 * 500, by decide +kernel⟩,
   ⟨s8, 3, 0, ((twsOf s8.dev 3).order).head (by decide +kernel), (passTime s8 0).clock.cycles + jobTime s8.dev 3 (((twsOf s8.dev 3).order).head
   (by decide +kernel)) + fld (twsReg s8.dev 3 8) 11 0 * 500, vget s8.dev.ctxs (fld (twsReg s8.dev 3 4) 27 24), withDev (passTime s8 0) (onTws s8.dev
   3 (fun x₀ => { x₀ with order := [], running := some (((twsOf s8.dev 3).order).head (by decide +kernel)), inFlight := true, tries := 0 })),
   by decide +kernel⟩,
   ⟨s10, 3, 0, ((twsOf s10.dev 3).order).head (by decide +kernel), (passTime s10 0).clock.cycles + jobTime s10.dev 3 (((twsOf s10.dev 3).order).head
   (by decide +kernel)) + fld (twsReg s10.dev 3 8) 11 0 * 500, vget s10.dev.ctxs (fld (twsReg s10.dev 3 4) 27 24), withDev (passTime s10 0) (onTws
   s10.dev 3 (fun x₀ => { x₀ with order := [], running := some (((twsOf s10.dev 3).order).head (by decide +kernel)), inFlight := true, tries := 0 })),
   ((if flag (twsReg s10.dev 3 4) 30 then (vget s10.dev.ctxs (fld (twsReg s10.dev 3 4) 27 24)).lastEnd else (vget s10.dev.ctxs (fld (twsReg s10.dev 3
   4) 27 24)).lastStart)).get (by decide +kernel), ((vget s10.dev.ctxs (fld (twsReg s10.dev 3 4) 27 24)).period).get (by decide +kernel), (((if flag
   (twsReg s10.dev 3 4) 30 then (vget s10.dev.ctxs (fld (twsReg s10.dev 3 4) 27 24)).lastEnd else (vget s10.dev.ctxs (fld (twsReg s10.dev 3 4) 27
   24)).lastStart)).get (by decide +kernel)) + fld (twsReg s10.dev 3 4) 23 12 * 500 + (if (passTime s10 0).clock.cycles < (((if flag (twsReg s10.dev 3
   4) 30 then (vget s10.dev.ctxs (fld (twsReg s10.dev 3 4) 27 24)).lastEnd else (vget s10.dev.ctxs (fld (twsReg s10.dev 3 4) 27 24)).lastStart)).get
   (by decide +kernel)) + fld (twsReg s10.dev 3 4) 23 12 * 500 then 0 else (((vget s10.dev.ctxs (fld (twsReg s10.dev 3 4) 27 24)).period).get
   (by decide +kernel))), by decide +kernel⟩,
   ⟨s1, 3, by decide +kernel⟩,
   ⟨s12, 3, 3, [7, 8, 9], 2, by decide +kernel⟩,
   ⟨s12, 3, 3, by decide +kernel⟩,
   ⟨s12, 3, 3, 0, .twsTransactionEnd 3 2 0 [], 2, 0, min 0 (fld (twsReg s12.dev 3 (0x100 + 4 * 3)) 13 8), by decide +kernel⟩⟩
theorem witness_TwsRecoveryStretchingAndWindows :
    (∃ (s : State) (p : Fin 9) (k : Fin 16), UnitsOn s ∧ twsOn s.dev p = true ∧ (twsOf s.dev p).done.length < 16 ∧
     ((twsOf s.dev p).running = some (.desc k) ∨ ((twsOf s.dev p).running = none ∧ (twsOf s.dev p).order.head? = some (.desc k) ∧ (p = 8 ∨
     flag (twsReg s.dev p 4) 31 = false)))) ∧
    (∃ (s : State) (p : Fin 9), UnitsOn s ∧ (twsOf s.dev p).running = none ∧ (twsOf s.dev p).order = [] ∧ (twsOf s.dev p).inRecovery = false) ∧
    (∃ (s : State) (p : Fin 9), UnitsOn s ∧ (twsOf s.dev p).running = none ∧ (twsOf s.dev p).order = [] ∧ (twsOf s.dev p).inRecovery = true ∧
     twsOn s.dev p = true) ∧
    (∃ (s : State) (p : Fin 9), UnitsOn s ∧ twsOn s.dev p = true ∧ (twsOf s.dev p).inFlight = false ∧ (twsOf s.dev p).busy = false) ∧
    (∃ (s : State) (p : Fin 9), UnitsOn s ∧ twsOn s.dev p = true ∧ (twsOf s.dev p).inFlight = false ∧ (twsOf s.dev p).busy = true) ∧
    (∃ (s : State) (p : Fin 9) (m : Fin 7) (u : UnitKind) (n : Nat) (o : Nat) (a : Word), UnitsOn s ∧ twsOn s.dev p = true ∧
     (u, n, o) = (if p.val < 8 then (UnitKind.tws, p.val, 0x10) else (UnitKind.twt, 0, 0x1010)) ∧ a.toNat = unitBase u n + o ∧
     TakesWrite s m u n o 1#32) ∧
    (∃ (s : State) (p : Fin 9), UnitsOn s ∧ (twsOf s.dev p).recover = true ∧ twsOn s.dev p = true ∧ (twsOf s.dev p).inFlight = false) ∧
    (∃ (s : State) (p : Fin 9) (k : Fin 16), UnitsOn s ∧ (twsOf s.dev p).inRecovery = true ∧ ((twsOf s.dev p).running = some (.desc k) ∨
     ((twsOf s.dev p).running = none ∧ (twsOf s.dev p).order.head? = some (.desc k) ∧ (p = 8 ∨ flag (twsReg s.dev p 4) 31 = false))) ∧
     (twsOf s.dev p).done.length < 16) ∧
    (∃ (s : State) (p : Fin 8) (c : _), UnitsOn s ∧ c = getF s.dev .tws p 4 27 24 ∧ getB s.dev .tws p 0 0 = true ∧ fenced s.dev .tws p = false ∧
     domainOn s.dev 47 = true ∧ getB s.dev .tws p 4 31 = true ∧ getB s.dev .ctx c 0 0 = true ∧ fenced s.dev .ctx c = false) ∧
    (∃ (s : State) (p : Fin 8) (c : _), UnitsOn s ∧ c = getF s.dev .tws p 4 27 24 ∧ (getB s.dev .tws p 4 31 = false ∨ getB s.dev .ctx c 0 0 = false)) ∧
    (∃ (s : State) (dt : Nat) (p : Fin 8), UnitsOn s ∧ (twsOf s.dev p).windowOpen = true ∧ (twsOf s.dev p).closeAt ≤ (passTime s dt).clock.cycles) ∧
    (∃ (s : State) (dt : Nat) (p : Fin 8), UnitsOn s ∧ (twsOf s.dev p).windowOpen = true ∧ (passTime s dt).clock.cycles < (twsOf s.dev p).closeAt) :=
  ⟨⟨s4, 3, 3, by decide +kernel⟩,
   ⟨s1, 0, by decide +kernel⟩,
   ⟨s13, 3, by decide +kernel⟩,
   ⟨s1, 3, by decide +kernel⟩,
   ⟨s1, 8, by decide +kernel⟩,
   ⟨s1, 3, 1, .tws, 3, 0x10, BitVec.ofNat 32 (unitBase .tws 3 + 0x10), by decide +kernel⟩,
   ⟨s3, 3, by decide +kernel⟩,
   ⟨s14, 3, 3, by decide +kernel⟩,
   ⟨s15, 3, getF s15.dev .tws 3 4 27 24, by decide +kernel⟩,
   ⟨s1, 0, getF s1.dev .tws 0 4 27 24, by decide +kernel⟩,
   ⟨s16, 5, 3, by decide +kernel⟩,
   ⟨s16, 0, 3, by decide +kernel⟩⟩

end Sys2Proof.Tests.Tws

namespace Sys2Proof.Tests.Boot

set_option maxRecDepth 100000
set_option Elab.async false

open Sys2Proof.Machine

def B (l : List Nat) : List Byte := l.map (BitVec.ofNat 8)
def tbl (n : Nat) (ver : Nat := 3) : List Byte := leBytes 4 0x5A424C43 ++ leBytes 2 1 ++ leBytes 2 n ++ leBytes 4 0x1000 ++ leBytes 1 ver ++ leBytes 1 0 ++ leBytes 2 7 ++ List.replicate (16 + 60) 0 ++ leBytes 4 8 ++ List.replicate 32 0 ++ (List.range n).flatMap (fun _ => B [1, 0, 0, 0] ++ leBytes 4 0x400 ++ leBytes 4 64 ++ List.replicate 52 0)
def S (m : Mode) (boot : Nat) (st : BootStage) (h : Dev → Dev := id) : State := let s := mk m (fun d => h { d with boot := { d.boot with stage := st } }); { s with sys := { s.sys with straps := { s.sys.straps with boot := boot, trunk := 4 } } }
def comp1 : Component := { kind := 1, target := 0, offset := 0x40, length := 8, load := 0x100, entry := 0x106, hash := List.replicate 32 9 }
def bun : Bundle := { length := 0x100, secver := 300, install := false, serial := 70000, comps := [comp1] }
def ld (src : Nat) (h : Dev → Dev := id) : State := S .verify 0 .reading (fun d => h { (poke (poke (poke d 0x7C0100 [5]) 0x700100 [9,9,9,9,9,9,9,9,9]) (panBase + bufBase d + 0x40) [1,2,3,4,5,6,7,8,9]) with boot := { d.boot with stage := .loading src, bundle := some bun } })
def un (s cls : Nat) (d : Dev) : Dev := { d with flt := { d.flt with unacked := d.flt.unacked ++ [(s, { num := 1, cls := cls })] } }
def jobs (l : List SecJob) (h : Sec → Sec := id) (d : Dev) : Dev := { d with sec := h { d.sec with jobs := l } }
def hash32 : List Byte := List.replicate 32 7
def msr : Measure := { kind := 1, target := 0, replaced := false, hash := hash32 }
def record (cert : Nat) (lim : Nat) : List Byte := let b := B [1, cert] ++ (List.replicate 28 3) ++ leBytes 4 lim ++ List.replicate 60 0; b ++ leBytes 2 (crc16 b)
def rec112 (cert lim : Nat) : List Byte := let p := leBytes 4 7 ++ leBytes 4 8 ++ leBytes 4 0xFFFFFFFF; record cert lim ++ p ++ leBytes 2 (crc16 p) ++ [0, 0]
def hd (f : Head → Head) (d : Dev) : Dev := onHead d 5 f
def hon (d : Dev) : Dev := putF (putF (putF (putF d .head 0 (5 * 0x40) 31 31 1) .ctx 5 0 0 0 1) .ctx 5 0 6 4 3) .tws 3 0 0 0 1
def tw (p : Nat) (f : Tws → Tws) (d : Dev) : Dev := onTws d p f
def recd (cert lim : Nat) : List Byte := rec112 cert lim
def s1 : State := S .run 0 .reading
def s2 : State := S .boot 1 .reading
def s3 : State := S .boot 3 .reading
def s4 : State := S .boot 0 .reading
def s5 : State := S .boot 2 .reading
def s6 : State := S .verify 2 (.verifyQspi false false) (jobs [.prepare])
def s7 : State := S .verify 2 (.verifyQspi false false) (jobs [.verify] ∘ fun d => put d .power 0 0x20 0#32)
def s8 : State := S .verify 0 (.verifyQspi true true) (jobs [.verify])
def s9 : State := S .verify 0 (.verifyQspi true false) (jobs [.verify])
def s10 : State := S .rescue 0 .verifyBuffer (jobs [.verify])
def s11 : State := S .rescue 0 (.install false 0 [6])
def s12 : State := ld 0
def s13 : State := { S .diag 3 .done (un 20 1 ∘ un 141 0) with sys := { (S .diag 3 .done).sys with prev := 2 } }
def s14 : State := { S .diag 3 .done (un 141 1) with sys := { (S .diag 3 .done).sys with prev := 2 } }
def s15 : State := S .rescue 0 .download (jobs [] (fun x => { x with passed := some bun, log := List.replicate 64 msr }))
def s16 : State := S .run 0 .done (jobs [.verify] ∘ fun d => put d .glob 0 0x40 7#32)
def s17 : State := S .run 0 .done (jobs [.verify] (fun x => { x with passed := some bun, log := [msr] }))
def s18 : State := S .run 0 .done (fun d => { d with otp := (List.range 4096).map (fun i => (0x1000 + i, 0xFF#8)) })
def s19 : State := S .run 0 .done (jobs [.attest hash32])
def s20 : State := S .run 0 .done (jobs [.attest hash32] (fun x => { x with ready := true, log := [msr, msr] }))
def s21 : State := S .run 0 .done hon
def s22 : State := S .run 0 .done (hd (fun h => { h with verdict := 4, probing := true }) ∘ hon)
def s23 : State := S .run 0 .done (hd (fun h => { h with probing := true }) ∘ hon)
def s24 : State := S .run 0 .done (tw 3 (fun x => { x with inFlight := true, running := some (.probe 5 2), order := [.probe 5 3] }) ∘ hd (fun h =>
    { h with probing := true }) ∘ hon)
def s25 : State := S .run 0 .done (tw 3 (fun x => { x with inFlight := true, running := some (.cert 5 0) }) ∘ hd (fun h =>
    { h with entry := true, record := recd 1 8, verdict := 0 }) ∘ hon)
def s26 : State := S .run 0 .done (tw 3 (fun x => { x with inFlight := true, running := some (.cert 5 200) }) ∘ hd (fun h =>
    { h with entry := true, record := recd 1 8, verdict := 3, cert := List.replicate 56 3 }) ∘ hon)
def s27 : State := S .run 0 .done (hd (fun h => { h with verdict := 4, entry := true, record := rec112 1 9, phr := 7 }) ∘ hon ∘ jobs [.head 5 (rec112 1 9) hash32])
def s28 : State := S .run 0 .done (hd (fun h => { h with verdict := 0, entry := true, record := rec112 1 9, phr := 7 }) ∘ hon ∘ jobs [.head 5 (rec112 1 9) hash32])
def s29 : State := S .run 0 .done (hd (fun h => { h with verdict := 3, entry := true, record := rec112 1 9, phr := 7 }) ∘ hon ∘ jobs [.head 5 (rec112 1 9) hash32])
def s30 : State := S .run 0 .done (hd (fun h => { h with verdict := 2, entry := true, record := rec112 1 9, phr := 7 }) ∘ hon)
def s31 : State := S .run 0 .done (hd (fun h => { h with verdict := 2, entry := true, record := rec112 1 9, phr := 8 }) ∘ hon)

theorem witness_TheBootRomVerifiesAndLoads :
    (∃ (s : State), UnitsOn s ∧ (s.sys.mode ≠ .boot ∨ s.dev.boot.stage ≠ .reading)) ∧
    (∃ (s : State), UnitsOn s ∧ s.sys.mode = .boot ∧ s.dev.boot.stage = .reading ∧ s.sys.resetLow = false ∧ getB s.dev .glob 0 0x20 5 = false ∧
     s.sys.straps.boot = 1) ∧
    (∃ (s : State), UnitsOn s ∧ s.sys.mode = .boot ∧ s.dev.boot.stage = .reading ∧ s.sys.resetLow = false ∧ getB s.dev .glob 0 0x20 5 = false ∧
     s.sys.straps.boot = 3) ∧
    (∃ (s : State), UnitsOn s ∧ s.sys.mode = .boot ∧ s.dev.boot.stage = .reading ∧ s.sys.resetLow = false ∧ getB s.dev .glob 0 0x20 5 = false ∧
     s.sys.straps.boot = 0) ∧
    (∃ (s : State), UnitsOn s ∧ s.sys.mode = .boot ∧ s.dev.boot.stage = .reading ∧ s.sys.resetLow = false ∧ getB s.dev .glob 0 0x20 5 = false ∧
     s.sys.straps.boot = 2) ∧
    (∃ (s : State) (l : List Byte) (a : Option (List Byte)) (b : Option (List Byte)) (c : Bool), UnitsOn s ∧ s.sys.mode = .boot ∧
     s.dev.boot.stage = .reading ∧ s.sys.resetLow = false ∧ getB s.dev .glob 0 0x20 5 = false ∧ (a, b, c) ∈ [(some l, none, false),
     (none, some l, true)] ∧ s.sys.straps.boot ∈ [0, 2] ∧ readable l = true) ∧
    (∃ (s : State), UnitsOn s ∧ (∀ l, s.dev.sec.jobs ≠ .verify :: l) ∧ s.dev.sec.jobs.length ≤ 1) ∧
    (∃ (s : State), UnitsOn s ∧ domainOn s.dev 49 = false) ∧
    (∃ (s : State) (copyB : Bool), UnitsOn s ∧ s.dev.sec.jobs = [.verify] ∧ domainOn s.dev 49 = true ∧ s.sys.mode = .verify ∧
     s.dev.boot.stage = .verifyQspi copyB true) ∧
    (∃ (s : State) (copyB : Bool), UnitsOn s ∧ s.dev.sec.jobs = [.verify] ∧ domainOn s.dev 49 = true ∧ s.sys.mode = .verify ∧
     s.dev.boot.stage = .verifyQspi copyB false) ∧
    (∃ (s : State), UnitsOn s ∧ s.dev.sec.jobs = [.verify] ∧ domainOn s.dev 49 = true ∧ s.sys.mode = .rescue ∧ s.dev.boot.stage = .verifyBuffer) ∧
    (∃ (s : State) (copyB : Bool) (other : Bool), UnitsOn s ∧ s.dev.sec.jobs = [.verify] ∧ domainOn s.dev 49 = true ∧ s.sys.mode = .verify ∧
     s.dev.boot.stage = .verifyQspi copyB other) ∧
    (∃ (s : State), UnitsOn s ∧ (∀ copyB base l, s.dev.boot.stage ≠ .install copyB base l)) ∧
    (∃ (s : State) (copyB : Bool) (base : _) (l : _), UnitsOn s ∧ s.dev.boot.stage = .install copyB base l ∧ s.sys.mode ≠ .halt) ∧
    (∃ (s : State), UnitsOn s ∧ s.sys.mode ≠ .verify) ∧
    (∃ (s : State) (src : _) (b : _) (c : _) (i : _), UnitsOn s ∧ s.sys.mode = .verify ∧ src ≤ 2 ∧ s.dev.boot.stage = .loading src ∧
     s.dev.boot.bundle = some b ∧ b.comps = [c] ∧ c.kind = 1 ∧ c.target = 0 ∧ c.load + c.length ≤ 0x20000 ∧ c.entry < 0x20000 ∧
     (drvOf s.dev 0).state = .reset ∧ (vget s.dev.groups 0).state = .off ∧ i < c.length) ∧
    (∃ (s : State) (src : _) (b : _) (c : _) (a : _), UnitsOn s ∧ s.sys.mode = .verify ∧ src ≤ 2 ∧ s.dev.boot.stage = .loading src ∧
     s.dev.boot.bundle = some b ∧ b.comps = [c] ∧ c.kind = 1 ∧ c.target = 0 ∧ c.load + c.length ≤ 0x20000 ∧ c.entry < 0x20000 ∧
     (drvOf s.dev 0).state = .reset ∧ (vget s.dev.groups 0).state = .off ∧ 0x7C0000 ≤ a ∧ a < 0x800000) ∧
    (∃ (s : State) (src : _) (b : _) (c : _) (a : _), UnitsOn s ∧ s.sys.mode = .verify ∧ src ≤ 2 ∧ s.dev.boot.stage = .loading src ∧
     s.dev.boot.bundle = some b ∧ b.comps = [c] ∧ c.kind = 1 ∧ c.target = 0 ∧ c.load + c.length ≤ 0x20000 ∧ c.entry < 0x20000 ∧
     (drvOf s.dev 0).state = .reset ∧ (vget s.dev.groups 0).state = .off ∧ panBase ≤ a) ∧
    (∃ (s : State) (n : Fin 192), UnitsOn s ∧ (s.sys.mode ≠ .diag ∨ s.sys.straps.boot ≠ 3 ∨ s.sys.prev ≠ modeCode .boot ∨ heldBy s.dev n = none)) ∧
    (∃ (s : State) (n : Fin 192) (u : _), UnitsOn s ∧ s.sys.mode = .diag ∧ s.sys.straps.boot = 3 ∧ s.sys.prev = modeCode .boot ∧
     heldBy s.dev n = some u ∧ u.cls ≠ 1 ∧ u.cls ≠ 2) ∧
    (∃ (s : State) (n : Fin 192) (u : _) (k : Fin 192), UnitsOn s ∧ s.sys.mode = .diag ∧ s.sys.straps.boot = 3 ∧ s.sys.prev = modeCode .boot ∧
     heldBy s.dev n = some u ∧ (u.cls = 1 ∨ u.cls = 2) ∧ k ≠ n) :=
  ⟨⟨s1, by decide +kernel⟩,
   ⟨s2, by decide +kernel⟩,
   ⟨s3, by decide +kernel⟩,
   ⟨s4, by decide +kernel⟩,
   ⟨s5, by decide +kernel⟩,
   ⟨s4, tbl 1, some (tbl 1), none, false, by decide +kernel⟩,
   ⟨s6, by decide +kernel, (fun _ h => by cases h), by decide +kernel⟩,
   ⟨s7, by decide +kernel⟩,
   ⟨s8, true, by decide +kernel⟩,
   ⟨s9, true, by decide +kernel⟩,
   ⟨s10, by decide +kernel⟩,
   ⟨s8, true, true, by decide +kernel⟩,
   ⟨s1, by decide +kernel, (fun _ _ _ h => by cases h)⟩,
   ⟨s11, false, 0, [6], by decide +kernel⟩,
   ⟨s1, by decide +kernel⟩,
   ⟨s12, 0, (s12.dev.boot.bundle).get (by decide +kernel), (((s12.dev.boot.bundle).get (by decide +kernel)).comps).head (by decide +kernel), 0,
   by decide +kernel⟩,
   ⟨s12, 0, (s12.dev.boot.bundle).get (by decide +kernel), (((s12.dev.boot.bundle).get (by decide +kernel)).comps).head (by decide +kernel), 0x7C0100,
   by decide +kernel⟩,
   ⟨s12, 0, (s12.dev.boot.bundle).get (by decide +kernel), (((s12.dev.boot.bundle).get (by decide +kernel)).comps).head (by decide +kernel), panBase +
   0x42, by decide +kernel⟩,
   ⟨s1, 0, by decide +kernel⟩,
   ⟨s13, 141, (heldBy s13.dev 141).get (by decide +kernel), by decide +kernel⟩,
   ⟨s14, 141, (heldBy s14.dev 141).get (by decide +kernel), 0, by decide +kernel⟩⟩
theorem witness_TheSecurityEngineServesItsQueue :
    (∃ (s : State) (m : Fin 7), TakesWrite s m .sec 0 0 2#32 ∧ s.sys.mode ∈ [.ready, .run, .degraded, .diag]) ∧
    (∃ (s : State) (m : Fin 7), TakesWrite s m .sec 0 0 2#32 ∧ s.sys.mode = .rescue ∧ s.dev.boot.stage = .download) ∧
    (∃ (s : State), UnitsOn s ∧ s.dev.sec.jobs = [.verify] ∧ domainOn s.dev 49 = true ∧ s.dev.boot.stage = .done) ∧
    (∃ (s : State) (m : Fin 7), TakesWrite s m .sec 0 0 4#32 ∧ s.dev.sec.passed = none) ∧
    (∃ (s : State) (m : Fin 7) (b : _), TakesWrite s m .sec 0 0 4#32 ∧ s.dev.sec.passed = some b ∧ s.dev.sec.log.length + b.comps.length ≤ 64) ∧
    (∃ (s : State) (m : Fin 7) (b : _), TakesWrite s m .sec 0 0 4#32 ∧ s.dev.sec.passed = some b ∧ 64 < s.dev.sec.log.length + b.comps.length) ∧
    (∃ (s : State) (m : Fin 7), TakesWrite s m .sec 0 0 1#32 ∧ leavesGone s.dev = true) ∧
    (∃ (s : State) (m : Fin 7), TakesWrite s m .sec 0 0 1#32 ∧ leavesGone s.dev = false ∧ (s.dev.sec.jobs ≠ [] ∨ s.dev.sec.ready = false ∨
     getF s.dev .sec 0 0x48 26 16 < 1024)) ∧
    (∃ (s : State), UnitsOn s ∧ domainOn s.dev 49 = true ∧ s.dev.sec.jobs = []) ∧
    (∃ (s : State), UnitsOn s ∧ domainOn s.dev 49 = true ∧ s.dev.sec.jobs = [.prepare]) ∧
    (∃ (s : State) (nonce : _), UnitsOn s ∧ domainOn s.dev 49 = true ∧ s.dev.sec.jobs = [.attest nonce] ∧ s.dev.sec.ready = false) ∧
    (∃ (s : State) (nonce : _) (i : _), UnitsOn s ∧ domainOn s.dev 49 = true ∧ s.dev.sec.jobs = [.attest nonce] ∧ s.dev.sec.ready = true ∧
     domainOn s.dev 32 = true ∧ getF s.dev .sec 0 0x48 26 16 < 1024 ∧
     (5876 + 40 * s.dev.sec.log.length) + getF s.dev .sec 0 0x40 24 12 * 0x1000 ≤ panSize ∧ nonce.length = 32 ∧
     (∀ x ∈ s.dev.sec.log, x.hash.length = 32) ∧ i < 32) ∧
    (∃ (s : State) (nonce : _) (a : _), UnitsOn s ∧ domainOn s.dev 49 = true ∧ s.dev.sec.jobs = [.attest nonce] ∧ s.dev.sec.ready = true ∧
     domainOn s.dev 32 = true ∧ getF s.dev .sec 0 0x48 26 16 < 1024 ∧
     (5876 + 40 * s.dev.sec.log.length) + getF s.dev .sec 0 0x40 24 12 * 0x1000 ≤ panSize ∧ nonce.length = 32 ∧
     (∀ x ∈ s.dev.sec.log, x.hash.length = 32) ∧ (a < panBase + getF s.dev .sec 0 0x40 24 12 * 0x1000 ∨
     panBase + getF s.dev .sec 0 0x40 24 12 * 0x1000 + 5876 + 40 * s.dev.sec.log.length ≤ a)) :=
  ⟨⟨s1, 1, by decide +kernel⟩,
   ⟨s15, 1, by decide +kernel⟩,
   ⟨s16, by decide +kernel⟩,
   ⟨s1, 1, by decide +kernel⟩,
   ⟨s17, 1, (s17.dev.sec.passed).get (by decide +kernel), by decide +kernel⟩,
   ⟨s15, 1, (s15.dev.sec.passed).get (by decide +kernel), by decide +kernel⟩,
   ⟨s18, 1, by decide +kernel⟩,
   ⟨s1, 1, by decide +kernel⟩,
   ⟨s1, by decide +kernel⟩,
   ⟨s6, by decide +kernel⟩,
   ⟨s19, hash32, by decide +kernel⟩,
   ⟨s20, hash32, 0, by decide +kernel⟩,
   ⟨s20, hash32, 0, by decide +kernel⟩⟩
theorem witness_HeadsAreProbedAndCounted :
    (∃ (s : State) (c : Fin 16), UnitsOn s ∧ getB s.dev .head 0 (c * 0x40) 31 = true ∧ getB s.dev .ctx c 0 0 = true ∧
     twsUsable s.dev (ctxPort s.dev c) = true ∧ (vget s.dev.heads c).probing = false) ∧
    (∃ (s : State) (c : Fin 16), UnitsOn s ∧ (getB s.dev .head 0 (c * 0x40) 31 = false ∨ getB s.dev .ctx c 0 0 = false ∨
     (vget s.dev.heads c).probing = true)) ∧
    (∃ (s : State) (c : Fin 16), UnitsOn s ∧ ((vget s.dev.heads c).probing = false ∨ readsLeft s.dev c = true)) ∧
    (∃ (s : State) (c : Fin 16) (r : Option (List Byte)), UnitsOn s ∧ (vget s.dev.heads c).probing = true ∧ readsLeft s.dev c = false ∧
     domainOn s.dev 49 = true ∧ ((vget s.dev.heads c).readBad = true ∨ (∀ l, r = some l → l.length < 112 ∨ recCrc l 0 94 = false)) ∧
     (vget s.dev.heads c).verdict = 4) ∧
    (∃ (s : State) (c : Fin 16) (r : Option (List Byte)), UnitsOn s ∧ (vget s.dev.heads c).probing = true ∧ readsLeft s.dev c = false ∧
     domainOn s.dev 49 = true ∧ ((vget s.dev.heads c).readBad = true ∨ (∀ l, r = some l → l.length < 112 ∨ recCrc l 0 94 = false)) ∧
     (vget s.dev.heads c).verdict ≠ 4) ∧
    (∃ (s : State) (c : Fin 16) (r : List Byte), UnitsOn s ∧ (vget s.dev.heads c).probing = true ∧ readsLeft s.dev c = false ∧
     domainOn s.dev 49 = true ∧ (vget s.dev.heads c).readBad = false ∧ 112 ≤ r.length ∧ recCrc r 0 94 = true ∧ recCrc r 96 12 = true ∧
     ((vget s.dev.heads c).entry = false ∨ recIdentity (vget s.dev.heads c).record ≠ recIdentity r) ∧ recCert r = false) ∧
    (∃ (s : State) (c : Fin 16) (p : Fin 9) (i : Nat) (ended : Dev), UnitsOn s ∧ (twsOf s.dev p).inFlight = true ∧
     ended = onTws s.dev p (fun x => { x with running := none, inFlight := false, waiting := false, tries := 0, busy := true }) ∧
     (twsOf s.dev p).running = some (.probe c i)) ∧
    (∃ (s : State) (c : Fin 16) (p : Fin 9) (i : Nat) (l : List Byte) (ended : Dev) (got : _), UnitsOn s ∧ (twsOf s.dev p).inFlight = true ∧
     ended = onTws s.dev p (fun x => { x with running := none, inFlight := false, waiting := false, tries := 0, busy := true }) ∧
     (twsOf s.dev p).running = some (.cert c i) ∧
     got = (vget s.dev.heads c).cert ++ (l ++ List.replicate 28 0xFF).take (certPart (vget s.dev.heads c).record i) ∧
     i + 1 < certReads (vget s.dev.heads c).record) ∧
    (∃ (s : State) (c : Fin 16) (p : Fin 9) (i : Nat) (l : List Byte) (ended : Dev) (got : _), UnitsOn s ∧ (twsOf s.dev p).inFlight = true ∧
     ended = onTws s.dev p (fun x => { x with running := none, inFlight := false, waiting := false, tries := 0, busy := true }) ∧
     (twsOf s.dev p).running = some (.cert c i) ∧
     got = (vget s.dev.heads c).cert ++ (l ++ List.replicate 28 0xFF).take (certPart (vget s.dev.heads c).record i) ∧
     certReads (vget s.dev.heads c).record ≤ i + 1) ∧
    (∃ (s : State), UnitsOn s ∧ s.dev.sec.jobs = []) ∧
    (∃ (s : State) (c : Fin 16) (record : List Byte) (cert : List Byte), UnitsOn s ∧ s.dev.sec.jobs = [.head c record cert] ∧
     domainOn s.dev 49 = true ∧ (record ≠ (vget s.dev.heads c).record ∨ (vget s.dev.heads c).verdict = 4)) ∧
    (∃ (s : State) (c : Fin 16) (record : List Byte) (cert : List Byte) (v : _), UnitsOn s ∧ s.dev.sec.jobs = [.head c record cert] ∧
     domainOn s.dev 49 = true ∧ v = (if certOk s.dev (record.take 96) cert then 1 else 3) ∧ record = (vget s.dev.heads c).record ∧
     (vget s.dev.heads c).verdict ≠ 4 ∧ (vget s.dev.heads c).verdict ≠ v) ∧
    (∃ (s : State) (c : Fin 16) (record : List Byte) (cert : List Byte) (v : _), UnitsOn s ∧ s.dev.sec.jobs = [.head c record cert] ∧
     domainOn s.dev 49 = true ∧ v = (if certOk s.dev (record.take 96) cert then 1 else 3) ∧ record = (vget s.dev.heads c).record ∧
     (vget s.dev.heads c).verdict ≠ 4 ∧ (vget s.dev.heads c).verdict = v) ∧
    (∃ (s : State) (c : Fin 16), AonOn s ∧ ((vget s.dev.heads c).entry = false ∨ (vget s.dev.heads c).verdict = 4)) ∧
    (∃ (s : State) (c : Fin 16) (q : _), AonOn s ∧ (vget s.dev.heads c).entry = true ∧ (vget s.dev.heads c).verdict ≠ 4 ∧
     domainOn s.dev (ctxPort s.dev c + 1) = true ∧ (∀ i ∈ [1, 2], i ∈ (vget s.dev.heads c).hit ∨ limitReached (vget s.dev.heads c) i = false) ∧
     recWord (vget s.dev.heads c).record 30 = q ∧ (q = 0 ∨ (vget s.dev.heads c).phr + 1 < q ∨ 0 ∈ (vget s.dev.heads c).hit)) ∧
    (∃ (s : State) (c : Fin 16) (q : _), AonOn s ∧ (vget s.dev.heads c).entry = true ∧ (vget s.dev.heads c).verdict ≠ 4 ∧
     domainOn s.dev (ctxPort s.dev c + 1) = true ∧ (∀ i ∈ [1, 2], i ∈ (vget s.dev.heads c).hit ∨ limitReached (vget s.dev.heads c) i = false) ∧
     recWord (vget s.dev.heads c).record 30 = q ∧ 0 < q ∧ q ≤ (vget s.dev.heads c).phr + 1 ∧ (vget s.dev.heads c).phr < 0xFFFFFFFF ∧
     0 ∉ (vget s.dev.heads c).hit) :=
  ⟨⟨s21, 5, by decide +kernel⟩,
   ⟨s1, 0, by decide +kernel⟩,
   ⟨s1, 0, by decide +kernel⟩,
   ⟨s22, 5, none, by decide +kernel⟩,
   ⟨s23, 5, none, by decide +kernel⟩,
   ⟨s23, 5, rec112 0 8, by decide +kernel⟩,
   ⟨s24, 5, 3, 2, onTws s24.dev 3 (fun x => { x with running := none, inFlight := false, waiting := false, tries := 0, busy := true }),
   by decide +kernel⟩,
   ⟨s25, 5, 3, 0, [], onTws s25.dev 3 (fun x => { x with running := none, inFlight := false, waiting := false, tries := 0, busy := true }), (vget
   s25.dev.heads 5).cert ++ (([] : List Byte) ++ List.replicate 28 0xFF).take (certPart (vget s25.dev.heads 5).record 0), by decide +kernel⟩,
   ⟨s26, 5, 3, 200, [], onTws s26.dev 3 (fun x => { x with running := none, inFlight := false, waiting := false, tries := 0, busy := true }), (vget
   s26.dev.heads 5).cert ++ (([] : List Byte) ++ List.replicate 28 0xFF).take (certPart (vget s26.dev.heads 5).record 200), by decide +kernel⟩,
   ⟨s1, by decide +kernel⟩,
   ⟨s27, 5, rec112 1 9, hash32, by decide +kernel⟩,
   ⟨s28, 5, rec112 1 9, hash32, if certOk s28.dev ((rec112 1 9).take 96) hash32 then 1 else 3, by decide +kernel⟩,
   ⟨s29, 5, rec112 1 9, hash32, if certOk s29.dev ((rec112 1 9).take 96) hash32 then 1 else 3, by decide +kernel⟩,
   ⟨s1, 0, by decide +kernel⟩,
   ⟨s30, 5, 9, by decide +kernel⟩,
   ⟨s31, 5, 9, by decide +kernel⟩⟩

end Sys2Proof.Tests.Boot
end

/-! Mode requests that the table of modes does not allow (spec/01_architecture.md R31). -/

namespace Sys2Proof.Machine

/-! ### What a write of PWR_MODE asks -/

/-- The commands that request a mode, each with the code that it writes to PWR_MODE.req (spec/16_power_and_modes.md R475). -/
def modeRequests (m : Fin 7) : List (Instr × Nat) :=
  [(.modeRequestRun m, 6), (.modeRequestIdle m, 8), (.modeRequestFallow m, 9), (.modeRequestDiag m, 10), (.modeRequestLeaveIdle m, 15)]

/-- PWR_MODE.req as the write leaves it, for every code that fits the four bits of the field. -/
theorem fld_req_ofNat {code : Nat} (h : code < 16) : fld (BitVec.ofNat 32 code) 3 0 = code := by
  simp only [fld, bitsOf, BitVec.toNat_ofNat]
  omega

theorem modeRequests_code_lt {m : Fin 7} {c : Instr} {code : Nat} (h : (c, code) ∈ modeRequests m) : code < 16 := by
  simp only [modeRequests, List.mem_cons, Prod.mk.injEq, List.not_mem_nil, or_false] at h
  omega

/-- A command that requests a mode is its master's write of the code to PWR_MODE. -/
theorem exec_modeRequest {m : Fin 7} {c : Instr} {code : Nat} (s : State) (h : (c, code) ∈ modeRequests m) :
    exec c s = .next (writeDo s m (unitBase .power 0 + 4) (BitVec.ofNat 32 code)) := by
  simp only [modeRequests, List.mem_cons, Prod.mk.injEq, List.not_mem_nil, or_false] at h
  obtain ⟨rfl, rfl⟩ | ⟨rfl, rfl⟩ | ⟨rfl, rfl⟩ | ⟨rfl, rfl⟩ | ⟨rfl, rfl⟩ := h <;> rfl

/-- The row of PWR_MODE: its one field is write-only, so a write stores nothing. -/
theorem rowAt_pwrMode : rowAt .power 4 = some { name := "PWR_MODE", off := 4, wo := 0xF } := by decide

/-- A write of PWR_MODE that is taken asks the mode machine for the mode of its field, and does nothing else. -/
theorem writeDo_pwrMode (s : State) (m : Nat) (v : Word) (h : TakesWrite s m .power 0 4 v) :
    writeDo s m (unitBase .power 0 + 4) v =
      devDo s (fun _ d => modeRequest d { master := m, kind := .write, addr := unitBase .power 0 + 4 } (fld v 3 0)) := by
  rw [writeDo_of s m v .power 0 4 _ h (by decide) rowAt_pwrMode (by decide) rfl]
  simp only [storeBits_pulse, afterWrite, powerWritten, if_true]

/-! ### What the mode machine does with a request -/

/-- The mode machine refuses every request that the table does not allow: the guard of each branch that grants one is a line of the table. -/
theorem modeRequested_refused (s : State) (x : Access) (code : Nat) (h : requestAllowed s.sys x.master code = false) :
    modeRequested s x code = refuseMode s x := by
  have no {p : Prop} (hp : p → requestAllowed s.sys x.master code = true) : ¬ p := fun g => by simp [hp g] at h
  by_cases hd : s.sys.drain = true
  · have leave : ¬ (x.master ≤ 2 ∧ code = 15) := no fun ⟨m, c⟩ => by simp [requestAllowed, hd, m, c]
    simp [modeRequested, hd, leave]
  · cases hm : s.sys.mode with
    | ready =>
      have run : ¬ (code = 6 ∧ x.master = 2) := no fun ⟨c, m⟩ => by simp [requestAllowed, hd, hm, m, c]
      have idle : ¬ (x.master ≤ 2 ∧ code = 8) := no fun ⟨m, c⟩ => by simp [requestAllowed, hd, hm, m, c]
      have diag : ¬ (x.master ≤ 2 ∧ code = 10) := no fun ⟨m, c⟩ => by simp [requestAllowed, hd, hm, m, c]
      simp [modeRequested, hd, hm, run, idle, diag]
    | run | degraded =>
      have idle : ¬ (x.master ≤ 2 ∧ code = 8) := no fun ⟨m, c⟩ => by simp [requestAllowed, hd, hm, m, c]
      simp [modeRequested, hd, hm, idle]
    | idle =>
      have fallow : ¬ ((x.master ≤ 2 ∧ code = 9) ∧ s.sys.straps.fallow = 1) := no fun ⟨⟨m, c⟩, f⟩ => by simp [requestAllowed, hd, hm, m, c, f]
      have leave : ¬ (x.master ≤ 2 ∧ code = 15) := no fun ⟨m, c⟩ => by simp [requestAllowed, hd, hm, m, c]
      simp [modeRequested, hd, hm, fallow, leave]
    | _ => simp [modeRequested, hd, hm]

/-- A device that asks for nothing is the same once its requests are dropped. -/
theorem acts_dropped (d : Dev) (h : d.acts = []) : { d with acts := [] } = d := by rw [← h]

/-- A refused request, in a step that asked nothing before, reports FS007 with the write and changes nothing else. -/
theorem devDo_modeRequest_refused (s : State) (x : Access) (code : Nat) (ha : s.dev.acts = [])
    (h : requestAllowed s.sys x.master code = false) :
    devDo s (fun _ d => modeRequest d x code) = withDev s (reportAcc s.dev 7 x.master x.kind x.addr) := by
  have asked : (modeRequest s.dev x code).acts = [.request x code] := by simp [modeRequest, ha]
  have refused := modeRequested_refused (withDev s (modeRequest s.dev x code)) x code h
  rw [devDo_one s _ _ asked, runAct, refused]
  exact congrArg (withDev s) (acts_dropped (reportAcc s.dev 7 x.master x.kind x.addr) ha)

/-- A master's write of PWR_MODE with a request that the table does not allow reports FS007 with that write and changes nothing else. -/
theorem writeDo_pwrMode_refused (s : State) (m : Nat) (v : Word) (ht : TakesWrite s m .power 0 4 v)
    (hr : requestAllowed s.sys m (fld v 3 0) = false) :
    writeDo s m (unitBase .power 0 + 4) v = withDev s (reportAcc s.dev 7 m .write (unitBase .power 0 + 4)) := by
  have ⟨_, _, _, _, _, _, quiet⟩ := ht
  rw [writeDo_pwrMode s m v ht, devDo_modeRequest_refused s _ _ quiet hr]

/-- The class of FS007 after a reset is NOTE (R386). -/
theorem programmed_fs007_reset : programmed State.reset.dev 7 = 0 := by decide

/-- Settles O12: the command is a write of PWR_MODE, which asks the mode machine and stores nothing; the mode machine refuses what the table
does not allow, and the refusal is the report of FS007. -/
theorem refusedModeRequests : Obligations.RefusedModeRequests := by
  refine ⟨programmed_fs007_reset, fun s m c code hc ht hr => ?_⟩
  have hfld : fld (BitVec.ofNat 32 code) 3 0 = code := fld_req_ofNat (modeRequests_code_lt hc)
  rw [exec_modeRequest s hc, writeDo_pwrMode_refused s m _ ht (by rw [hfld]; exact hr)]

end Sys2Proof.Machine

/-! The drovers' computing instructions, branches and jumps (spec/07_jorran_isa.md R206, R218, R219, R225, R226). -/

namespace Sys2Proof.Machine

/-! ### Work registers -/

@[simp] theorem wReg_zero (v : Drover) : wReg v 0 = 0 := by rw [wReg, if_pos rfl]

@[simp] theorem wSet_zero (v : Drover) (x : Word) : wSet v 0 x = v := by rw [wSet, if_pos rfl]

/-- What a register reads after a write to a register that is not w0. -/
theorem wReg_wSet (v : Drover) {r : Nat} (q : Nat) (x : Word) (hr : r ≠ 0) : wReg (wSet v r x) q = if q = r then x else wReg v q := by
  by_cases hq : q = r
  · subst hq
    simp [wReg, wSet, hr, sGet_sPut_same]
  · simp only [wReg, wSet, if_neg hr, if_neg hq, sGet_sPut_other _ _ _ _ _ _ hq]

/-! ### A drover's record changed -/

/-- A change of a drover's record depends only on what it makes of the record that is there. -/
theorem onDrv_congr (d : Dev) (n : Nat) (f g : Drover → Drover) (h : f (drvOf d n) = g (drvOf d n)) : onDrv d n f = onDrv d n g := by
  unfold onDrv vmod
  split
  · next hn =>
    rw [drvOf, vget_eq _ _ hn] at h
    rw [h]
  · rfl

@[simp] theorem takeTrap_acts (d : Dev) (n cause code pc : Nat) (a : Word) : (takeTrap d n cause code pc a).acts = d.acts := by
  simp [takeTrap]

@[simp] theorem retireWith_acts (d : Dev) (n : Nat) (f : Drover → Drover) : (retireWith d n f).acts = d.acts := by
  unfold retireWith
  dsimp only
  split <;> simp

@[simp] theorem jumpTo_acts (d : Dev) (n : Nat) (t : Word) (r : Nat) : (jumpTo d n t r).acts = d.acts := by
  unfold jumpTo
  dsimp only
  split <;> simp [trapHere]

/-- An instruction that is not in the last word retires to the next one. -/
theorem retireWith_next (d : Dev) (n : Nat) (f : Drover → Drover) (h : (drvOf d n).pc + 4 < imSize) :
    retireWith d n f = onDrv d n (fun v => { f v with pc := v.pc + 4 }) := by
  unfold retireWith
  rw [if_pos h]
  exact onDrv_congr d n _ _ rfl

/-- A jump to an instruction address links and goes there. -/
theorem jumpTo_taken (d : Dev) (n : Nat) (t : Word) (r : Nat) (hlt : t.toNat < imSize) (hal : t.toNat % 4 = 0) :
    jumpTo d n t r = onDrv d n (fun v => { wSet v r (BitVec.ofNat 32 (v.pc + 4)) with pc := t.toNat }) := by
  have good : ¬ (t.toNat % 4 ≠ 0 ∨ imSize ≤ t.toNat) := by omega
  unfold jumpTo
  rw [if_neg good]
  exact onDrv_congr d n _ _ rfl

/-- A jump to what is no instruction address traps with cause FETCH at the jump (R226). -/
theorem jumpTo_trap (d : Dev) (n : Nat) (t : Word) (r : Nat) (h : ¬ (t.toNat < imSize ∧ t.toNat % 4 = 0)) :
    jumpTo d n t r = takeTrap d n 2 0 (drvOf d n).pc t := by
  have bad : t.toNat % 4 ≠ 0 ∨ imSize ≤ t.toNat := by omega
  unfold jumpTo
  rw [if_pos bad, trapHere]

/-! ### The target of a branch -/

theorem imm18_bounds (w : Word) : -2 ^ 17 ≤ imm18 w ∧ imm18 w < 2 ^ 17 := by
  unfold imm18 sInt
  split <;> omega

/-- The pc of a drover whose fetch succeeds lies in the instruction memory. -/
theorem pc_lt_of_fetchOk {d : Dev} {n : Nat} (h : fetchOk d n = true) : (drvOf d n).pc < imSize := by
  simp only [fetchOk, Bool.and_eq_true, decide_eq_true_eq] at h
  obtain ⟨⟨-, hpc⟩, -⟩ := h
  exact hpc

/-- The target of a branch lies within 2^19 bytes of an instruction address. -/
theorem target_bounds {d : Dev} {n : Nat} (h : fetchOk d n = true) (w : Word) :
    -2 ^ 19 ≤ (drvOf d n).pc + 4 * imm18 w ∧ (drvOf d n).pc + 4 * imm18 w < 2 ^ 20 := by
  have hpc := pc_lt_of_fetchOk h
  have ⟨lo, hi⟩ := imm18_bounds w
  unfold imSize at hpc
  omega

/-- A target in the instruction memory is its own address. -/
theorem toNat_wordOf_of_mem {t : Int} (h0 : 0 ≤ t) (h1 : t < 0x20000) : (wordOf t).toNat = t.toNat := by
  rw [wordOf, BitVec.toNat_ofInt, Int.emod_eq_of_lt h0 (by omega)]

/-- A target below the memory wraps to an address above it, so the address tells a good target from a bad one. -/
theorem wordOf_instrAddr_iff {t : Int} (lo : -2 ^ 19 ≤ t) (hi : t < 2 ^ 20) :
    (wordOf t).toNat < imSize ∧ (wordOf t).toNat % 4 = 0 ↔ 0 ≤ t ∧ t < 0x20000 ∧ t % 4 = 0 := by
  rw [wordOf, BitVec.toNat_ofInt, imSize]
  omega

/-! ### An instruction that was fetched -/

/-- A row whose word was fetched acts on that word. -/
theorem droverStep_fetched {s : State} {n : Nat} {row : JRow} {w : Word} (h : Fetched s n row w) (f : Word → Dev) :
    droverStep s.dev n row f = f w := by
  obtain ⟨-, -, run, ok, rfl, hrow, legal⟩ := h
  simp [droverStep, run, ok, hrow, legal]

/-- A command that is a row of a drover does, where its word was fetched, what the row does with that word. -/
theorem exec_fetched {s : State} {n : Nat} {row : JRow} {w : Word} {c : Instr} (does : Dev → Word → Dev)
    (hc : exec c s = .next (unitDo s (fun _ d => droverStep d n row (does d)))) (hf : Fetched s n row w)
    (quiet : (does s.dev w).acts = s.dev.acts) : exec c s = .next (withDev s (does s.dev w)) := by
  have hstep := droverStep_fetched hf (does s.dev)
  have ⟨runs, asked, _⟩ := hf
  rw [hc, unitDo_quiet s _ runs (by rw [hstep, quiet, asked]), hstep]

/-! ### The instructions that compute -/

/-- The commands of the RR arithmetic and logic rows. -/
def rrCommands (n : Fin 4) : List (Instr × JRow) :=
  [(.add n, .add), (.sub n, .sub), (.and n, .and), (.or n, .or), (.xor n, .xor), (.shl n, .shl), (.shr n, .shr), (.sra n, .sra),
   (.mul n, .mul), (.mulh n, .mulh)]

theorem exec_rrCommand {n : Fin 4} {c : Instr} {row : JRow} (s : State) (h : (c, row) ∈ rrCommands n) :
    exec c s = .next (unitDo s (fun _ d => doAlu d n row)) := by
  simp only [rrCommands, List.mem_cons, Prod.mk.injEq, List.not_mem_nil, or_false] at h
  obtain ⟨rfl, rfl⟩ | ⟨rfl, rfl⟩ | ⟨rfl, rfl⟩ | ⟨rfl, rfl⟩ | ⟨rfl, rfl⟩ | ⟨rfl, rfl⟩ | ⟨rfl, rfl⟩ | ⟨rfl, rfl⟩ | ⟨rfl, rfl⟩ | ⟨rfl, rfl⟩ := h
    <;> rfl

/-- What the model computes on words is what the rows say of numbers (R218). -/
theorem aluOf_of_rrResult {row : JRow} {a b x : Word} (h : rrResult row a b = some x) : aluOf row a b = x := by
  cases row with
  | add | mul =>
    obtain rfl := Option.some.inj h
    apply BitVec.eq_of_toNat_eq
    simp [aluOf]
  | sub =>
    obtain rfl := Option.some.inj h
    apply BitVec.eq_of_toNat_eq
    rw [aluOf, BitVec.toNat_sub, BitVec.toNat_ofInt]
    omega
  | and | or | xor | mulh => exact Option.some.inj h
  | shl =>
    obtain rfl := Option.some.inj h
    apply BitVec.eq_of_toNat_eq
    simp [aluOf, Nat.shiftLeft_eq]
  | shr =>
    obtain rfl := Option.some.inj h
    apply BitVec.eq_of_toNat_eq
    have hlt : a.toNat / 2 ^ (b.toNat % 32) < 2 ^ 32 := Nat.lt_of_le_of_lt (Nat.div_le_self _ _) a.isLt
    simpa [aluOf, Nat.shiftRight_eq_div_pow] using (Nat.mod_eq_of_lt hlt).symm
  | sra =>
    obtain rfl := Option.some.inj h
    simp [aluOf, BitVec.sshiftRight, Int.shiftRight_eq_div_pow]
  | _ => simp [rrResult] at h

/-- A row that computes, with its command and the result that its word spells. -/
def Computes (s : State) (n : Fin 4) (w : Word) (c : Instr) (row : JRow) (x : Word) : Prop :=
  ((c, row) ∈ rrCommands n ∧ rrResult row (wReg (drvOf s.dev n) (fieldB w)) (wReg (drvOf s.dev n) (fieldC w)) = some x) ∨
  (c = .addi n ∧ row = .addi ∧ x = wReg (drvOf s.dev n) (fieldB w) + BitVec.ofInt 32 (sInt 18 (fld w 31 14))) ∨
  (c = .lui n ∧ row = .lui ∧ x = BitVec.ofNat 32 (fld w 31 14 * 2 ^ 14))

/-- An instruction that computes retires with its result in rd. -/
theorem exec_computes {s : State} {n : Fin 4} {w : Word} {c : Instr} {row : JRow} {x : Word} (hc : Computes s n w c row x)
    (hf : Fetched s n row w) : exec c s = .next (withDev s (retireReg s.dev n (fieldA w) x)) := by
  obtain ⟨hrow, hx⟩ | ⟨rfl, rfl, rfl⟩ | ⟨rfl, rfl, rfl⟩ := hc
  · rw [← aluOf_of_rrResult hx]
    exact exec_fetched (fun d w => retireReg d n (fieldA w) (aluOf row (wReg (drvOf d n) (fieldB w)) (wReg (drvOf d n) (fieldC w))))
      (exec_rrCommand s hrow) hf (retireWith_acts _ _ _)
  · exact exec_fetched (fun d w => retireReg d n (fieldA w) (wReg (drvOf d n) (fieldB w) + wordOf (imm18 w))) rfl hf (retireWith_acts _ _ _)
  · exact exec_fetched (fun d w => retireReg d n (fieldA w) (BitVec.ofNat 32 (fld w 31 14 * 2 ^ 14))) rfl hf (retireWith_acts _ _ _)

/-! ### Branches and jumps -/

/-- The commands of the branch rows, each with its condition on the two registers (R225). -/
def branchCommands (n : Fin 4) (a b : Word) : List (Instr × JRow × Bool) :=
  [(.beq n, .beq, decide (a = b)), (.bne n, .bne, decide (a ≠ b)), (.blt n, .blt, decide (a.toInt < b.toInt)),
   (.bge n, .bge, decide (a.toInt ≥ b.toInt)), (.bltu n, .bltu, decide (a.toNat < b.toNat))]

theorem exec_branchCommand {n : Fin 4} {a b : Word} {c : Instr} {row : JRow} {cond : Bool} (s : State)
    (h : (c, row, cond) ∈ branchCommands n a b) :
    exec c s = .next (unitDo s (fun _ d => doBranch d n row)) ∧ condOf row a b = cond := by
  simp only [branchCommands, List.mem_cons, Prod.mk.injEq, List.not_mem_nil, or_false] at h
  obtain ⟨rfl, rfl, rfl⟩ | ⟨rfl, rfl, rfl⟩ | ⟨rfl, rfl, rfl⟩ | ⟨rfl, rfl, rfl⟩ | ⟨rfl, rfl, rfl⟩ := h <;> exact ⟨rfl, rfl⟩

/-- A branch jumps to its target where its condition holds, and retires where it does not. -/
theorem exec_branch {s : State} {n : Fin 4} {w : Word} {c : Instr} {row : JRow} {cond : Bool}
    (hc : (c, row, cond) ∈ branchCommands n (wReg (drvOf s.dev n) (fieldA w)) (wReg (drvOf s.dev n) (fieldB w)))
    (hf : Fetched s n row w) :
    exec c s = .next (withDev s (if cond then jumpTo s.dev n (branchTarget s.dev n w) 0 else retireWith s.dev n id)) := by
  obtain ⟨hexec, rfl⟩ := exec_branchCommand s hc
  refine exec_fetched (fun d w =>
    if condOf row (wReg (drvOf d n) (fieldA w)) (wReg (drvOf d n) (fieldB w)) then jumpTo d n (branchTarget d n w) 0 else retireWith d n id)
    hexec hf ?_
  split
  · exact jumpTo_acts _ _ _ _
  · exact retireWith_acts _ _ _

theorem exec_jal {s : State} {n : Fin 4} {w : Word} (hf : Fetched s n .jal w) :
    exec (.jal n) s = .next (withDev s (jumpTo s.dev n (branchTarget s.dev n w) 15)) :=
  exec_fetched (fun d w => jumpTo d n (branchTarget d n w) 15) rfl hf (jumpTo_acts _ _ _ _)

theorem exec_jr {s : State} {n : Fin 4} {w : Word} (hf : Fetched s n .jr w) :
    exec (.jr n) s = .next (withDev s (jumpTo s.dev n (wReg (drvOf s.dev n) (fieldB w)) (fieldA w))) :=
  exec_fetched (fun d w => jumpTo d n (wReg (drvOf d n) (fieldB w)) (fieldA w)) rfl hf (jumpTo_acts _ _ _ _)

/-- A jump to the target of the word at the pc, where that is an instruction address. -/
theorem jumpTo_branchTarget_taken (d : Dev) (n : Nat) (w : Word) (r : Nat) {t : Int} (ht : t = (drvOf d n).pc + 4 * imm18 w)
    (h0 : 0 ≤ t) (h1 : t < 0x20000) (hal : t % 4 = 0) :
    jumpTo d n (branchTarget d n w) r = onDrv d n (fun v => { wSet v r (BitVec.ofNat 32 (v.pc + 4)) with pc := t.toNat }) := by
  have addr : (branchTarget d n w).toNat = t.toNat := by rw [branchTarget, ← ht, toNat_wordOf_of_mem h0 h1]
  have hlt : (branchTarget d n w).toNat < imSize := by rw [addr, imSize]; omega
  rw [jumpTo_taken d n _ r hlt (by omega), addr]

/-- A jump to the target of the word at the pc, where that is no instruction address. -/
theorem jumpTo_branchTarget_trap {s : State} {n : Nat} {row : JRow} {w : Word} (hf : Fetched s n row w) (r : Nat) {t : Int}
    (ht : t = (drvOf s.dev n).pc + 4 * imm18 w) (hbad : ¬ (0 ≤ t ∧ t < 0x20000 ∧ t % 4 = 0)) :
    jumpTo s.dev n (branchTarget s.dev n w) r = takeTrap s.dev n 2 0 (drvOf s.dev n).pc (BitVec.ofInt 32 t) := by
  have ⟨_, _, _, hok, _⟩ := hf
  have ⟨lo, hi⟩ := target_bounds hok w
  rw [← ht] at lo hi
  have target : branchTarget s.dev n w = wordOf t := by rw [branchTarget, ht]
  rw [target, jumpTo_trap _ _ _ r (mt (wordOf_instrAddr_iff lo hi).1 hbad), wordOf]

/-- Settles O27: a fetched row acts on its word; a row that computes retires with the number that R218 or R219 gives, and a branch or jump goes to
its target, whose word is an instruction address exactly where the sum of the pc and the offset is one. -/
theorem arithmeticBranchesAndJumps : Obligations.ArithmeticBranchesAndJumps := by
  refine ⟨⟨fun v r q x => ⟨wReg_zero v, wSet_zero v x, wReg_wSet v q x⟩, fun s n w c row x hc hf hpc => ?_⟩,
    fun s n w a b t ha hb ht => ?_⟩
  · rw [exec_computes hc hf, retireReg, retireWith_next _ _ _ hpc]
  · subst ha hb
    refine ⟨fun c row cond hc hf => ?_, fun hf => ?_, fun hf => ?_⟩
    · rw [exec_branch hc hf]
      refine ⟨fun hcond hpc => ?_, fun hcond h0 h1 hal => ?_, fun hcond hbad => ?_⟩
      · rw [hcond, if_neg Bool.false_ne_true, retireWith_next _ _ _ hpc]
        rfl
      · rw [if_pos hcond, jumpTo_branchTarget_taken _ _ _ _ ht h0 h1 hal]
        rfl
      · rw [if_pos hcond, jumpTo_branchTarget_trap hf 0 ht hbad]
    · rw [exec_jal hf]
      refine ⟨fun h0 h1 hal => ?_, fun hbad => ?_⟩
      · rw [jumpTo_branchTarget_taken _ _ _ _ ht h0 h1 hal]
      · rw [jumpTo_branchTarget_trap hf 15 ht hbad]
    · rw [exec_jr hf]
      refine ⟨fun h1 hal => ?_, fun hbad => ?_⟩
      · rw [jumpTo_taken _ _ _ _ h1 hal]
      · rw [jumpTo_trap _ _ _ _ hbad]

end Sys2Proof.Machine

/-! Sequence-clear status registers: events count, and a write clears with the current number alone (spec/12_register_access.md R369). -/

namespace Sys2Proof.Machine

/-! ### Single bits of a word -/

/-- A bit is the field of width one at its place. -/
theorem flag_eq_fld (w : Word) (i : Nat) : flag w i = decide (fld w i i = 1) := by
  rw [flag, fld, bitsOf, Nat.testBit_eq_decide_div_mod_eq, Nat.add_sub_cancel_left, Nat.pow_one]

/-- A bit below a field that was set. -/
theorem flag_setFld_below (w : Word) {hi lo i : Nat} (v : Nat) (h : lo ≤ hi) (h32 : hi < 32) (hi' : i < lo) :
    flag (setFld w hi lo v) i = flag w i := by
  rw [flag_eq_fld, flag_eq_fld, fld_setFld_below w hi lo v i i h h32 (Nat.le_refl i) hi']

@[simp] theorem flag_or (w v : Word) (i : Nat) : flag (w ||| v) i = (flag w i || flag v i) := BitVec.getLsbD_or

@[simp] theorem flag_and (w v : Word) (i : Nat) : flag (w &&& v) i = (flag w i && flag v i) := BitVec.getLsbD_and

theorem flag_not (w : Word) {i : Nat} (h : i < 32) : flag (~~~ w) i = !flag w i := by
  calc flag (~~~ w) i = (decide (i < 32) && !flag w i) := BitVec.getLsbD_not
    _ = !flag w i := by rw [decide_eq_true h, Bool.true_and]

theorem flag_ofNat (x : Nat) {i : Nat} (h : i < 32) : flag (BitVec.ofNat 32 x) i = x.testBit i := by
  rw [flag, BitVec.toNat_ofNat, Nat.testBit_mod_two_pow, decide_eq_true h, Bool.true_and]

/-- The mask of the bits that stand below a sequence number. -/
theorem flag_low24 {i : Nat} (h : i < 32) : flag 0xFFFFFF#32 i = decide (i < 24) := by
  rw [flag_ofNat _ h]
  exact Nat.testBit_two_pow_sub_one 24 i

/-! ### A status word after an event and after a clear -/

/-- An event sets the bits of its mask below the sequence number, and no other. -/
theorem flag_sqcEvent (w : Word) (mask : Nat) {i : Nat} (h : i < 24) : flag (sqcEvent w mask) i = (flag w i || mask.testBit i) := by
  rw [sqcEvent, flag_setFld_below _ _ (by decide) (by decide) h, flag_or, flag_ofNat _ (by omega)]

theorem sqcClear_other (w v mask : Word) (h : fld v 31 24 ≠ fld w 31 24) : sqcClear w v mask = w := if_neg h

/-- A clear with the current number clears the bits of the mask that are 1 in the write, below the sequence number, and no other. -/
theorem flag_sqcClear (w v : Word) (mask : Nat) (h : fld v 31 24 = fld w 31 24) {i : Nat} (hi : i < 32) :
    flag (sqcClear w v (BitVec.ofNat 32 mask)) i = (flag w i && !(flag v i && mask.testBit i && decide (i < 24))) := by
  rw [sqcClear, if_pos h, flag_and, flag_not _ hi, flag_and, flag_and, flag_ofNat _ hi, flag_low24 hi]

/-! ### The sequence-clear registers of the tables -/

/-- The row that a table gives for an offset is one of its rows, and the offset is one of the row's places. -/
theorem findRow_some {t : List RegRow} {o : Nat} {r : RegRow} (h : findRow t o = some r) : r ∈ t ∧ ∃ k < r.cnt, o = r.off + k * r.step := by
  have place := List.find?_some h
  simp only [Bool.and_eq_true, decide_eq_true_eq] at place
  obtain ⟨⟨low, high⟩, whole⟩ := place
  refine ⟨List.mem_of_find?_eq_some h, (o - r.off) / r.step, ?_, ?_⟩
  · exact Nat.div_lt_of_lt_mul (by rw [Nat.mul_comm]; omega)
  · rw [Nat.div_mul_cancel (Nat.dvd_of_mod_eq_zero whole)]; omega

/-- A row with sequence-clear bits has no other bits that a write reaches. -/
theorem sqcRow_pure (u : UnitKind) : ∀ r ∈ unitRegs u, r.sqc ≠ 0 → r.rw = 0 ∧ r.rws = 0 ∧ r.grd = 0 ∧ r.once = 0 := by
  cases u <;> decide

/-- Where the sequence-clear registers of a unit stand: the one status register of most units, or several. -/
def sqcPlace (u : UnitKind) (o : Nat) : Bool :=
  match u with
  | .glob | .otp => false
  | .customs | .power | .boot | .harv => decide (o = 0)
  | .thermal | .sec | .csi | .toll | .link | .tt => decide (o = 4)
  | .pipe | .feeder => decide (o = 8)
  | .tws | .lane => decide (o = 0xC)
  | .time => decide (o = 4 ∨ o = 0x414)
  | .twt => decide (o = 0x20 ∨ o = 0x100C)
  | .head => decide (o % 0x40 = 4)
  | .ctx => decide (o = 0x14 ∨ o = 0x164 ∨ o = 0x70C)
  | .view => decide (o = 0x30)
  | .tap => decide (o % 0x40 = 0x10)
  | .drv => decide (o = 0x3C)

theorem sqcRow_place (u : UnitKind) : ∀ r ∈ unitRegs u, r.sqc ≠ 0 → ∀ k < r.cnt, sqcPlace u (r.off + k * r.step) = true := by
  cases u <;> decide

/-- A write of a sequence-clear register has no effect beside its stored bits. -/
theorem afterWrite_sqcPlace (e : Env) (d : Dev) (x : Access) {u : UnitKind} (n : Nat) {o : Nat} (old v : Word) (h : sqcPlace u o = true) :
    afterWrite e d x u n o old v = d := by
  cases u <;> simp only [sqcPlace, decide_eq_true_eq, Bool.false_eq_true] at h
  case boot | pipe | toll | view | harv => rfl
  case customs | power | thermal | sec | tws | csi | link | lane | feeder | tt | drv => subst h; rfl
  case time | twt => obtain rfl | rfl := h <;> rfl
  case ctx => obtain rfl | rfl | rfl := h <;> rfl
  case head => simp [afterWrite, headWritten, h]
  case tap => simp [afterWrite, h]

/-! ### A write of a sequence-clear register -/

/-- The conditions of a word of a unit block that is a register of its own, by name. -/
theorem plainReg_iff (u : UnitKind) (n o : Nat) : plainReg u n o = true ↔
    inPan (unitBase u n + o) = false ∧ inAlias (unitBase u n + o) = false ∧ memAt (unitBase u n + o) = none ∧
    unitAt (unitBase u n + o) = some (u, n, o) ∧ o < 0x2000 ∧ (unitBase u n + o) % 4 = 0 ∧
    isReservedWord u n o = false ∧ isPairWord u o = false := by
  simp only [plainReg, Bool.and_eq_true, Bool.not_eq_true', decide_eq_true_eq, Option.isNone_iff_eq_none, and_assoc]

/-- The crossbar accepts a write that is taken, of a register that is no guarded pair: the stored bits, then the effect. -/
theorem busWrite_of (s : State) {m : Nat} {v : Word} {u : UnitKind} {n o : Nat} {r : RegRow} (ht : TakesWrite s m u n o v)
    (hp : plainReg u n o = true) (hr : rowAt u o = some r) (hw : rowReadOnly r = false) (hg : r.grd = 0) :
    busWrite s.env s.dev m 4 (unitBase u n + o) v =
      (true, afterWrite s.env (storeBits s.env s.dev m u n o r v) { master := m, kind := .write, addr := unitBase u n + o } u n o
        (rd s.dev (unitBase u n + o)) v) := by
  obtain ⟨pan, notAlias, mem, unit, low, word, reserved, pairWord⟩ := (plainReg_iff u n o).1 hp
  obtain ⟨mode, pair, on, fence, master, fits, -⟩ := ht
  rw [busWrite_reg _ _ _ _ _ u n o pan notAlias mem unit low word pair mode,
    regStore_takes _ _ _ _ _ u n o r reserved pairWord hr hw on fence master fits hg]

/-- A command's write that the crossbar accepts and that asks nothing of the mode machine is the write's change of the device. -/
theorem writeDo_accepted {s : State} {m a : Nat} {v : Word} {d : Dev} (h : busWrite s.env s.dev m 4 a v = (true, d)) (quiet : d.acts = []) :
    writeDo s m a v = withDev s d :=
  calc writeDo s m a v = withDev s (busWrite s.env s.dev m 4 a v).2 := devDo_quiet s _ (by rw [h]; exact quiet)
    _ = withDev s d := by rw [h]

/-- The crossbar accepts a write of a sequence-clear register that is taken, and the write changes that register alone, as a clear does. -/
theorem busWrite_sqc (s : State) {m : Nat} {v : Word} {u : UnitKind} {n o : Nat} {r : RegRow} (ht : TakesWrite s m u n o v)
    (hp : plainReg u n o = true) (hr : rowAt u o = some r) (hs : r.sqc ≠ 0) (hw : rowReadOnly r = false) :
    busWrite s.env s.dev m 4 (unitBase u n + o) v =
      (true, wr s.dev (unitBase u n + o) (sqcClear (rd s.dev (unitBase u n + o)) v (BitVec.ofNat 32 r.sqc))) := by
  obtain ⟨row, k, hk, rfl⟩ := findRow_some hr
  obtain ⟨rw0, rws0, grd0, once0⟩ := sqcRow_pure u r row hs
  rw [busWrite_of s ht hp hr hw grd0, afterWrite_sqcPlace _ _ _ _ _ _ (sqcRow_place u r row hs k hk),
    storeBits_sqc _ _ _ _ _ _ _ _ rw0 rws0 hs once0]

/-- A row of a plain register with sequence-clear bits makes its address one of a sequence-clear register. -/
theorem sqcAt_plainReg {u : UnitKind} {n o : Nat} {r : RegRow} (hp : plainReg u n o = true) (hr : rowAt u o = some r) (hs : r.sqc ≠ 0) :
    sqcAt (unitBase u n + o) = true := by
  obtain ⟨-, -, -, unit, -⟩ := (plainReg_iff u n o).1 hp
  simp [sqcAt, rowOfAddr, unit, hr, hs]

/-- The command at a sequence-clear register that takes the write clears that register and changes nothing else. -/
theorem exec_sqcClear (s : State) {m : Fin 7} {v a : Word} {u : UnitKind} {n o : Nat} {r : RegRow} (ht : TakesWrite s m u n o v)
    (hp : plainReg u n o = true) (hr : rowAt u o = some r) (ha : a.toNat = unitBase u n + o) (hs : r.sqc ≠ 0) (hw : rowReadOnly r = false) :
    exec (.sqcClear m a v) s = .next (withDev s (wr s.dev a.toNat (sqcClear (rd s.dev a.toNat) v (BitVec.ofNat 32 r.sqc)))) := by
  have named : exec (.sqcClear m a v) s = .next (if sqcAt a.toNat then writeDo s m a.toNat v else s) := rfl
  have accepted := busWrite_sqc s ht hp hr hs hw
  obtain ⟨-, -, -, -, -, -, quiet⟩ := ht
  rw [named, ha, if_pos (sqcAt_plainReg hp hr hs), writeDo_accepted accepted quiet]

/-- Settles O19: an event sets its bit and counts; a write that is taken leaves the register's word as a clear does, which is the word itself
where the numbers differ. -/
theorem sequenceClearStatus : Obligations.SequenceClearStatus := by
  refine ⟨fun w k hk => ⟨sqcEvent_seq w _, fun i hi => ?_⟩, fun s m u n o r a v ht hp hr ha hs hw => ?_⟩
  · rw [flag_sqcEvent w _ hi, Nat.testBit_two_pow, decide_eq_decide.2 eq_comm]
  · refine ⟨_, exec_sqcClear s ht hp hr ha hs hw, ?accepted, rfl, rfl, rfl, rfl, fun b hb => ?others, fun hne => ?kept, fun heq i hi => ?cleared⟩
    case accepted => rw [ha, busWrite_sqc s ht hp hr hs hw]
    case others => exact rd_wr_other _ _ _ _ (by simpa using hb)
    case kept => exact (rd_wr_same _ _ _).trans (sqcClear_other _ _ _ hne)
    case cleared =>
      rw [withDev_dev, rd_wr_same]
      exact flag_sqcClear _ _ _ heq hi

end Sys2Proof.Machine
